-- ==== Sys2Proof/Word.lean ====
section
/-! DEFINITION. Bytes, words and their plainest arithmetic: little-endian order (R4) and bit fields. -/

namespace Sys2Proof

abbrev Byte := BitVec 8
abbrev Word := BitVec 64

/-- The value of bytes in little-endian order (R4). -/
def leNat : List Byte → Nat
  | [] => 0
  | b :: bs => b.toNat + 256 * leNat bs

/-- The `n` bytes of a number in little-endian order (R4). -/
def natLe : Nat → Nat → List Byte
  | 0, _ => []
  | n + 1, v => BitVec.ofNat 8 v :: natLe n (v / 256)

/-- The field [hi:lo] of a number, as a number (R4). -/
def fieldOf (hi lo v : Nat) : Nat := v / 2 ^ lo % 2 ^ (hi + 1 - lo)

/-- Bit `i` of a number. -/
def bitOf (i v : Nat) : Bool := v.testBit i

/-- A truth value as 0 or 1. -/
def b2n (b : Bool) : Nat := if b then 1 else 0

/-- `n` copies of a byte, or a list cut or filled with zeros to `n` bytes. -/
def fitBytes : Nat → List Byte → List Byte
  | 0, _ => []
  | n + 1, [] => 0 :: fitBytes n []
  | n + 1, b :: bs => b :: fitBytes n bs

/-- The least multiple of `m` that is not below `n`. -/
def roundUp (n m : Nat) : Nat := (n + m - 1) / m * m

/-- A counter that saturates at `top`. -/
def satAdd (top a b : Nat) : Nat := min top (a + b)

end Sys2Proof
end

