-- ==== Sys2Proof/Syntax.lean ====
section
/-! DEFINITION. The commands of the block: one constructor of `Instr` for each row of the spec's table of
operations and events, with what comes from outside the part (a master's identity, a written value, an answer of
a drive, bytes read over a link, a Time) as operands. -/

namespace Sys2Proof

/-- Which half of a 64-bit register an access covers (R54, R55). -/
inductive Acc where
  | lo | hi | full
  deriving DecidableEq, Repr

/-- What a read over a link, or of a command, brings back: bytes, or a failure with the CAUSE of CHN_ERR (R248) and the number of the
line, from 0, that failed first (R249). For an access of zone 0 the bytes are the part's own and this operand is not looked at. -/
inductive ReadResult where
  | ok (data : List Byte)
  | fail (cause : BitVec 8) (line : Nat)
  deriving DecidableEq, Repr

/-- The response of a write on a link: acknowledged, or failed with a CAUSE (R229, R248) at the beat of that number, from 0 (R249). -/
inductive WriteResult where
  | ok
  | fail (cause : BitVec 8) (beat : Nat)
  deriving DecidableEq, Repr

/-- An upset of the Central Store: one bit, or two bits, of the 64-bit word at byte address `8 * word` (R279). -/
structure Upset where
  word : Nat
  double : Bool
  deriving DecidableEq, Repr

/-- Where an inbound request goes: a BAR of a host port (R49), or a zone-0 address (R48). -/
inductive MemTarget where
  | bar (index : Fin 3) (off : BitVec 64)
  | zone0 (addr : BitVec 64)
  deriving DecidableEq, Repr

/-- An inbound memory request (R54, R288, R363, R369): a read of `len` bytes with byte enables, of the Central Store none need be looked
at, a write of bytes with byte enables and the poison bit, or a request that no function of the port supports. -/
inductive MemRequest where
  | unsupported
  | read (target : MemTarget) (len : Nat) (be : List Bool)
  | write (target : MemTarget) (data : List Byte) (be : List Bool) (poisoned : Bool)
  deriving DecidableEq, Repr

/-- A host write to configuration space or to the MSI-X Table (R322, R365 to R368). -/
inductive ConfigWrite where
  | msixEnable (v : Bool)
  | functionMask (v : Bool)
  | busMaster (v : Bool)
  | d3hot (v : Bool)
  | completionTimeout (us : Nat)
  | completionTimeoutDisable (v : Bool)
  | maxPayload (bytes : Nat)
  | maxReadRequest (bytes : Nat)
  | aspmL1 (v : Bool)
  | tenBitTags (v : Bool)
  | tableAddress (vec : Fin 8192) (addr : BitVec 64)
  | tableData (vec : Fin 8192) (data : BitVec 32)
  | tableMask (vec : Fin 8192) (masked : Bool)
  deriving DecidableEq, Repr

/-- A received Fenuz frame: whether its FCS is good, and its client data (R346). -/
structure Frame where
  fcsOk : Bool
  bytes : List Byte
  deriving DecidableEq, Repr

/-- The end of a time exchange at the child (R351, R361): t4, and whether t2 or t3 lies across a TIME_STEP of the GM. -/
structure ExchangeEnd where
  time : Nat
  across : Bool
  deriving DecidableEq, Repr

/-- A loopback measurement of a Fenuz port (R400): the Time at which it begins, and the transmit and the receive delay that it finds. -/
structure Loopback where
  time : Nat
  tx : Nat
  rx : Nat
  deriving DecidableEq, Repr

/-- What a health test of the entropy source judges (R403): raw bits from the start of a window on, or how many arrived in 1 us. -/
inductive RawBits where
  | bits (l : List Bool)
  | slow (arrived : Nat)
  deriving DecidableEq, Repr

/-- How a TAMPER_IN pin stands (R423). -/
inductive PinLevel where
  | open_ | low | high
  deriving DecidableEq, Repr

/-- What a tamper source senses (R406, R411): of a TAMPER_IN pin its level; of the others that they detect, with what the record tells. -/
inductive TamperSense where
  | pin (l : PinLevel)
  | other (arg : BitVec 16)
  deriving DecidableEq, Repr

/-- The pins that have a cell of the boundary-scan register: those of R422 but for the TAP's own and the sense lines, and the SerDes
lanes; TAMPER_IN, TMESH_A and TMESH_B are excluded (R427). -/
inductive Pin where
  | sysRst | hostPerst (p : Fin 2) | bkpPerst (k : Fin 8) | bkpPrsnt (k : Fin 8) | gpio (k : Fin 16) | tref | ppsIn | ppsOut
  | sbScl | sbSda | sbAsel (i : Fin 2) | qspiSclk | qspiCs | qspiIo (i : Fin 4) | lane (i : Fin 66)
  deriving DecidableEq, Repr

/-- What a drive tells at an attach (R100): the queue pairs granted, MDTS, CAP.MQES, CAP.DSTRD, its PCI vendor and
the LBA data size of each namespace. -/
structure DriveInfo where
  granted : Nat
  mdts : Nat
  mqes : Nat
  dstrd : Nat
  vendor : BitVec 16
  lbaSizes : List Nat
  deriving DecidableEq, Repr

/-- The progress of an attach: CC.EN set and CSTS.RDY awaited for CAP.TO (units of 500 ms), ready, or a fatal
status. -/
inductive DriveAnswer where
  | starting (capTo : Nat)
  | ready (info : DriveInfo)
  | fatal
  deriving DecidableEq, Repr

/-- The progress of an admin command: issued, or completed with DW0 and the status field (R101). -/
inductive AdminAnswer where
  | issued
  | done (dw0 : BitVec 32) (status : BitVec 16)
  deriving DecidableEq, Repr

/-- The progress of a store self-test: running, or ended with its results (R102). -/
inductive BistAnswer where
  | started
  | done (pass : Bool) (corrected : BitVec 32) (failedPages : BitVec 32)
  deriving DecidableEq, Repr

/-- The progress of a known-answer test: running, or ended (R103). -/
inductive KatAnswer where
  | started
  | done (pass : Bool)
  deriving DecidableEq, Repr

/-- Which read of a ring failed (R158, R328). -/
inductive RingRead where
  | window | tail | head
  deriving DecidableEq, Repr

/-- The kinds of crypto unit a command waits for (R257). -/
inductive UnitKind where
  | aes | sha | p521
  deriving DecidableEq, Repr

/-- How a regulator transaction ended (R394, R426): VOUT_MODE was read, VOUT_COMMAND was taken, not acknowledged,
or arbitration was lost. -/
inductive PmbusAnswer where
  | voutMode (value : BitVec 8)
  | sent
  | nak
  | arbitrationLost
  deriving DecidableEq, Repr

/-- The commands of the block, one constructor for each row of the table. -/
inductive Instr where
  /-- REGISTER_WRITE (R6): A write to a register that has no row of its own updates its fields as its access types define. -/
  | registerWrite (m : BitVec 8) (off : Nat) (acc : Acc) (data : BitVec 64)
  /-- UNMAPPED_ACCESS (R56): An access to an unmapped or refused address returns all-ones or is dropped, or is a bus error, and writes one FAULT record. -/
  | unmappedAccess (m : BitVec 8) (addr : BitVec 64) (len : Nat) (write : Bool)
  /-- TIME_NOW_LO_READ (R36): A read covering bits [31:0] of TIME_NOW_LO captures the full 80-bit Time into the reading master's snapshot. -/
  | timeNowLoRead (m : BitVec 8) (acc : Acc)
  /-- TIME_CTL_WRITE (R32): A write of TIME_CTL selects the reference and PPS settings; a change of REF_SEL sets STATE to ACQUIRING. -/
  | timeCtlWrite (m : BitVec 8) (acc : Acc) (data : BitVec 64)
  /-- TIME_STATUS (R40): At each whole second of Time the time core writes a TIME_STATUS record and raises Carillon source 0x1C2. -/
  | timeStatus (now : Nat)
  /-- PPS_IN_EDGE (R32): An active PPS_IN edge is captured in TIME_PPS_IN, logged, reported as Carillon source 0x1C0 and, on the grandmaster, marks a second. -/
  | ppsInEdge (rising : Bool) (now : Nat) : Instr
  /-- PPS_OUT_RISE (R35): When the fraction of Time crosses TIME_PPS.OFS, PPS_OUT rises and Carillon source 0x1C1 fires. -/
  | ppsOutRise (now : Nat)
  /-- PPS_OUT_FALL (R35): PPS_OUT falls once it has been high for TIME_PPS.WID microseconds. -/
  | ppsOutFall (now : Nat)
  /-- REFERENCE_LOST (R33): Loss of the chosen time source sets STATE to HOLDOVER and ALIGN begins to grow by GROW each second. -/
  | referenceLost (now : Nat)
  /-- REFERENCE_RETURN (R33): Return of the chosen source takes STATE through ACQUIRING towards LOCKED, with Time slewed back. -/
  | referenceReturn (now : Nat)
  /-- ALWAYS_LOGGED_RECORD_ENTRY (R42): An always-logged record that waited at its stamp point enters the drain FIFO once an entry frees. -/
  | alwaysLoggedRecordEntry
  /-- LOG_LOST_RECORD (R42): After drops, a LOG_LOST record giving their number enters the drain FIFO as soon as an entry is free to it. -/
  | logLostRecord : Instr
  /-- LOG_BATCH_WRITE (R43): The stamp-log writer moves a batch of 16 records into the Stamp Log ring and advances LOG_WR.IDX. -/
  | logBatchWrite
  /-- LOG_TMO_EXPIRY (R43): When records have waited LOG_TMO.TMO microseconds untaken, the writer moves all whole records present. -/
  | logTmoExpiry (now : Nat)
  /-- LOG_FLUSH (R44): A write of 1 to LOG_CTL.FLUSH discards the drain FIFO, sets LOG_STAT.FLUSHED and PART, and logs a LOG_FLUSH record. -/
  | logFlush (m : BitVec 8) (cut : Bool)
  /-- LOG_LOST_READ (R6): A read of LOG_LOST returns the dropped-record count and clears it. -/
  | logLostRead (m : BitVec 8) (acc : Acc)
  /-- LCK_SEM_READ (R58): A read of LCK_SEM covering bits [31:0] acquires a free lock for the reader or returns the holder of a held one. -/
  | lckSemRead (m : BitVec 8) (n : Fin 256) (acc : Acc)
  /-- LCK_SEM_WRITE (R58): A write of LCK_SEM stores BUSY and OWNER as written, releasing, seizing or handing over the lock. -/
  | lckSemWrite (m : BitVec 8) (n : Fin 256) (acc : Acc) (data : BitVec 64) : Instr
  /-- MBX_IN_POST (R67): A read of MBX_IN_POST checks the staged inbound message and appends it or refuses it, returning RES. -/
  | mbxInPost (m : BitVec 8) (c : Fin 32) (acc : Acc)
  /-- MBX_OUT_POST (R67): A read of MBX_OUT_POST checks the staged outbound message and appends it or refuses it, returning RES. -/
  | mbxOutPost (m : BitVec 8) (c : Fin 32) (acc : Acc)
  /-- MBX_IN_POP (R70): A write of 1 to MBX_IN_POP removes the oldest inbound message and stamps MBX_DEQ. -/
  | mbxInPop (m : BitVec 8) (c : Fin 32)
  /-- MBX_OUT_POP (R70): A write of 1 to MBX_OUT_POP removes the oldest outbound message, stamps MBX_DEQ and restarts the read timer if messages remain. -/
  | mbxOutPop (m : BitVec 8) (c : Fin 32)
  /-- FLUSH_IN (R72): A write of 1 to MBX_CTL.FLUSH_IN discards every inbound message and sets IN_FLUSHED. -/
  | flushIn (m : BitVec 8) (c : Fin 32)
  /-- FLUSH_OUT (R72): A write of 1 to MBX_CTL.FLUSH_OUT discards every outbound message and sets OUT_FLUSHED. -/
  | flushOut (m : BitVec 8) (c : Fin 32) : Instr
  /-- BUMP_IN (R68): A write of 1 to MBX_CTL.BUMP_IN advances IN_EP, and Snima discards the channel key. -/
  | bumpIn (m : BitVec 8) (c : Fin 32)
  /-- BUMP_OUT (R68): A write of 1 to MBX_CTL.BUMP_OUT advances OUT_EP, and Snima discards the channel key. -/
  | bumpOut (m : BitVec 8) (c : Fin 32)
  /-- MBX_STALE_CLEAR (R73): A W1C of MBX_STAT.STALE clears it and restarts the read timer if the outbound FIFO is non-empty. -/
  | mbxStaleClear (m : BitVec 8) (c : Fin 32)
  /-- MBX_RTO_WRITE (R73): A write of MBX_RTO takes effect at once against the running timer, setting STALE, stopping or restarting it. -/
  | mbxRtoWrite (m : BitVec 8) (c : Fin 32) (acc : Acc) (data : BitVec 64)
  /-- MBX_READ_TIMEOUT (R73): When the outbound read timer reaches RTO, MBX_STAT.STALE is set. -/
  | mbxReadTimeout (c : Fin 32) (now : Nat)
  /-- SNIMA_RESPONSE_POSTED (R83): Snima posts a response that waited for room in a full outbound FIFO, letting its channel proceed. -/
  | snimaResponsePosted (c : Fin 32) : Instr
  /-- DEV_INFO (R90): Snima returns the part code, grade, stepping, firmware version and SVN, NODE and boot source. -/
  | devInfo (c : Fin 32)
  /-- DEV_HEALTH (R90): Snima returns STALE_CNT, AUTH_CNT and the crypto units out of rotation. -/
  | devHealth (c : Fin 32)
  /-- OPER_NONCE (R89): Snima returns a fresh 32-byte nonce from the DRBG, replacing any previous one. -/
  | operNonce (c : Fin 32)
  /-- OPER_OPEN (R89): Snima verifies the operator signature, performs ECDH, derives the channel MAC key and KT, and returns the signed device point. -/
  | operOpen (c : Fin 32)
  /-- OPER_CLOSE (R88): Snima answers under the channel key and then discards it and KT. -/
  | operClose (c : Fin 32)
  /-- DEV_RESTART (R90): Snima posts its response and then restarts the management cores from ROM or warm-resets the part. -/
  | devRestart (c : Fin 32) : Instr
  /-- LAYOUT_GET (R93): Snima returns the layout parameters, each region's start and size, and the spare base. -/
  | layoutGet (c : Fin 32)
  /-- LAYOUT_SET (R94): Snima places the regions anew, zeroes the Pattern Table, Ballast and Stamp Log, and moves the Stamp Log registers. -/
  | layoutSet (c : Fin 32)
  /-- CQ_CREATE (R95): Snima creates a completion queue with its enable bit clear and writes its configuration registers. -/
  | cqCreate (c : Fin 32)
  /-- SQ_CREATE (R96): Snima creates a submission queue bound to a CQ and a channel set, with its enable bit clear. -/
  | sqCreate (c : Fin 32)
  /-- SQ_DELETE (R98): Snima deletes a disabled, idle SQ and frees its channels. -/
  | sqDelete (c : Fin 32)
  /-- CQ_DELETE (R98): Snima deletes a CQ that no SQ is bound to and whose Ballast is empty. -/
  | cqDelete (c : Fin 32) : Instr
  /-- Q_QUERY (R98): Snima returns a queue's stored create payload, EN, IDLE and Ballast count. -/
  | qQuery (c : Fin 32)
  /-- DRV_LIST (R99): Snima returns presence, attachment, link state and queue grants of the eight drives. -/
  | drvList (c : Fin 32)
  /-- DRV_ATTACH (R100): Snima resets and enables an NVMe controller, identifies it and creates its admin and I/O queue pairs at QBASE. -/
  | drvAttach (c : Fin 32) (ans : DriveAnswer)
  /-- DRIVE_READY_TIMEOUT (R100): When CSTS.RDY does not appear within CAP.TO during an attach, the attach answers SN_HW_FAULT and the drive stays detached. -/
  | driveReadyTimeout (c : Fin 32) (now : Nat)
  /-- DRV_DETACH (R101): Snima deletes a drive's I/O queues and shuts it down through CC.SHN. -/
  | drvDetach (c : Fin 32)
  /-- DRV_ADMIN (R101): Snima issues an admin command image to a drive with its own CID and PRPs and returns DW0 and status. -/
  | drvAdmin (c : Fin 32) (ans : AdminAnswer) : Instr
  /-- DRV_ADMIN_TIMEOUT (R101): An admin command not completed within 30 s answers SN_HW_FAULT and is aborted. -/
  | drvAdminTimeout (c : Fin 32) (now : Nat)
  /-- SEG_RELEASE (R102): Snima releases an eligible Central Store segment from use. -/
  | segRelease (c : Fin 32)
  /-- SEG_RETURN (R102): Snima returns a released segment to use. -/
  | segReturn (c : Fin 32)
  /-- STORE_BIST (R102): Snima runs a self-test on a released segment, leaving it zero, and reports the result. -/
  | storeBist (c : Fin 32) (ans : BistAnswer)
  /-- CRYPTO_KAT (R103): Snima runs a known-answer test on one crypto unit, taking it out of rotation meanwhile and for good if it fails. -/
  | cryptoKat (c : Fin 32) (ans : KatAnswer)
  /-- CAL_STATUS (R102): Snima returns lane adaptation, stamp-point calibration and entropy health status. -/
  | calStatus (c : Fin 32) : Instr
  /-- TAMP_ARM (R407): Snima writes the tamper arming word, polarities and AONLOSS to the vault unless a source being armed is detecting. -/
  | tampArm (c : Fin 32)
  /-- BOOT_STAGED (R106): In WAIT_MBX the ROM copies and verifies an image staged in the Central Store and starts it if good. -/
  | bootStaged
  /-- SESS_IMPORT (R119): Snima rewraps a key carried under KT into a new session context with a new epoch. -/
  | sessImport (c : Fin 32)
  /-- SESS_GENERATE (R119): Snima draws a new key from the DRBG into a session context, returning the public point for KTYPE 0x04. -/
  | sessGenerate (c : Fin 32)
  /-- SESS_EXPORT (R119): Snima returns a session's key wrapped under KT when EXPORT permits. -/
  | sessExport (c : Fin 32)
  /-- SESS_POLICY (R119): Snima rewrites a session's policy under a new epoch, carrying USED forward. -/
  | sessPolicy (c : Fin 32) : Instr
  /-- SESS_DESTROY (R120): Snima empties a session context under a new epoch, discarding its counts. -/
  | sessDestroy (c : Fin 32)
  /-- SESS_QUERY (R119): Snima folds pending counts into USED and returns the context without its key. -/
  | sessQuery (c : Fin 32)
  /-- SESS_MIGRATE_OUT (R121): Snima writes a migration record rewrapped under FKEK and destroys the session. -/
  | sessMigrateOut (c : Fin 32)
  /-- SESS_ADOPT (R121): Snima checks a migration record and rewraps it into a session under DKEK. -/
  | sessAdopt (c : Fin 32)
  /-- OPER_CLAIM (R122): Snima enrols the first operator point in slot 0 when all slots are empty. -/
  | operClaim (c : Fin 32)
  /-- OPER_ENROLL (R122): Snima enrols an operator point in an empty slot. -/
  | operEnroll (c : Fin 32) : Instr
  /-- OPER_REVOKE (R122): Snima empties an operator slot and discards the keys of channels opened under it. -/
  | operRevoke (c : Fin 32)
  /-- OPER_LIST (R119): Snima returns the slot bitmap and the SHA-512 of the slot table. -/
  | operList (c : Fin 32)
  /-- ATT_REPORT (R123): Snima writes a DIK-signed attestation report over the caller's nonce to the Central Store. -/
  | attReport (c : Fin 32)
  /-- ATT_CERT (R124): Snima writes the device certificate to the Central Store. -/
  | attCert (c : Fin 32)
  /-- FW_STAGE (R127): Snima verifies a staged image and writes it to the slot other than ACTIVE, reading it back. -/
  | fwStage (c : Fin 32) (flashOk : Bool)
  /-- FW_ACTIVATE (R127): Snima sets TRIAL and TRIAL_LEFT in the boot record and optionally restarts. -/
  | fwActivate (c : Fin 32) : Instr
  /-- FW_COMMIT (R127): Snima makes the running trial slot ACTIVE, clears TRIAL and optionally raises MIN_SVN. -/
  | fwCommit (c : Fin 32)
  /-- FW_ROLLBACK (R127): Snima clears TRIAL and optionally restarts. -/
  | fwRollback (c : Fin 32)
  /-- FW_STATUS (R127): Snima returns the boot record and the version and SVN of each slot. -/
  | fwStatus (c : Fin 32)
  /-- FLEET_STATUS (R360): Snima returns NODE, membership, GM, HOPS, FLEET_ID, ALIGN and UNC. -/
  | fleetStatus (c : Fin 32)
  /-- FLEET_CREATE (R354): Snima draws FRK and FLEET_ID, stores them with NODE in the vault and derives FKEK. -/
  | fleetCreate (c : Fin 32)
  /-- FLEET_ADMIT (R354): Snima holds an admission for a joiner NODE and DIK hash for 60 s. -/
  | fleetAdmit (c : Fin 32) : Instr
  /-- FLEET_JOIN (R354): Snima runs the HELLO, CHALLENGE, PROOF, GRANT exchange with a sponsor and stores FRK, FLEET_ID and NODE. -/
  | fleetJoin (c : Fin 32)
  /-- FLEET_LEAVE (R360): Snima erases FRK, FLEET_ID and NODE, ending membership. -/
  | fleetLeave (c : Fin 32)
  /-- TIME_SET (R360): Snima steps Time forward on the grandmaster or a non-member, logging TIME_STEP. -/
  | timeSet (c : Fin 32)
  /-- MBX_RELAY (R358): Snima carries one Snima request to a remote part's mailbox channel and returns its response. -/
  | mbxRelay (c : Fin 32)
  /-- FLEET_ATTEST (R360): Snima obtains a remote part's attestation report into the local Central Store. -/
  | fleetAttest (c : Fin 32)
  /-- REC_SEND (R360): Snima sends a migration record to a remote part and waits for REC_ACK. -/
  | recSend (c : Fin 32) : Instr
  /-- USED_FOLD (R115): Snima adds a count from the write-back list to the session's USED when EPOCH matches, and frees the place. -/
  | usedFold
  /-- COUNT_ONLY_TO_LIST (R115): A count-only entry moves to the write-back list when a place frees. -/
  | countOnlyToList
  /-- KEY_CACHE_EVICTION (R115): A waiting eviction moves an entry's count to the write-back list once a place frees, letting its fill proceed. -/
  | keyCacheEviction
  /-- BOOT_IMAGE_LOADED (R105): The ROM finishes copying an image from a slot and verifies it, starting Snima or trying the next source. -/
  | bootImageLoaded (readOk : Bool)
  /-- CHM_SQ (R138): A write to an SQ doorbell sets WAKE in phase mode or starts a tail read in index mode. -/
  | chmSq (m : BitVec 8) (q : Fin 4096) (acc : Acc)
  /-- CHM_CQ (R139): A write to a CQ doorbell updates the host head after its check, or starts a head read in index mode. -/
  | chmCq (m : BitVec 8) (q : Fin 4096) (acc : Acc) (data : BitVec 64) : Instr
  /-- SQ_ENABLE (R156): A write of 1 to SQ_CTL.EN resumes fetching from HEAD and sets WAKE. -/
  | sqEnable (m : BitVec 8) (q : Fin 4096)
  /-- SQ_DISABLE (R156): A write of 0 to SQ_CTL.EN stops fetching, discards a window in flight and closes a decided open batch. -/
  | sqDisable (m : BitVec 8) (q : Fin 4096)
  /-- CQ_ENABLE (R153): A write of 1 to CQ_CTL.EN lets CQEs go to the ring, oldest from Ballast first. -/
  | cqEnable (m : BitVec 8) (q : Fin 4096)
  /-- CQ_DISABLE (R153): A write of 0 to CQ_CTL.EN diverts further CQEs to Ballast. -/
  | cqDisable (m : BitVec 8) (q : Fin 4096)
  /-- FETCH_GRANT (R141): The queue engine grants an eligible SQ one window read of up to W slots by urgent rotation or weighted rounds. -/
  | fetchGrant
  /-- WINDOW_DATA_RETURN (R144): Window data return accepts matching entries, discards the rest and stamps RING_FETCH. -/
  | windowDataReturn (q : Fin 4096) (data : List (BitVec 8)) : Instr
  /-- TAIL_READ_RETURN (R137): In index mode the host's SQ tail arrives and entries up to it become valid for fetch. -/
  | tailReadReturn (q : Fin 4096) (word : BitVec 64)
  /-- HEAD_READ_RETURN (R137): In index mode the host's CQ head arrives and is checked and accepted. -/
  | headReadReturn (q : Fin 4096) (word : BitVec 64)
  /-- RING_READ_FAIL (R158): A failed window, tail or head read accepts nothing and writes a RING_READ FAULT record. -/
  | ringReadFail (q : Fin 4096) (kind : RingRead) (cause : BitVec 8)
  /-- REPOLL_EXPIRY (R145): The re-poll timer of an SQ expires and sets WAKE. -/
  | repollExpiry (q : Fin 4096) (now : Nat)
  /-- SQE_START (R132): An accepted START entry waits in the entry buffer for dispatch to a channel of its set. -/
  | sqeStart (q : Fin 4096)
  /-- SQE_RESUME (R132): An accepted RESUME entry resumes its SUSPENDED target or ends CHECK_FIELD. -/
  | sqeResume (q : Fin 4096) : Instr
  /-- SQE_STOP (R132): An accepted STOP entry requests a stop of its target or ends CHECK_FIELD. -/
  | sqeStop (q : Fin 4096)
  /-- SQE_NOP (R132): An accepted NOP entry has outcome OK at acceptance. -/
  | sqeNop (q : Fin 4096)
  /-- DISPATCH (R149): A held START entry goes to the lowest-numbered IDLE channel of its set, which enters FETCH or WAITING. -/
  | dispatch (q : Fin 4096)
  /-- NOT_BEFORE_REACHED (R149): Time reaches a program's NOT_BEFORE and the channel leaves WAITING to fetch its first command. -/
  | notBeforeReached (ch : Fin 4096) (now : Nat)
  /-- CQE_POST (R151): A decided outcome or closed batch is written as a CQE to the ring or to Ballast, stamped CQE_POST. -/
  | cqePost (q : Fin 4096)
  /-- BALLAST_TO_RING (R153): The oldest Ballast CQE of a CQ moves to its ring when a slot frees and EN is 1. -/
  | ballastToRing (q : Fin 4096) : Instr
  /-- HELD_CQE_TO_BALLAST (R155): A CQE held by a DRAINING channel or the queue engine enters a freed Ballast slot. -/
  | heldCqeToBallast (q : Fin 4096)
  /-- COMMAND_FETCH (R162): A command read returns, and the command is checked and starts, stamped CMD_START, or ends in a program check. -/
  | commandFetch (ch : Fin 4096) (rd : ReadResult)
  /-- MOVE (R198): MOVE copies COUNT bytes from SRC to DST through its mover. -/
  | move (ch : Fin 4096)
  /-- XFORM (R200): XFORM encrypts, decrypts, wraps or unwraps a stream with AES-256 under its session key. -/
  | xform (ch : Fin 4096)
  /-- SEAL (R205): SEAL writes a GCM-sealed object bound to its session and label. -/
  | seal (ch : Fin 4096)
  /-- UNSEAL (R205): UNSEAL authenticates a sealed object and writes its plaintext only if the tag matches. -/
  | unseal (ch : Fin 4096) : Instr
  /-- DIGEST (R206): DIGEST hashes or HMACs the source stream and writes the digest. -/
  | digest (ch : Fin 4096)
  /-- SIGN (R207): SIGN writes an ECDSA P-521 signature over the message or digest. -/
  | sign (ch : Fin 4096)
  /-- VERIFY (R208): VERIFY checks an ECDSA P-521 signature and ends OK or VERIFY_FAIL. -/
  | verify (ch : Fin 4096)
  /-- FILL (R209): FILL writes COUNT bytes of the repeated PARAM pattern to DST. -/
  | fill (ch : Fin 4096)
  /-- COMPARE (R210): COMPARE reads two streams to the end and ends OK or VERIFY_FAIL. -/
  | compare (ch : Fin 4096)
  /-- NVME (R212): NVME copies a checked NVM command image into a drive queue with PRPs and rings the drive. -/
  | nvme (ch : Fin 4096) (rd : ReadResult) : Instr
  /-- STAMP (R215): STAMP takes a Stamp and writes it to DST. -/
  | stamp (ch : Fin 4096)
  /-- CONT (R216): CONT continues its head's stream as a member of a data chain. -/
  | cont (ch : Fin 4096) (rd : ReadResult)
  /-- TIC (R217): TIC continues the program at PARAM2. -/
  | tic (ch : Fin 4096)
  /-- BRANCH (R218): BRANCH tests the previous CODE with MASK, VALUE and SENSE and continues at PARAM2 or the next command. -/
  | branch (ch : Fin 4096)
  /-- WAIT (R219): WAIT ends at once on a set sticky flag or waits for a firing of its Carillon channel. -/
  | wait (ch : Fin 4096)
  /-- SIGNAL (R221): SIGNAL makes the program's writes visible and fires a Carillon channel at hop 0. -/
  | signal (ch : Fin 4096) : Instr
  /-- HOLD (R222): HOLD waits until Time reaches its target, or ends OK or HOLD_LATE at once. -/
  | hold (ch : Fin 4096)
  /-- NOP (R223): NOP ends OK. -/
  | nop (ch : Fin 4096)
  /-- POST (R225): POST makes writes visible, writes a status record and optionally sets IRC_POST. -/
  | post (ch : Fin 4096)
  /-- WAIT_TIMEOUT (R219): A WAIT whose TMO passes without a firing ends WAIT_TIMEOUT. -/
  | waitTimeout (ch : Fin 4096) (now : Nat)
  /-- HOLD_TARGET_REACHED (R222): Time reaches a waiting HOLD's target and the HOLD ends OK. -/
  | holdTargetReached (ch : Fin 4096) (now : Nat)
  /-- DRIVE_COMPLETION (R213): A drive completion for an NVME command ends it OK or BACKEND_STATUS. -/
  | driveCompletion (drv : Fin 8) (cid : BitVec 16) (dw0 : BitVec 32) (status : BitVec 15) : Instr
  /-- NVME_COMPLETION_TIMEOUT (R213): When NTMO passes without a completion the part sends an Abort and ends the command BACKEND_TIMEOUT. -/
  | nvmeCompletionTimeout (ch : Fin 4096) (now : Nat)
  /-- DRIVE_CQ_SCAN (R379): The back-end logic scans each drive completion queue with a command outstanding at least every 10 us. -/
  | driveCqScan (drv : Fin 8) (qid : Nat)
  /-- BKP_IRQ (R379): A write to BKP_IRQ makes the back-end logic scan the named drive completion queue. -/
  | bkpIrq (m : BitVec 8) (drv : Fin 8) (data : BitVec 64)
  /-- ZERO_LENGTH_READ_DONE (R179): A zero-length read completes or fails, letting the waiting write-back, SIGNAL or POST proceed. -/
  | zeroLengthReadDone (ch : Fin 4096) (zone : BitVec 4) (ok : Bool)
  /-- CP_WRITE_RESPONSE (R186): The write response of a STAMP or POST record returns, ending the command or halting the channel on failure. -/
  | cpWriteResponse (ch : Fin 4096) (res : WriteResult)
  /-- CHN_STOP (R183): A write of 1 to CHN_CTL.STOP requests a stop with the effect its channel state gives. -/
  | chnStop (m : BitVec 8) (ch : Fin 4096) : Instr
  /-- CHN_RESUME (R185): A write of 1 to CHN_CTL.RESUME resumes a SUSPENDED program or latches RES_PEND. -/
  | chnResume (m : BitVec 8) (ch : Fin 4096)
  /-- REL_RETRY (R187): A write of REL 1 re-runs the failing command or chain of a HALTED channel. -/
  | relRetry (m : BitVec 8) (ch : Fin 4096)
  /-- REL_SKIP_ON (R187): A write of REL 2 writes back the failing command with ACODE and continues past it. -/
  | relSkipOn (m : BitVec 8) (ch : Fin 4096) (rd : ReadResult)
  /-- REL_ABORT (R187): A write of REL 3 ends the program with ACODE as its outcome. -/
  | relAbort (m : BitVec 8) (ch : Fin 4096)
  /-- LOOP_GUARD_EXHAUSTED (R189): When CHN_ICOUNT.COUNT reaches LIMIT at a boundary the program ends CHECK_LOOP. -/
  | loopGuardExhausted (ch : Fin 4096)
  /-- COMMAND_TIMEOUT (R335): CHN_TMO reaches TMO without progress: link accesses are abandoned and the command ends COMMAND_TIMEOUT. -/
  | commandTimeout (ch : Fin 4096) (now : Nat) : Instr
  /-- GRACE_EXHAUSTED (R334): A retrying channel uses up FLT_GRACE and its timeout count runs on. -/
  | graceExhausted (ch : Fin 4096) (now : Nat)
  /-- MOVER_TAKEN (R231): A waiting data command or chain takes a free channel-mode mover and loads its SHADOW. -/
  | moverTaken
  /-- CRYPTO_UNIT_TAKEN (R257): A waiting command takes the lowest free AES core, SHA core or P-521 engine in rotation. -/
  | cryptoUnitTaken (kind : UnitKind)
  /-- KEY_FILL_START (R268): A key-cache miss that waited for a fill engine begins its fill. -/
  | keyFillStart
  /-- KEY_FILL_COMPLETE (R268): A fill ends with the key unwrapped, validated and loaded, or every waiting command ends SESSION_INVALID. -/
  | keyFillComplete (n : Fin 4)
  /-- MOV_GO (R233): A write of MOV_CTL.GO in direct mode checks SHADOW and makes it valid or sets REJ. -/
  | movGo (m : BitVec 8) (mv : Fin 64) : Instr
  /-- MOV_CANCEL (R254): A write of MOV_CTL.CANCEL ends the ACTIVE direct transfer at the next burst boundary and sets CANC. -/
  | movCancel (m : BitVec 8) (mv : Fin 64)
  /-- MOV_DROP_SH (R235): A write of MOV_CTL.DROP_SH discards a valid SHADOW. -/
  | movDropSh (m : BitVec 8) (mv : Fin 64)
  /-- MOV_REL_RETRY (R252): A write of MOV_CTL.REL 1 clears HALT and re-runs the ACTIVE direct transfer. -/
  | movRelRetry (m : BitVec 8) (mv : Fin 64)
  /-- MOV_REL_ABORT (R252): A write of MOV_CTL.REL 3 clears HALT, discards the transfer and promotes SHADOW. -/
  | movRelAbort (m : BitVec 8) (mv : Fin 64)
  /-- MOV_CFG_WRITE (R230): A write of MOV_CFG sets the wanted mode and IEN, withdrawing a mover from the channel processors at once. -/
  | movCfgWrite (m : BitVec 8) (mv : Fin 64) (acc : Acc) (data : BitVec 64)
  /-- MOV_MODE_CHANGE (R230): Once ACTIVE, SHADOW and the tracker are empty, MOV_STAT.MODE takes the value of DIRECT. -/
  | movModeChange (mv : Fin 64) : Instr
  /-- ARB_GRANT (R289): A segment arbiter grants one presented burst by priority and rotation. -/
  | arbGrant (seg : Fin 64)
  /-- TETHER_RELEASE (R247): A request held by the Tether is presented once it fits the budget. -/
  | tetherRelease (n : Fin 72) (now : Nat)
  /-- BURST_READ_DATA (R239): Read data of a burst returns and is passed through any core to the write side. -/
  | burstReadData (mv : Fin 64) (rd : ReadResult) (upsets : List Upset)
  /-- BURST_WRITE_RESPONSE (R229): A burst's write response returns; the transfer completes when its last response is in. -/
  | burstWriteResponse (mv : Fin 64) (res : WriteResult)
  /-- PAGE_RETIRED (R285): A lasting page is copied into a spare page, CST_REMAP and the vault list are written and accesses are redirected. -/
  | pageRetired (page : Fin 262144)
  /-- SCRUB_READ (R283): A segment reads and corrects the next words of its scrub pass in an idle handshake. -/
  | scrubRead (seg : Fin 64) (words : Nat) (upsets : List Upset) : Instr
  /-- SCRUB_CATCH_UP (R283): A scrub pass behind its period takes one line access per microsecond whatever is waiting. -/
  | scrubCatchUp (seg : Fin 64) (now : Nat) (upsets : List Upset)
  /-- STORE_ZERO_COMPLETE (R282): The cold-reset zeroing of the Central Store completes and the stamp-log writer may move records. -/
  | storeZeroComplete
  /-- ARB_COMMIT (R291): A write of ARB_COMMIT copies all shadow priorities to live at every arbiter. -/
  | arbCommit (m : BitVec 8)
  /-- ARB_TETHER_READ (R6): A read of ARB_TETHER returns HOLDS and clears it. -/
  | arbTetherRead (m : BitVec 8) (n : Fin 72) (acc : Acc)
  /-- CAR_SOURCE_EVENT (R298): An event source fires every enabled channel naming it, setting flags, ending WAITs and striking targets. -/
  | carSourceEvent (src : Fin 2048)
  /-- CAR_FIRE (R304): A write of CAR_FIRE fires the named channel at hop 0. -/
  | carFire (m : BitVec 8) (chn : Fin 256) : Instr
  /-- DEFERRED_STRIKE (R306): An event that reached a strike input after it accepted strikes it again at its next handshake. -/
  | deferredStrike
  /-- CAR_MERGE_CNT_READ (R6): A read of CAR_MERGE_CNT returns the merge count and clears it. -/
  | carMergeCntRead (m : BitVec 8) (acc : Acc)
  /-- IRQ_DELIVERY (R316): A pending source that pre-empts a core is delivered, latched at the entry's commit point and stamped IRQ. -/
  | irqDelivery (core : Fin 4)
  /-- IRQ_LATE_ARRIVAL (R317): A pre-empting source pending before an entry's commit point takes the entry over. -/
  | irqLateArrival (core : Fin 4)
  /-- HANDLER_RETURN (R318): A handler returns, resuming the interrupted code or handing on to a pending pre-empting source. -/
  | handlerReturn (core : Fin 4)
  /-- IRC_MC_EOI (R319): A write of IRC_MC_EOI removes the source from service and re-samples it. -/
  | ircMcEoi (m : BitVec 8) (core : Fin 4) (src : Fin 1024) : Instr
  /-- IRC_VCOMP (R321): A write of IRC_VCOMP completes a host vector and re-samples its condition. -/
  | ircVcomp (m : BitVec 8) (port : Fin 2) (vec : Fin 8192)
  /-- MSIX_MESSAGE (R321): A PENDING host vector issues its MSI-X Memory Write and goes IN_SERVICE. -/
  | msixMessage (port : Fin 2)
  /-- MSIX_HOLD_END (R322): When the hold on a PENDING vector ends, its message is issued or its Pending Bit cleared. -/
  | msixHoldEnd (port : Fin 2) (vec : Fin 8192)
  /-- DAMPER_INTERVAL_END (R323): A Damper group's hold-off ends and held interrupts still asserted are decided. -/
  | damperIntervalEnd (g : Fin 64) (now : Nat)
  /-- IRC_SRC_WRITE (R324): A write of IRC_SRC changes a source's routing from its next delivery decision. -/
  | ircSrcWrite (m : BitVec 8) (n : Fin 1024) (acc : Acc) (data : BitVec 64)
  /-- IRC_DAMP_READ (R6): A read of IRC_DAMP returns HOLDS and clears it. -/
  | ircDampRead (m : BitVec 8) (g : Fin 64) (acc : Acc) : Instr
  /-- FLT_ERR_POP (R329): A write of FLT_ERR_POP removes the oldest record from the error FIFO. -/
  | fltErrPop (m : BitVec 8)
  /-- FLT_ERR_LOST_READ (R6): A read of FLT_ERR_LOST returns and clears the lost-record count. -/
  | fltErrLostRead (m : BitVec 8) (acc : Acc)
  /-- FLT_STALE_READ (R6): A read of FLT_STALE returns and clears the stale-completion count. -/
  | fltStaleRead (m : BitVec 8) (acc : Acc)
  /-- FLT_TMO_CNT_READ (R6): A read of FLT_TMO_CNT returns and clears the timeout counts. -/
  | fltTmoCntRead (m : BitVec 8) (acc : Acc)
  /-- LINK_CE (R331): A correctable link error is counted in the link's window and written as a LINK_CE record. -/
  | linkCe (k : Fin 12) (kind : Fin 7) (now : Nat)
  /-- STALE_COMPLETION (R337): A result arriving for an abandoned access or command is discarded, counted and logged. -/
  | staleCompletion (k : Fin 12) (idx : Nat) (cause : BitVec 8) : Instr
  /-- GCTL_LOCK_FORCE (R338): A write of 1 to GCTL_LOCK.FORCE enters Lockdown with cause 2. -/
  | gctlLockForce (m : BitVec 8)
  /-- LOCKDOWN_QUIESCED (R339): Issued bursts and link writes complete, outstanding link reads are abandoned and ST becomes 2. -/
  | lockdownQuiesced
  /-- PCIE_COMPLETION_TIMEOUT (R367): A link read without completion within the completion timeout fails as a bus error with CAUSE 3. -/
  | pcieCompletionTimeout (mv : Fin 64) (now : Nat)
  /-- SYNC_REQ (R351): A parent receives a SYNC_REQ and answers with SYNC_RSP carrying t2 and t3, or REFUSE. -/
  | syncReq (p : Fin 2) (f : Frame) (t2 : Nat) (t3 : Nat)
  /-- SYNC_RSP (R351): A child computes OFS and DELAY from an exchange, slews or steps its Time and updates ALIGN. -/
  | syncRsp (p : Fin 2) (f : Frame) (t4 : ExchangeEnd)
  /-- ANNOUNCE (R350): A received ANNOUNCE updates the best grandmaster, parent and fleet ALIGN. -/
  | announce (p : Fin 2) (f : Frame) (now : Nat) : Instr
  /-- ANNOUNCE_PERIOD (R350): Every 125 ms a member sends an ANNOUNCE on each port whose link is up. -/
  | announcePeriod (now : Nat)
  /-- SYNC_PERIOD (R351): Every 62.5 ms a child sends a SYNC_REQ to its parent. -/
  | syncPeriod (now : Nat)
  /-- PARENT_LOSS (R350): A parent unheard for 375 ms is lost and the part chooses again. -/
  | parentLoss (now : Nat)
  /-- GM_SILENCE (R350): A part that hears no better grandmaster for 375 ms announces itself as grandmaster. -/
  | gmSilence (now : Nat)
  /-- HELLO (R354): A sponsor checks a joiner's HELLO against its admission and answers CHALLENGE. -/
  | hello (p : Fin 2) (f : Frame)
  /-- CHALLENGE (R354): A joiner checks the sponsor's CHALLENGE and report and answers PROOF. -/
  | challenge (p : Fin 2) (f : Frame) : Instr
  /-- PROOF (R354): A sponsor checks the joiner's PROOF and sends GRANT with FRK wrapped under KJ. -/
  | proof (p : Fin 2) (f : Frame)
  /-- GRANT (R354): A joiner unwraps FRK and stores FRK, FLEET_ID and NODE in the vault. -/
  | grant (p : Fin 2) (f : Frame)
  /-- JOIN_STEP_TIMEOUT (R355): A join step missing for 1 s fails the join with SN_NOT_FOUND. -/
  | joinStepTimeout (now : Nat)
  /-- ADMISSION_LAPSE (R354): An admission lapses 60 s after FLEET_ADMIT. -/
  | admissionLapse (node : BitVec 18) (now : Nat)
  /-- ATT_REQ (R348): A part receiving ATT_REQ answers ATT_RSP with its report over the nonce. -/
  | attReq (p : Fin 2) (f : Frame)
  /-- ATT_RSP (R359): A received ATT_RSP writes the remote report at ADDR and answers FLEET_ATTEST. -/
  | attRsp (p : Fin 2) (f : Frame) : Instr
  /-- MBX_REQ (R358): A remote Snima acts on a relayed message in turn with its inbound FIFO and answers MBX_RSP. -/
  | mbxReq (p : Fin 2) (f : Frame)
  /-- MBX_RSP (R358): A received MBX_RSP supplies the results of MBX_RELAY. -/
  | mbxRsp (p : Fin 2) (f : Frame)
  /-- REC (R359): A received REC writes a migration record into the data buffers, answers REC_ACK and posts FLEET_NOTE. -/
  | recRecv (p : Fin 2) (f : Frame)
  /-- REC_ACK (R348): A received REC_ACK completes REC_SEND with its RC. -/
  | recAck (p : Fin 2) (f : Frame)
  /-- RELAY_TIMEOUT (R359): A relay request without reply in 1 s answers SN_NOT_FOUND. -/
  | relayTimeout (xid : BitVec 16) (now : Nat)
  /-- FRAME_FORWARD (R349): A unicast frame for another NODE is forwarded out of the other port with TTL decremented, or dropped at TTL 1. -/
  | frameForward (p : Fin 2) (f : Frame) : Instr
  /-- FNZ_PORT_READ (R6): A read of FNZ_PORT returns DROP and clears it. -/
  | fnzPortRead (m : BitVec 8) (p : Fin 2) (acc : Acc)
  /-- FNZ_LOOPBACK_CAL (R400): At link-up and every 10 s a Fenuz port measures its own delays by PHY loopback. -/
  | fnzLoopbackCal (p : Fin 2) (meas : Loopback)
  /-- DL_UP (R373): A link reports DL_Up, setting LNK_EVT.UP and firing its Carillon source. -/
  | dlUp (k : Fin 12) (speed : Fin 7) (width : Nat) (flit : Bool)
  /-- DL_DOWN (R375): A link reports DL_Down; outstanding requests fail and a back-end drive is detached. -/
  | dlDown (k : Fin 12)
  /-- LINK_SPEED_CHANGE (R373): A rate change while DL_Up sets LNK_EVT.SPEED. -/
  | linkSpeedChange (k : Fin 10) (speed : Fin 7)
  /-- LINK_WIDTH_CHANGE (R373): A width change while DL_Up sets LNK_EVT.WIDTH. -/
  | linkWidthChange (k : Fin 10) (width : Nat) : Instr
  /-- PRESENCE_DETECT_CHANGE (R372): A Presence Detect change on a root port sets LNK_EVT.PRES. -/
  | presenceDetectChange (k : Fin 8) (present : Bool)
  /-- ERR_COR (R372): An ERR_COR message from a drive is latched in LNK_EVT and AER. -/
  | errCor (k : Fin 8)
  /-- ERR_NONFATAL (R372): An ERR_NONFATAL message from a drive is latched in LNK_EVT and AER. -/
  | errNonfatal (k : Fin 8)
  /-- ERR_FATAL (R372): An ERR_FATAL message from a drive is latched in LNK_EVT and AER. -/
  | errFatal (k : Fin 8)
  /-- RECOVERY_ENTRY (R374): A link enters Recovery, holding new requests and counting RETRAINS. -/
  | recoveryEntry (k : Fin 10) (now : Nat)
  /-- RECOVERY_EXIT (R374): A link returns to L0 and completes its held requests. -/
  | recoveryExit (k : Fin 10) (now : Nat) : Instr
  /-- LNK_RETRAIN (R364): A write of LNK_CTL.RETRAIN starts a retrain of a root-port link. -/
  | lnkRetrain (m : BitVec 8) (k : Fin 8)
  /-- LNK_BIF_WRITE (R370): A change of LNK_CTL.BIF takes both links of the port through Detect. -/
  | lnkBifWrite (m : BitVec 8) (port : Fin 4) (split : Bool)
  /-- LNK_DISABLE_WRITE (R370): A write of LNK_CTL.DISABLE holds or releases a root-port link in Disabled. -/
  | lnkDisableWrite (m : BitVec 8) (k : Fin 8) (disable : Bool)
  /-- LNK_EVT_READ (R6): A read of LNK_EVT returns RETRAINS and clears it. -/
  | lnkEvtRead (m : BitVec 8) (k : Fin 10) (acc : Acc)
  /-- INBOUND_MEMORY_REQUEST (R288): An inbound memory request from a host BAR, a drive or Fenuz is cut into bursts and performed in zone 0. -/
  | inboundMemoryRequest (m : BitVec 8) (req : MemRequest)
  /-- CONFIG_SPACE_WRITE (R366): A host write to configuration space, the MSI-X Table or the Pending Bit Array takes effect at once. -/
  | configSpaceWrite (port : Fin 2) (w : ConfigWrite) : Instr
  /-- FUNCTION_LEVEL_RESET (R366): An FLR resets the function's configuration space and MSI-X Table and sets its vectors to IDLE. -/
  | functionLevelReset (port : Fin 2)
  /-- HOT_RESET (R387): A PCIe Hot Reset received on a host link is a host port reset. -/
  | hotReset (port : Fin 2)
  /-- HOST_PERST_ASSERT (R377): Assertion of a host PERST_N takes the link down, advances IN_EP where PORT names it and idles the port's vectors. -/
  | hostPerstAssert (port : Fin 2)
  /-- HOST_PERST_DEASSERT (R384): Deassertion of a host PERST_N lets the endpoint train. -/
  | hostPerstDeassert (port : Fin 2)
  /-- RAILS_UP (R382): The main rails rising hold the part in cold reset. -/
  | railsUp (offTime : Nat)
  /-- SYS_RST_ASSERT (R387): Assertion of SYS_RST_N puts the part in cold reset. -/
  | sysRstAssert : Instr
  /-- SUPERVISOR_TRIP (R381): A main rail falling below its trip level puts the part in cold reset. -/
  | supervisorTrip (rail : Fin 5)
  /-- SYS_RST_RELEASE (R384): Release of SYS_RST_N reloads the remap, zeroes the store, reports standby tamper entries and starts MC0 from ROM. -/
  | sysRstRelease
  /-- GCTL_RST_WARM (R389): A write of GCTL_RST.WARM starts a warm reset that ends every program and reloads blocks. -/
  | gctlRstWarm (m : BitVec 8)
  /-- VAON_LOST (R386): VAON falling below its trip level stops the always-on domain. -/
  | vaonLost
  /-- VAON_RETURN (R386): VAON returning restarts the always-on domain, sets PWR_AON.LOST and with AONLOSS erases root keys. -/
  | vaonReturn
  /-- PWR_VREQ_WRITE (R394): A write of PWR_VREQ sends VOUT_COMMAND to the VDD regulator when PWR_VRM.EN is 1. -/
  | pwrVreqWrite (m : BitVec 8) (acc : Acc) (data : BitVec 64) : Instr
  /-- PWR_VRM_WRITE (R394): Setting PWR_VRM.EN makes the part read VOUT_MODE and take control of VDD. -/
  | pwrVrmWrite (m : BitVec 8) (acc : Acc) (data : BitVec 64)
  /-- PMBUS_TRANSACTION_DONE (R394): A regulator transaction ends, clearing BUSY, setting NAK if refused and sending any waiting value. -/
  | pmbusTransactionDone (ans : PmbusAnswer)
  /-- PACE_REFRESH (R392): Every 1.024 us the pace monitors refresh PACE and a masked monitor below LOW sets BELOW. -/
  | paceRefresh (readings : List (BitVec 11)) (now : Nat)
  /-- ANA_PACE_READ (R6): A read of ANA_PACE returns MIN and clears it. -/
  | anaPaceRead (m : BitVec 8) (i : Fin 16) (acc : Acc)
  /-- PWR_LANE_WRITE (R397): A write of PWR_LANE powers lanes of a link down or back up to train. -/
  | pwrLaneWrite (m : BitVec 8) (acc : Acc) (data : BitVec 64)
  /-- LANE_PATH_SWAP (R398): Every 100 us the two receive paths of a lane exchange roles at a symbol boundary. -/
  | lanePathSwap (lane : Fin 66) (adapted : Bool) (now : Nat) : Instr
  /-- TDC_ROLE_SWAP (R399): Every 1 ms the two converters of a stamp point exchange stamping and calibration roles. -/
  | tdcRoleSwap (dom : Fin 128) (now : Nat)
  /-- BACKGROUND_KAT (R401): Each second Snima tests the next crypto unit in the background cycle. -/
  | backgroundKat (ans : KatAnswer) (now : Nat)
  /-- DRBG_RESEED (R271): A DRBG instance reseeds after 2^16 requests, 1 s or a reset exit. -/
  | drbgReseed (inst : Fin 6) (now : Nat)
  /-- ENTROPY_HEALTH_FAIL (R404): A failed health test discards raw bits and outputs, logs ENTROPY_FAIL, stops the DRBG and reruns start-up. -/
  | entropyHealthFail (raw : RawBits)
  /-- ENTROPY_STARTUP_PASS (R404): The start-up test passes, ENT_OK returns and the DRBG instances may reseed. -/
  | entropyStartupPass
  /-- TEMP_SENSOR_REFRESH (R405): Every 100 us the temperature sensors refresh and latch THIGH or TLOW. -/
  | tempSensorRefresh (readings : List (BitVec 16)) (now : Nat) : Instr
  /-- VOLT_SENSOR_REFRESH (R405): Every 1 us the voltage sensors refresh and latch VLAT for a rail out of range. -/
  | voltSensorRefresh (readings : List (BitVec 12)) (now : Nat)
  /-- TAMPER_DETECT (R408): An armed source detecting in RUN enters Lockdown, zeroises keys, erases DRK and FRK and logs the event. -/
  | tamperDetect (src : Fin 10) (sense : TamperSense)
  /-- TAMPER_DETECT_STANDBY (R410): An armed source detecting in STANDBY erases DRK and FRK and writes a tamper log entry. -/
  | tamperDetectStandby (src : Fin 10) (sense : TamperSense)
  /-- TAMPER_SEEN (R407): A disarmed source detecting sets only its SEEN bit. -/
  | tamperSeen (src : Fin 10) (sense : Option TamperSense)
  /-- VAULT_SCRUB (R413): Once each 24 h the vault reads every word and rewrites those it corrected. -/
  | vaultScrub (corrected : List Nat) (uncorrectable : List Nat) (now : Nat)
  /-- GPIO_EDGE (R424): A GPIO level held 20 ns that matches EDGE raises Carillon source 0x1D0 + k. -/
  | gpioEdge (k : Fin 16) (level : Bool) : Instr
  /-- GPIO_CFG_WRITE (R424): A write of GPIO_CFG sets direction, output level and edge selection. -/
  | gpioCfgWrite (m : BitVec 8) (k : Fin 16) (acc : Acc) (data : BitVec 64)
  /-- SIDEBAND_READ (R425): An I2C target transaction returns a whole 64-bit copy of the selected value. -/
  | sidebandRead (written : List Byte)
  /-- BYPASS (R427): The JTAG BYPASS instruction selects the bypass register. -/
  | bypass
  /-- IDCODE (R427): The JTAG IDCODE instruction returns 0x1984_0xxx. -/
  | idcode
  /-- SAMPLE_PRELOAD (R427): The JTAG SAMPLE/PRELOAD instruction samples or preloads the boundary-scan register. -/
  | samplePreload (pins : List (Pin × Bool))
  /-- EXTEST (R427): The JTAG EXTEST instruction drives the boundary-scan register, only while SYS_RST_N is low. -/
  | extest : Instr
  /-- EXTEST_PULSE (R427): The IEEE 1149.6 EXTEST_PULSE instruction tests SerDes lanes while SYS_RST_N is low. -/
  | extestPulse
  /-- EXTEST_TRAIN (R427): The IEEE 1149.6 EXTEST_TRAIN instruction tests SerDes lanes while SYS_RST_N is low. -/
  | extestTrain
  /-- HIGHZ (R427): The JTAG HIGHZ instruction floats outputs while SYS_RST_N is low. -/
  | highz
  /-- CLAMP (R427): The JTAG CLAMP instruction holds outputs while SYS_RST_N is low. -/
  | clamp
  /-- REFERENCE_LOCKED (R33): The time core, having slewed back to a returned TREF or Fenuz source, reaches LOCKED and its slew limit returns to 100 ppm. -/
  | referenceLocked (now : Nat)
  /-- P521_OPERATION_COMPLETE (R257): A P-521 engine finishes a signature or verification, writing r and s or deciding OK or VERIFY_FAIL, and is released. -/
  | p521OperationComplete (unit : Fin 4) : Instr
  /-- BKP_PERST_RELEASE (R422): BKP_PERST_N goes high 100 ms after the release of SYS_RST_N, or after its 1 ms low pulse at a warm reset, letting the back-end link train. -/
  | bkpPerstRelease (k : Fin 8) (now : Nat)
  /-- SIDEBAND_BUS_FREE (R426): After losing I2C arbitration, the part resends its regulator transaction as soon as the sideband bus is free. -/
  | sidebandBusFree
  /-- UNDEFINED_SNIMA_COMMAND (R82): Snima pops an inbound message whose CMD is not defined and answers SN_BAD_CMD, or answers SN_STATE in WAIT_MBX. -/
  | undefinedSnimaCommand (c : Fin 32)
  deriving DecidableEq, Repr

end Sys2Proof
end

