-- ==== Sys2Proof/Config.lean ====
section
/-! DEFINITION. What an implementation fixes and the spec does not state as a number: what the random generators
give out, what manufacture installs, and the values the spec leaves open. None has a body, so nothing can lean on a value. -/

namespace Sys2Proof.Config

/-- The runs of 1,024 raw bits, health-tested, that the entropy source conditions for a DRBG instance (R271, R402): instance, how often it
was seeded before, and which of its two. -/
opaque rawRun : Nat → Nat → Nat → List Byte
/-- What a draw that has been rejected 128 times in a row comes to at last (R120, R207, R261), by instance, seedings and requests, and
length. -/
opaque lateRaw : Nat → Nat → Nat → Nat → List Byte
/-- The Vendor ID that the PCI-SIG assigned to Varluxis (R365). -/
opaque vendorId : Fin 65536
/-- The session-independent keys and texts that manufacture or a key's erasure installs, by name and count. -/
opaque installed : String → Nat → Nat → List Byte
/-- Whether the part is of grade P2 (R1). -/
opaque gradeP2 : Bool
/-- The JEDEC manufacturer identity in IDCODE [11:1] (R427). -/
opaque jedecId : Nat
/-- What a byte of an uncorrectable word reads as when its data are handed on (R281), by address and occasion. -/
opaque upsetByte : Nat → Nat → Byte
/-- The length of the device certificate, at most 2 KiB (R109). -/
opaque certLen : Nat
/-- The PCI vendor ID of a drive that is present and not attached (R99), by drive and occasion. -/
opaque driveVendor : Nat → Nat → Nat
/-- Where Snima has a drive put its Identify Controller data (R100), by drive and occasion. -/
opaque identifyAt : Nat → Nat → Nat
/-- Where a drive's MSI-X Table lies from its BAR on, which its MSI-X capability tells (R379), by drive. -/
opaque driveTable : Nat → Nat
/-- The SEQ of a FLEET_NOTE, which answers no request (R359), by occasion. -/
opaque noteSeq : Nat → Nat
/-- What TIME_OFS.OFS and FNZ_DELAY.DELAY show for a value that does not fit in them (R351). -/
opaque wideShown : Int → Nat
/-- TTL and XID of an ANNOUNCE, which the spec does not give (R348, R349), by occasion. -/
opaque announceTtl : Nat → Nat
opaque announceXid : Nat → Nat
/-- FNZ_PORT.HOPB of a calibrated hop: some value of at most 5 (R352). -/
opaque hopBound : Nat → Fin 6
/-- Whether each path of a Fenuz port to its peer is a cable or switches of constant latency (R352), which the board decides. -/
opaque pathConstant : Nat → Bool
/-- Whether the firmware of a management core lets it sleep when a handler returns to thread mode (R320), by core and occasion. -/
opaque mcSleeps : Nat → Nat → Bool
/-- The straps SB_ASEL[1:0] as the board wires them (R425). -/
opaque sbAsel : Fin 4
/-- Whether a link in L0 whose ASPM is enabled is in L1 (R363), which both of its ends decide, by link and occasion. -/
opaque linkSleeps : Nat → Nat → Bool
/-- The seed of the mesh pattern that the entropy source gives at a cold reset, by occasion, and the bit of the sequence from a seed that is
driven on TMESH_A, by the number of the 500 ns (R406). -/
opaque meshSeed : Nat → Fin 65536
opaque meshBit : Nat → Nat → Bool
/-- What the VAON sensor reads, in units of 10 mV, by occasion (R386). -/
opaque vaonReading : Nat → Nat

def rawBits (inst n k : Nat) : List Byte := fitBytes 128 (rawRun inst n k)
def late (inst n r len : Nat) : List Byte := fitBytes len (lateRaw inst n r len)
/-- The device certificate (R109). -/
def cert : List Byte := fitBytes (min 2048 certLen) (installed "CERT" 0 (min 2048 certLen))
def install (name : String) (i len : Nat) : List Byte := fitBytes len (installed name i len)

end Sys2Proof.Config
end

