-- ==== Sys2Proof/Machine/Sha.lean ====
section
/-! DEFINITION. The hash functions of R206 as FIPS 180-4 and FIPS 202 define them, HMAC (FIPS 198-1, R266) and HKDF (RFC 5869, R89,
R108, R118). The spec names these standards and does not repeat them: their contents are PRESUMED (log entry 6). -/

namespace Sys2Proof.Algo

/-- The text of a label, as its ASCII bytes. -/
def ascii (l : List Char) : List Byte := l.map (fun c => BitVec.ofNat 8 c.toNat)

/-- The value of bytes in big-endian order, as the standards order them. -/
def beNat (b : List Byte) : Nat := leNat b.reverse

/-- The `n` bytes of a number in big-endian order. -/
def natBe (n v : Nat) : List Byte := (natLe n v).reverse

/-- The pieces of `n` bytes of a list, in at most `k` pieces. -/
def piecesUpTo (n : Nat) : Nat → List Byte → List (List Byte)
  | 0, _ => []
  | k + 1, l => if l.isEmpty then [] else l.take n :: piecesUpTo n k (l.drop n)

/-- The pieces of `n` bytes of a list, the last one shorter where the list ends within it. -/
def pieces (n : Nat) (l : List Byte) : List (List Byte) := piecesUpTo n ((l.length + n - 1) / n) l

/-- A value handed on once it is computed. -/
def force {α : Type} (n : Nat) (k : Nat → α) : α :=
  match n with
  | 0 => k 0
  | m + 1 => k (m + 1)

/-- The same, for each number of a list. -/
def forceAll {α : Type} : List Nat → (List Nat → α) → α
  | [], k => k []
  | n :: l, k => force n (fun m => forceAll l (fun r => k (m :: r)))

/-- The bytes of two lists, exclusive or. -/
def xorBytes (a b : List Byte) : List Byte := List.zipWith (fun x y => x ^^^ y) a b

/-! ### SHA-2 (FIPS 180-4) -/

/-- A member of SHA-2: the bits of a word, and the rotations of the four functions of section 4.1, the last of each lower-case pair a
shift. -/
structure Sha2 where
  bits : Nat
  big0 : Nat × Nat × Nat
  big1 : Nat × Nat × Nat
  small0 : Nat × Nat × Nat
  small1 : Nat × Nat × Nat

def sha32 : Sha2 := ⟨32, (2, 13, 22), (6, 11, 25), (7, 18, 3), (17, 19, 10)⟩
def sha64 : Sha2 := ⟨64, (28, 34, 39), (14, 18, 41), (1, 8, 7), (19, 61, 6)⟩

/-- Rotation to the right and to the left of a word of `w` bits. -/
def rotr (w n x : Nat) : Nat := x >>> n ||| (x <<< (w - n)) % 2 ^ w
def rotl (w n x : Nat) : Nat := (x <<< n) % 2 ^ w ||| x >>> (w - n)

def Sha2.upper (p : Sha2) (r : Nat × Nat × Nat) (x : Nat) : Nat :=
  rotr p.bits r.1 x ^^^ rotr p.bits r.2.1 x ^^^ rotr p.bits r.2.2 x
def Sha2.lower (p : Sha2) (r : Nat × Nat × Nat) (x : Nat) : Nat := rotr p.bits r.1 x ^^^ rotr p.bits r.2.1 x ^^^ x >>> r.2.2

/-- The rounds of one block: the constants left, the sixteen words of the schedule from this round's on, and a to h. -/
def Sha2.rounds (p : Sha2) : List Nat → List Nat → List Nat → List Nat
  | k :: ks, w, [a, b, c, d, e, f, g, h] =>
    let m := 2 ^ p.bits
    let t1 := h + p.upper p.big1 e + (e &&& f ^^^ (m - 1 - e) &&& g) + k + w.headD 0
    let t2 := p.upper p.big0 a + (a &&& b ^^^ a &&& c ^^^ b &&& c)
    let next := p.lower p.small1 (w.getD 14 0) + w.getD 9 0 + p.lower p.small0 (w.getD 1 0) + w.headD 0
    force ((t1 + t2) % m) (fun a' => force ((d + t1) % m) (fun e' => force (next % m) (fun n =>
      p.rounds ks (w.tail ++ [n]) [a', a, b, c, e', e, f, g])))
  | _, _, st => st

/-- One block: the words of the block, and the sums with the chaining value. -/
def Sha2.block (p : Sha2) (ks : List Nat) (st : List Nat) (b : List Byte) : List Nat :=
  forceAll ((pieces (p.bits / 8) b).map beNat) (fun w =>
    forceAll (List.zipWith (fun x y => (x + y) % 2 ^ p.bits) st (p.rounds ks w st)) id)

/-- The padded message: a one bit, zeros, and the length in bits in two words. -/
def Sha2.padded (p : Sha2) (m : List Byte) : List Byte :=
  let w := p.bits / 8
  m ++ 0x80#8 :: List.replicate ((14 * w + 16 * w - (m.length + 1) % (16 * w)) % (16 * w)) 0 ++ natBe (2 * w) (8 * m.length)

def Sha2.digest (p : Sha2) (ks iv : List Nat) (m : List Byte) : List Byte :=
  ((pieces (2 * p.bits) (p.padded m)).foldl (p.block ks) iv).flatMap (natBe (p.bits / 8))

/-- The round constants of SHA-512; the upper halves of the first 64 are those of SHA-256. -/
def sha512K : List Nat :=
  [0x428A2F98D728AE22, 0x7137449123EF65CD, 0xB5C0FBCFEC4D3B2F, 0xE9B5DBA58189DBBC,
   0x3956C25BF348B538, 0x59F111F1B605D019, 0x923F82A4AF194F9B, 0xAB1C5ED5DA6D8118] ++
  [0xD807AA98A3030242, 0x12835B0145706FBE, 0x243185BE4EE4B28C, 0x550C7DC3D5FFB4E2,
   0x72BE5D74F27B896F, 0x80DEB1FE3B1696B1, 0x9BDC06A725C71235, 0xC19BF174CF692694] ++
  [0xE49B69C19EF14AD2, 0xEFBE4786384F25E3, 0x0FC19DC68B8CD5B5, 0x240CA1CC77AC9C65,
   0x2DE92C6F592B0275, 0x4A7484AA6EA6E483, 0x5CB0A9DCBD41FBD4, 0x76F988DA831153B5] ++
  [0x983E5152EE66DFAB, 0xA831C66D2DB43210, 0xB00327C898FB213F, 0xBF597FC7BEEF0EE4,
   0xC6E00BF33DA88FC2, 0xD5A79147930AA725, 0x06CA6351E003826F, 0x142929670A0E6E70] ++
  [0x27B70A8546D22FFC, 0x2E1B21385C26C926, 0x4D2C6DFC5AC42AED, 0x53380D139D95B3DF,
   0x650A73548BAF63DE, 0x766A0ABB3C77B2A8, 0x81C2C92E47EDAEE6, 0x92722C851482353B] ++
  [0xA2BFE8A14CF10364, 0xA81A664BBC423001, 0xC24B8B70D0F89791, 0xC76C51A30654BE30,
   0xD192E819D6EF5218, 0xD69906245565A910, 0xF40E35855771202A, 0x106AA07032BBD1B8] ++
  [0x19A4C116B8D2D0C8, 0x1E376C085141AB53, 0x2748774CDF8EEB99, 0x34B0BCB5E19B48A8,
   0x391C0CB3C5C95A63, 0x4ED8AA4AE3418ACB, 0x5B9CCA4F7763E373, 0x682E6FF3D6B2B8A3] ++
  [0x748F82EE5DEFB2FC, 0x78A5636F43172F60, 0x84C87814A1F0AB72, 0x8CC702081A6439EC,
   0x90BEFFFA23631E28, 0xA4506CEBDE82BDE9, 0xBEF9A3F7B2C67915, 0xC67178F2E372532B] ++
  [0xCA273ECEEA26619C, 0xD186B8C721C0C207, 0xEADA7DD6CDE0EB1E, 0xF57D4F7FEE6ED178,
   0x06F067AA72176FBA, 0x0A637DC5A2C898A6, 0x113F9804BEF90DAE, 0x1B710B35131C471B] ++
  [0x28DB77F523047D84, 0x32CAAB7B40C72493, 0x3C9EBE0A15C9BEBC, 0x431D67C49C100D4C,
   0x4CC5D4BECB3E42B6, 0x597F299CFC657E2A, 0x5FCB6FAB3AD6FAEC, 0x6C44198C4A475817]

/-- The fractional parts of the square roots of the first eight primes, and of the next eight. -/
def sqrtFirst : List Nat :=
  [0x6A09E667F3BCC908, 0xBB67AE8584CAA73B, 0x3C6EF372FE94F82B, 0xA54FF53A5F1D36F1,
   0x510E527FADE682D1, 0x9B05688C2B3E6C1F, 0x1F83D9ABFB41BD6B, 0x5BE0CD19137E2179]
def sqrtNext : List Nat :=
  [0xCBBB9D5DC1059ED8, 0x629A292A367CD507, 0x9159015A3070DD17, 0x152FECD8F70E5939,
   0x67332667FFC00B31, 0x8EB44A8768581511, 0xDB0C2E0D64F98FA7, 0x47B5481DBEFA4FA4]

/-- The initial value of SHA-512/256. -/
def iv512To256 : List Nat :=
  [0x22312194FC2BF72C, 0x9F555FA3C84C64C2, 0x2393B86B6F53B151, 0x963877195940EABD,
   0x96283EE2A88EFFE3, 0xBE5E1E2553863992, 0x2B0199FC2C85B8AA, 0x0EB72DDC81C52CA2]

def sha256 (m : List Byte) : List Byte := sha32.digest ((sha512K.take 64).map (· >>> 32)) (sqrtFirst.map (· >>> 32)) m
def sha384 (m : List Byte) : List Byte := (sha64.digest sha512K sqrtNext m).take 48
def sha512 (m : List Byte) : List Byte := sha64.digest sha512K sqrtFirst m
def sha512To256 (m : List Byte) : List Byte := (sha64.digest sha512K iv512To256 m).take 32

/-! ### SHA-3 (FIPS 202) -/

/-- The round constants of Keccak-f[1600]. -/
def keccakConstants : List Nat :=
  [0x0000000000000001, 0x0000000000008082, 0x800000000000808A, 0x8000000080008000,
   0x000000000000808B, 0x0000000080000001, 0x8000000080008081, 0x8000000000008009] ++
  [0x000000000000008A, 0x0000000000000088, 0x0000000080008009, 0x000000008000000A,
   0x000000008000808B, 0x800000000000008B, 0x8000000000008089, 0x8000000000008003] ++
  [0x8000000000008002, 0x8000000000000080, 0x000000000000800A, 0x800000008000000A,
   0x8000000080008081, 0x8000000000008080, 0x0000000080000001, 0x8000000080008008]

/-- The rotation of lane (x, y), at x + 5y. -/
def keccakOffsets : List Nat :=
  [0, 1, 62, 28, 27] ++ [36, 44, 6, 55, 20] ++ [3, 10, 43, 25, 39] ++ [41, 45, 15, 21, 8] ++ [18, 2, 61, 56, 14]

/-- One round of Keccak-f[1600] on the lanes, lane (x, y) at x + 5y: theta, rho with pi, chi, iota. -/
def keccakRound (a : List Nat) (rc : Nat) : List Nat :=
  let at_ := fun (l : List Nat) (i : Nat) => l.getD i 0
  forceAll ((List.range 5).map (fun x => (List.range 5).foldl (fun r y => r ^^^ at_ a (x + 5 * y)) 0)) (fun c =>
    forceAll ((List.range 25).map (fun i => at_ a i ^^^ at_ c ((i + 4) % 5) ^^^ rotl 64 1 (at_ c ((i + 1) % 5)))) (fun a =>
      forceAll ((List.range 25).map (fun i =>
        let j := (i % 5 + 3 * (i / 5)) % 5 + 5 * (i % 5)
        rotl 64 (at_ keccakOffsets j) (at_ a j))) (fun b =>
        forceAll ((List.range 25).map (fun i =>
          let row := i / 5 * 5
          at_ b i ^^^ (2 ^ 64 - 1 - at_ b (row + (i + 1) % 5)) &&& at_ b (row + (i + 2) % 5) ^^^ (if i = 0 then rc else 0))) id)))

def keccak (a : List Nat) : List Nat := keccakConstants.foldl keccakRound a

/-- A block of the message is added to the first lanes, and the state permuted. -/
def absorb (a : List Nat) (b : List Byte) : List Nat :=
  let w := (pieces 8 b).map leNat
  keccak ((List.range 25).map (fun i => a.getD i 0 ^^^ w.getD i 0))

/-- SHA-3 with a digest of `n` bytes: the rate is 200 - 2n bytes, and the message ends with the bits 01 and the padding 10*1. -/
def sha3 (n : Nat) (m : List Byte) : List Byte :=
  let rate := 200 - 2 * n
  let room := rate - m.length % rate
  let pad := if room = 1 then [0x86#8] else 0x06#8 :: List.replicate (room - 2) 0 ++ [0x80#8]
  (((pieces rate (m ++ pad)).foldl absorb (List.replicate 25 0)).flatMap (natLe 8)).take n

/-! ### The functions of R206 -/

/-- The digest bytes by MOD. -/
def digestLen (fn : Nat) : Nat :=
  match fn with
  | 1 => 32 | 2 => 48 | 3 => 64 | 4 => 32 | 5 => 32 | 6 => 48 | 7 => 64 | 8 => 64 | _ => 0

/-- The digest by MOD, 0x1 to 0x7. -/
def hash (fn : Nat) (p : List Byte) : List Byte :=
  fitBytes (digestLen fn) (match fn with
    | 1 => sha256 p | 2 => sha384 p | 3 => sha512 p | 4 => sha512To256 p | 5 => sha3 32 p | 6 => sha3 48 p | 7 => sha3 64 p | _ => [])

/-- HMAC over a hash with blocks of 128 bytes, the key zero-padded to a block, or hashed first where it is longer. -/
def hmacOf (h : List Byte → List Byte) (key m : List Byte) : List Byte :=
  let k := fitBytes 128 (if 128 < key.length then h key else key)
  h (k.map (· ^^^ 0x5C#8) ++ h (k.map (· ^^^ 0x36#8) ++ m))

/-- HMAC-SHA-512, and HMAC-SHA-512/256 (R65). -/
def hmac (key m : List Byte) : List Byte := fitBytes 64 (hmacOf sha512 key m)
def hmac256 (key m : List Byte) : List Byte := fitBytes 32 (hmacOf sha512To256 key m)

/-- HKDF-SHA-512 for outputs of at most 64 bytes, the one block T(1): input key, salt, info, length. No salt stands for zeros. -/
def hkdf (ikm salt info : List Byte) (n : Nat) : List Byte := fitBytes n (hmac (hmac salt ikm) (info ++ [1]))

end Sys2Proof.Algo
end

