-- ==== Sys2Proof/Machine/Aes.lean ====
section
/-! DEFINITION. AES-256 (FIPS 197) and its modes, as the standards that R256 names define them: CTR and XTS and GCM streams (R200, R258,
R260), KWP (R203, R265), the key derivation of the context key (R108), and CTR_DRBG (R256, R271). What the spec says of each (the counter, the tweak, the
lengths) is followed; the rest of the standards' contents is PRESUMED (log entry 6). -/

namespace Sys2Proof.Algo

/-- The S-box and its inverse, sixteen entries to a number, the first in its low byte. -/
def sbox : List Nat :=
  [0x76ABD7FE2B670130C56F6BF27B777C63, 0xC072A49CAFA2D4ADF04759FA7DC982CA,
   0x1531D871F1E5A534CCF73F362693FDB7, 0x75B227EBE28012079A059618C323C704,
   0x842FE329B3D63B52A05A6E1B1A2C8309, 0xCF584C4A39BECB6A5BB1FC20ED00D153,
   0xA89F3C507F02F94585334D43FBAAEFD0, 0xD2F3FF1021DAB6BCF5389D928F40A351] ++
  [0x73195D643D7EA7C41744975FEC130CCD, 0xDB0B5EDE14B8EE4688902A22DC4F8160,
   0x79E4959162ACD3C25C2406490A3A32E0, 0x08AE7A65EAF4566CA94ED58D6D37C8E7,
   0x8A8BBD4B1F74DDE8C6B4A61C2E2578BA, 0x9E1DC186B95735610EF6034866B53E70,
   0xDF2855CEE9871E9B948ED9691198F8E1, 0x16BB54B00F2D99416842E6BF0D89A18C]
def sboxInv : List Nat :=
  [0xFBD7F3819EA340BF38A53630D56A0952, 0xCBE9DEC444438E3487FF2F9B8239E37C,
   0x4EC3FA420B954CEE3D23C2A632947B54, 0x25D18B6D49A25B76B224D92866A12E08,
   0x92B6655DCC5CA4D41698688664F6F872, 0x849D8DA75746155EDAB9EDFD5048706C,
   0x0645B3B80558E4F70AD3BC8C00ABD890, 0x6B8A130103BDAFC1020F3FCA8F1E2CD0] ++
  [0x73E6B4F0CECFF297EADC674F4111913A, 0x6EDF751CE837F9E28535ADE72274AC96,
   0x1BBE18AA0E62B76F89C5291D711AF147, 0xF45ACD78FEC0DB9A2079D2C64B3E56FC,
   0x5FEC8027591012B131C7078833A8DD1F, 0xEF9CC9939F7AE52D0D4AB519A97F5160,
   0x619953833CBBEBC8B0F52AAE4D3BE0A0, 0x7D0C2155631469E126D677BA7E042B17]

/-- A byte through a box. -/
def boxed (box : List Nat) (x : Nat) : Nat := (box.getD (x / 16) 0 >>> (8 * (x % 16))) % 256

/-- Multiplication by x in GF(2^8), and by any element of four bits. -/
def xtime (x : Nat) : Nat := if x < 128 then 2 * x else (2 * x) ^^^ 0x11B
def gfMul (c x : Nat) : Nat :=
  let x2 := xtime x
  let x4 := xtime x2
  (if c.testBit 0 then x else 0) ^^^ (if c.testBit 1 then x2 else 0) ^^^ (if c.testBit 2 then x4 else 0)
    ^^^ (if c.testBit 3 then xtime x4 else 0)

/-- The key schedule: words of four bytes, the newest first; each step appends one word until 60 stand. -/
def expandOn : Nat → Nat → Nat → List (List Nat) → List (List Nat)
  | 0, _, _, ws => ws
  | n + 1, i, rcon, ws =>
    let old := ws.getD 7 []
    let w := ws.headD []
    let w := if i % 8 = 0 then (match w with
        | [a, b, c, d] => [boxed sbox b ^^^ rcon, boxed sbox c, boxed sbox d, boxed sbox a]
        | _ => w)
      else if i % 8 = 4 then w.map (boxed sbox) else w
    forceAll (List.zipWith (· ^^^ ·) old w) (fun v => expandOn n (i + 1) (if i % 8 = 0 then 2 * rcon else rcon) (v :: ws))

/-- The fifteen round keys, sixteen bytes each. -/
def aesKeys (key : List Byte) : List (List Nat) :=
  let ks := (pieces 4 (fitBytes 32 key)).map (fun (w : List Byte) => w.map (fun (x : Byte) => x.toNat))
  let ws := (expandOn 52 8 1 ks.reverse).reverse
  (List.range 15).map (fun r => ((ws.drop (4 * r)).take 4).flatten)

/-- The rows of the state, a column after the other, shifted by their numbers; `d` is 4 to shift left and 12 to shift right. -/
def shiftRows (d : Nat) (s : List Nat) : List Nat := (List.range 16).map (fun i => s.getD ((i + d * (i % 4)) % 16) 0)

/-- Each column times a polynomial with the coefficients given. -/
def mixColumns (m : Nat × Nat × Nat × Nat) : List Nat → List Nat
  | a :: b :: c :: d :: r =>
    let col := fun (a b c d : Nat) => gfMul m.1 a ^^^ gfMul m.2.1 b ^^^ gfMul m.2.2.1 c ^^^ gfMul m.2.2.2 d
    col a b c d :: col b c d a :: col c d a b :: col d a b c :: mixColumns m r
  | _ => []

/-- The rounds of the cipher after the first key: the last has no mixing. -/
def aesRounds : List (List Nat) → List Nat → List Nat
  | [], s => s
  | [k], s => List.zipWith (· ^^^ ·) (shiftRows 4 (s.map (boxed sbox))) k
  | k :: ks, s => forceAll (List.zipWith (· ^^^ ·) (mixColumns (2, 3, 1, 1) (shiftRows 4 (s.map (boxed sbox)))) k) (aesRounds ks)

/-- The rounds of the inverse cipher, its keys from the last back. -/
def aesBack : List (List Nat) → List Nat → List Nat
  | [], s => s
  | [k], s => List.zipWith (· ^^^ ·) ((shiftRows 12 s).map (boxed sboxInv)) k
  | k :: ks, s =>
    forceAll (mixColumns (14, 11, 13, 9) (List.zipWith (· ^^^ ·) ((shiftRows 12 s).map (boxed sboxInv)) k)) (aesBack ks)

/-- One block with expanded keys: enciphered, or deciphered. -/
def aesBlock (enc : Bool) (ks : List (List Nat)) (b : List Byte) : List Byte :=
  let start := (fitBytes 16 b).map (fun (x : Byte) => x.toNat)
  let ks := if enc then ks else ks.reverse
  forceAll (List.zipWith (· ^^^ ·) start (ks.headD [])) (fun s =>
    ((if enc then aesRounds else aesBack) ks.tail s).map (fun n => BitVec.ofNat 8 n))

/-! ### CTR (R200) -/

/-- A text and the key stream of the blocks `block j` for j from `j` on. -/
def keyStream (ks : List (List Nat)) (block : Nat → List Byte) : Nat → List (List Byte) → List Byte
  | _, [] => []
  | j, p :: ps => xorBytes p (aesBlock true ks (block j)) ++ keyStream ks block (j + 1) ps

/-- AES-256-CTR: key, initial counter block, text. Block j uses the counter block plus j, a big-endian number modulo 2^128. -/
def ctr (key block p : List Byte) : List Byte :=
  let c := beNat block
  fitBytes p.length (keyStream (aesKeys key) (fun j => natBe 16 ((c + j) % 2 ^ 128)) 0 (pieces 16 p))

/-! ### XTS (R200, R260; IEEE 1619) -/

/-- A tweak times alpha. -/
def alphaTimes (t : Nat) : Nat := if t < 2 ^ 127 then 2 * t else (2 * t - 2 ^ 128) ^^^ 0x87

/-- The blocks of a stream: block `j` of data unit `unit`, whose tweak stands at `t`; a unit has `n` blocks. -/
def xtsOn (enc : Bool) (k1 k2 : List (List Nat)) (n : Nat) : Nat → Nat → Nat → List (List Byte) → List Byte
  | _, _, _, [] => []
  | unit, j, t, b :: bs =>
    force (if j = 0 then leNat (aesBlock true k2 (natLe 16 unit)) else t) (fun t =>
      let w := natLe 16 t
      xorBytes (aesBlock enc k1 (xorBytes b w)) w ++
        (if j + 1 = n then xtsOn enc k1 k2 n (unit + 1) 0 0 bs else xtsOn enc k1 k2 n unit (j + 1) (alphaTimes t) bs))

/-- AES-256-XTS: encrypt or decrypt, the key pair, the bytes of a data unit, the first unit's number, the stream so far in whole
blocks. -/
def xts (enc : Bool) (key : List Byte) (du first : Nat) (p : List Byte) : List Byte :=
  fitBytes p.length (xtsOn enc (aesKeys (key.take 32)) (aesKeys (key.drop 32)) (du / 16) first 0 0 (pieces 16 p))

/-! ### GCM (R201; SP 800-38D) -/

/-- Multiplication in GF(2^128), the bits of a block from its top one down. -/
def ghashMul : Nat → Nat → Nat → Nat → Nat
  | 0, _, _, z => z
  | n + 1, x, v, z =>
    force (if x.testBit n then z ^^^ v else z) (fun z =>
      force (if v % 2 = 1 then v / 2 ^^^ 0xE1 * 2 ^ 120 else v / 2) (fun v => ghashMul n x v z))

/-- GHASH over blocks. -/
def ghash (h : Nat) (bs : List (List Byte)) : Nat :=
  bs.foldl (fun y b => ghashMul 128 (y ^^^ beNat (fitBytes 16 b)) h 0) 0

/-- The counter block `j` of an IV of 96 bits. -/
def gcmBlock (iv : List Byte) (j : Nat) : List Byte := fitBytes 12 iv ++ natBe 4 (j + 1)

/-- AES-256-GCM's text, the same for encryption and decryption: key, IV, text. -/
def gcm (key iv p : List Byte) : List Byte := fitBytes p.length (keyStream (aesKeys key) (gcmBlock iv) 1 (pieces 16 p))

/-- The tag of 128 bits: key, IV, additional data, ciphertext. -/
def gcmTag (key iv aad c : List Byte) : List Byte :=
  let ks := aesKeys key
  let h := beNat (aesBlock true ks (List.replicate 16 0))
  let y := ghash h (pieces 16 aad ++ pieces 16 c ++ [natBe 8 (8 * aad.length) ++ natBe 8 (8 * c.length)])
  fitBytes 16 (xorBytes (natBe 16 y) (aesBlock true ks (gcmBlock iv 0)))

/-! ### KWP (R203, R265; SP 800-38F) -/

/-- One pass of the wrapping function over the semiblocks: A, the step's number, and the semiblocks. -/
def wrapPass (ks : List (List Nat)) : List Byte → Nat → List (List Byte) → List Byte × Nat × List (List Byte)
  | a, t, [] => (a, t, [])
  | a, t, r :: rs =>
    let b := aesBlock true ks (a ++ r)
    let (a', t', rs') := wrapPass ks (natBe 8 (beNat (b.take 8) ^^^ t)) (t + 1) rs
    (a', t', b.drop 8 :: rs')

def wrapOn (ks : List (List Nat)) : Nat → List Byte → Nat → List (List Byte) → List Byte
  | 0, a, _, rs => a ++ rs.flatten
  | n + 1, a, t, rs => let (a, t, rs) := wrapPass ks a t rs; wrapOn ks n a t rs

/-- One pass of the unwrapping function, the semiblocks from the last to the first. -/
def unwrapPass (ks : List (List Nat)) : List Byte → Nat → List (List Byte) → List Byte × Nat × List (List Byte)
  | a, t, [] => (a, t, [])
  | a, t, r :: rs =>
    let b := aesBlock false ks (natBe 8 (beNat a ^^^ t) ++ r)
    let (a', t', rs') := unwrapPass ks (b.take 8) (t - 1) rs
    (a', t', b.drop 8 :: rs')

def unwrapOn (ks : List (List Nat)) : Nat → List Byte → Nat → List (List Byte) → List Byte × List Byte
  | 0, a, _, rs => (a, rs.reverse.flatten)
  | n + 1, a, t, rs => let (a, t, rs) := unwrapPass ks a t rs; unwrapOn ks n a t rs

/-- AES-256-KWP wrap: key, plaintext. One semiblock goes through the plain cipher, more through six passes. -/
def kwpWrap (key p : List Byte) : List Byte :=
  let ks := aesKeys key
  let n := (p.length + 7) / 8
  let a := natBe 4 0xA65959A6 ++ natBe 4 p.length
  let q := fitBytes (8 * n) p
  fitBytes (8 * n + 8) (if n = 1 then aesBlock true ks (a ++ q) else wrapOn ks 6 a 1 (pieces 8 q))

/-- AES-256-KWP unwrap: key, ciphertext; none where the integrity check fails. -/
def kwpUnwrap (key c : List Byte) : Option (List Byte) :=
  let ks := aesKeys key
  let n := c.length / 8 - 1
  let (a, q) := if n = 1 then (fun (b : List Byte) => (b.take 8, b.drop 8)) (aesBlock false ks c)
    else unwrapOn ks 6 (c.take 8) (6 * n) (pieces 8 (c.drop 8)).reverse
  let len := beNat (a.drop 4)
  if 0 < n ∧ c.length = 8 * n + 8 ∧ beNat (a.take 4) = 0xA65959A6 ∧ 8 * (n - 1) < len ∧ len ≤ 8 * n ∧ (q.drop len).all (· = 0) then
    some (q.take len) else none

/-! ### CTR_DRBG (R256, R271; SP 800-90A) -/

/-- The working state of an instance: its Key and its V, both empty before instantiation. -/
structure DrbgWork where
  key : List Byte
  v : List Byte
  deriving DecidableEq, Repr

/-- The derivation function: 48 bytes from an input of any length. -/
def drbgDf (input : List Byte) : List Byte :=
  let text := natBe 4 input.length ++ natBe 4 48 ++ input ++ [0x80#8]
  let text := pieces 16 (fitBytes (roundUp text.length 16) text)
  let chain := fun (ks : List (List Nat)) (bs : List (List Byte)) =>
    bs.foldl (fun y b => aesBlock true ks (xorBytes y b)) (List.replicate 16 0)
  let ks := aesKeys ((List.range 32).map (BitVec.ofNat 8))
  let seed := [0, 1, 2].flatMap (fun i => chain ks (fitBytes 16 (natBe 4 i) :: text))
  let ks := aesKeys (seed.take 32)
  let a := aesBlock true ks (seed.drop 32)
  let b := aesBlock true ks a
  a ++ b ++ aesBlock true ks b

/-- The blocks that follow V, `n` of them. -/
def DrbgWork.stream (w : DrbgWork) (n : Nat) : List Byte :=
  let ks := aesKeys w.key
  (List.range n).flatMap (fun i => aesBlock true ks (natBe 16 ((beNat w.v + 1 + i) % 2 ^ 128)))

/-- The update with 48 bytes of provided data. -/
def DrbgWork.update (w : DrbgWork) (data : List Byte) : DrbgWork :=
  let x := xorBytes (w.stream 3) data
  ⟨x.take 32, x.drop 32⟩

/-- Instantiation from entropy input, nonce and personalisation string. -/
def drbgInstantiate (entropy nonce pers : List Byte) : DrbgWork :=
  (DrbgWork.mk (List.replicate 32 0) (List.replicate 16 0)).update (drbgDf (entropy ++ nonce ++ pers))

/-- A reseed from entropy input. -/
def DrbgWork.reseeded (w : DrbgWork) (entropy : List Byte) : DrbgWork := w.update (drbgDf entropy)

/-- A generate request of `n` bytes without additional input. -/
def DrbgWork.generate (w : DrbgWork) (n : Nat) : List Byte × DrbgWork :=
  let k := (n + 15) / 16
  (fitBytes n (w.stream k),
    (DrbgWork.mk w.key (natBe 16 ((beNat w.v + k) % 2 ^ 128))).update (List.replicate 48 0))

/-! ### The key derivation of the context key (R108) -/

/-- A subkey of CMAC: doubled in GF(2^128), the block a big-endian number. -/
def cmacDouble (x : Nat) : Nat := alphaTimes x

/-- AES-256-CMAC (SP 800-38B) of a message that is not empty. -/
def cmac (key m : List Byte) : List Byte :=
  let ks := aesKeys key
  let k1 := cmacDouble (beNat (aesBlock true ks (List.replicate 16 0)))
  let bs := pieces 16 m
  let last := bs.getLastD []
  let last := if last.length = 16 then natBe 16 (beNat last ^^^ k1)
    else natBe 16 (beNat (fitBytes 16 (last ++ [0x80#8])) ^^^ cmacDouble k1)
  (bs.dropLast ++ [last]).foldl (fun y b => aesBlock true ks (xorBytes y b)) (List.replicate 16 0)

/-- The SP 800-108 counter-mode derivation of 256 bits with AES-256-CMAC: key, label, context. The counter and the length stand in 32
bits each, big-endian, around the label, a zero byte and the context (log entry 6). -/
def kdf256 (key label context : List Byte) : List Byte :=
  fitBytes 32 ([1, 2].flatMap (fun i => cmac key (natBe 4 i ++ label ++ 0#8 :: context ++ natBe 4 256)))

end Sys2Proof.Algo
end

