-- ==== Sys2Proof/Machine/P521.lean ====
section
/-! DEFINITION. The curve P-521 (R207, R208, R267): compressed points (SEC 1), ECDSA with SHA-512 (FIPS 186-5), and the shared
x-coordinate of R89 and R354. The spec names the standards; the curve's numbers and the formulas are PRESUMED (log entry 6). Numbers of
the curve are 66 bytes, big-endian (R123, R207). -/

namespace Sys2Proof.Algo

/-- The field's prime, the order of the base point, the curve's b, and the base point. -/
def fieldP : Nat := 2 ^ 521 - 1
def orderN : Nat := 2 ^ 521 - 2 ^ 260 + 0xA51868783BF2F966B7FCC0148F709A5D03BB5C9B8899C47AEBB6FB71E91386409
def curveB : Nat :=
  0x51953EB9618E1C9A1F929A21A0B68540EEA2DA725B99B315F3B8B489918EF109 * 2 ^ 264 +
  0xE156193951EC7E937B1652C0BD3BB1BF073573DF883D2C34F1EF451FD46B503F00
def baseX : Nat :=
  0xC6858E06B70404E9CD9E3ECB662395B4429C648139053FB521F828AF606B4D3D * 2 ^ 264 +
  0xBAA14B5E77EFE75928FE1DC127A2FFA8DE3348B3C1856A429BF97E7E31C2E5BD66
def baseY : Nat :=
  0x11839296A789A3BC0045C8A5FB42C7D1BD998F54449579B446817AFBD17273E66 * 2 ^ 264 +
  0x2C97EE72995EF42640C550B9013FAD0761353C7086A272C24088BE94769FD16650

/-- Differences and products in the field. -/
def fSub (a b : Nat) : Nat := (a + fieldP - b % fieldP) % fieldP
def fMul (a b : Nat) : Nat := a * b % fieldP

/-- A power modulo `m`: the exponent's bits below `k`, from the top one down. -/
def powOn (m b e : Nat) : Nat → Nat → Nat
  | 0, r => r
  | k + 1, r => force (r * r % m) (fun r => force (if e.testBit k then r * b % m else r) (powOn m b e k))
def powMod (m b e : Nat) : Nat := powOn m (b % m) e 522 1

/-- A point in Jacobian coordinates: x is X / Z^2 and y is Y / Z^3; Z is 0 at infinity. -/
structure Point where
  x : Nat
  y : Nat
  z : Nat

def mkPoint (x y z : Nat) : Point := force x (fun x => force y (fun y => force z (fun z => ⟨x, y, z⟩)))
def infinity : Point := ⟨1, 1, 0⟩
def base : Point := ⟨baseX, baseY, 1⟩

/-- Twice a point, on a curve whose a is -3. -/
def Point.double (p : Point) : Point :=
  force (fMul p.z p.z) (fun zz => force (fMul p.y p.y) (fun yy => force (fMul p.x yy) (fun xyy =>
    force (3 * fMul (fSub p.x zz) (p.x + zz) % fieldP) (fun m =>
      force (fSub (m * m) (8 * xyy)) (fun x =>
        mkPoint x (fSub (m * fSub (4 * xyy) x) (8 * fMul yy yy)) (2 * p.y * p.z % fieldP))))))

/-- The sum of two points. -/
def Point.plus (p q : Point) : Point :=
  if p.z = 0 then q
  else if q.z = 0 then p
  else force (fMul p.z p.z) (fun pz => force (fMul q.z q.z) (fun qz =>
    force (fMul p.x qz) (fun u => force (fMul p.y (fMul q.z qz)) (fun v =>
      force (fSub (q.x * pz) u) (fun h => force (fSub (q.y * fMul p.z pz) v) (fun r =>
        if h = 0 then (if r = 0 then p.double else infinity)
        else force (fMul h h) (fun hh => force (fMul h hh) (fun hhh => force (fMul u hh) (fun uhh =>
          force (fSub (r * r) (hhh + 2 * uhh)) (fun x =>
            mkPoint x (fSub (r * fSub uhh x) (v * hhh)) (fMul h (fMul p.z q.z))))))))))))

/-- A multiple of a point: the factor's bits below `k`, from the top one down. -/
def Point.timesOn (p : Point) (e : Nat) : Nat → Point → Point
  | 0, r => r
  | k + 1, r =>
    let d := r.double
    p.timesOn e k (if e.testBit k then d.plus p else d)
def Point.times (p : Point) (e : Nat) : Point := p.timesOn e 521 infinity

/-- The affine coordinates of a point that is not infinity. -/
def Point.affine (p : Point) : Nat × Nat :=
  force (powMod fieldP p.z (fieldP - 2)) (fun i => force (fMul i i) (fun ii => (fMul p.x ii, fMul p.y (fMul ii i))))

/-- A compressed point: 02 or 03 by y's lowest bit, and x (SEC 1). -/
def Point.bytes (p : Point) : List Byte :=
  let (x, y) := p.affine
  BitVec.ofNat 8 (2 + y % 2) :: natBe 66 x

/-- The point that 67 bytes stand for, none where they stand for none (R267). -/
def decompress (b : List Byte) : Option Point :=
  let tag := (b.headD 0).toNat
  let x := beNat (b.drop 1)
  if b.length = 67 ∧ (tag = 2 ∨ tag = 3) ∧ x < fieldP then
    let w := fSub (x * fMul x x + curveB) (3 * x)
    let y := powMod fieldP w (2 ^ 519)
    if fMul y y = w then
      (if y % 2 = tag % 2 then some ⟨x, y, 1⟩ else if y = 0 then none else some ⟨x, fieldP - y, 1⟩) else none
  else none

/-- Whether 67 bytes decompress to a point on P-521, which is then not infinity (R267). -/
def pointOk (b : List Byte) : Bool := (decompress b).isSome

/-- Whether 66 bytes are a scalar in 1 to n - 1 (R267). -/
def scalarOk (b : List Byte) : Bool := b.length = 66 && 0 < beNat b && beNat b < orderN

/-- The scalar of a candidate of 66 random bytes, by the rejection method of FIPS 186-5: its low 521 bits as c, none where c is above
n - 2, else c + 1. -/
def scalarFrom (b : List Byte) : Option (List Byte) :=
  let c := beNat b % 2 ^ 521
  if c + 2 ≤ orderN then some (natBe 66 (c + 1)) else none

/-- The compressed public point of a scalar. -/
def publicPoint (scalar : List Byte) : List Byte := fitBytes 67 (base.times (beNat scalar % orderN)).bytes

/-- The shared x-coordinate of a scalar and the peer's point, 66 bytes. -/
def ecdh (scalar point : List Byte) : List Byte :=
  match decompress point with
  | some p => natBe 66 (p.times (beNat scalar % orderN)).affine.1
  | none => natBe 66 0

/-- The signature r, s of a digest under a scalar with a per-signature secret; the whole digest enters as its integer value (R256). Where
a half is 0 the signer draws again (`sigOutOfRange`). -/
def ecdsaSign (scalar digest k : List Byte) : List Byte :=
  let r := (base.times (beNat k % orderN)).affine.1 % orderN
  let s := powMod orderN (beNat k) (orderN - 2) * (beNat digest + r * beNat scalar) % orderN
  natBe 66 r ++ natBe 66 s

/-- Whether a half of a signature lies outside 1 to n - 1 (R208). -/
def sigOutOfRange (b : List Byte) : Bool := beNat b = 0 || orderN ≤ beNat b

/-- Whether the verification equation holds: point, digest, signature in range. -/
def ecdsaHolds (point digest sig : List Byte) : Bool :=
  match decompress point with
  | none => false
  | some q =>
    let r := beNat (sig.take 66)
    let w := powMod orderN (beNat ((sig.drop 66).take 66)) (orderN - 2)
    let p := (base.times (beNat digest * w % orderN)).plus (q.times (r * w % orderN))
    p.z ≠ 0 && p.affine.1 % orderN = r

end Sys2Proof.Algo
end

