-- ==== Sys2Proof/Machine/State.lean ====
section
/-! DEFINITION. The state of the part as plain data: every register, FIFO, queue, counter, mode and pin the spec
names, the commands that wait, and the state right after reset. -/

namespace Sys2Proof.Machine

/-- A sparse table by key, in one canonical form: keys strictly rising, no entry equal to the table's default. -/
abbrev Tab (α : Type) := List (Nat × α)

/-- A Stamp (R22): TIME, NODE, DOMAIN and SEQ. -/
structure Stamp where
  time : Nat
  node : Nat
  domain : Nat
  seq : Nat
  deriving DecidableEq, Repr

/-- A Stamp Log record (R38). -/
structure LogRecord where
  stamp : Stamp
  kind : Nat
  sub : Nat
  unit : Nat
  arg0 : Nat
  arg1 : Nat
  deriving DecidableEq, Repr

/-- The time core (R20 to R36): Time, the snapshot of each master, the SEQ counter and last TIME of each DOMAIN, the
NODE that stamps carry, what slewing and holdover still owe, the last whole second told, and by how much steps and a restart
moved Time in all. `lastTime` is by NODE and DOMAIN; `ppsMark` is the Time since which PPS_OUT looks for a crossing, `ppsRise` when it
rose. -/
structure TimeCore where
  now : Nat
  snaps : Tab Nat
  seqs : Tab Nat
  lastTime : Tab Nat
  stampNode : Nat
  holdMark : Option Nat
  slew : Int
  fastSlew : Bool
  lockRun : Nat
  recentOfs : List Int
  epochSet : Bool
  joinStepDue : Bool
  ppsOut : Bool
  ppsRise : Nat
  ppsMark : Nat
  ppsInLast : Option Nat
  lastSecond : Nat
  stepped : Int
  deriving DecidableEq, Repr

/-- The stamp-log unit (R40 to R46): the drain FIFO, the always-logged records that wait at their stamp points, the
drops a LOG_LOST record has still to tell, the Time since which the writer took nothing, the hold of R45, the hops of FAULT records that
a strike led to and that have not entered the FIFO, and the hop of the strike whose work acts, between commands 0 (R305). -/
structure LogUnit where
  fifo : List LogRecord
  waiting : List LogRecord
  lostDue : Nat
  since : Option Nat
  hold : Bool
  hops : List (Stamp × Nat)
  hop : Nat
  deriving DecidableEq, Repr

/-- A message in a mailbox FIFO (R64), with the TIME of its enqueue (R30). -/
structure Msg where
  bytes : List Byte
  enq : Nat
  deriving DecidableEq, Repr

/-- The keys of an open secure channel (R88, R89, R118): MK, KT, the operator slot and the SEQ expected next. -/
structure ChanKey where
  macKey : List Byte
  wrapKey : List Byte
  slot : Nat
  expected : Nat
  deriving DecidableEq, Repr

/-- Where the answer to a relayed message goes (R358): the exchange, the NODE that asked, and the port. -/
structure Via where
  xid : Nat
  node : Nat
  port : Nat
  deriving DecidableEq, Repr

/-- A message relayed to a channel, and how many messages of the inbound FIFO come before it (R358). -/
structure Relayed where
  bytes : List Byte
  ahead : Nat
  via : Via
  deriving DecidableEq, Repr

/-- A request that Snima acts on and has not answered yet (R83): the message, where it came from if it was relayed, the Time by
which what it waits for must have come, and a number of the command's own. -/
structure Pending where
  msg : List Byte
  via : Option Via
  deadline : Nat
  tag : Nat
  deriving DecidableEq, Repr

/-- An answer (R81): RC, FIELD and the results from +0x08. -/
structure Answer where
  rc : Nat
  field : Nat
  results : List Byte
  deriving DecidableEq, Repr

/-- What follows an answer once it is posted (R90, R106, R127, R129). -/
inductive AfterPost where
  | nothing | restart | warmReset | createQueue | deleteQueue | dropKey
  | start (version svn : Nat) (meas : List Byte)
  deriving DecidableEq, Repr

/-- An answer on its way (R83, R87, R88): whether it carries a MAC, whether the channel's key goes after it, and what follows. -/
structure Posting where
  answer : Answer
  mac : Bool
  drop : Bool
  after : AfterPost
  deriving DecidableEq, Repr

/-- A mailbox channel (R61 to R75) and what Snima keeps for it (R83, R87 to R89): the request in progress, and its answer while the
outbound FIFO has no room. -/
structure Mailbox where
  inFifo : List Msg
  outFifo : List Msg
  timer : Option Nat
  relayed : List Relayed
  busy : Option Pending
  respWait : Option Posting
  key : Option ChanKey
  nonce : Option (List Byte)
  authRun : Nat
  deriving DecidableEq, Repr

/-- The Central Store layout (R91). -/
structure Layout where
  sessLog2 : Nat
  patCnt : Nat
  balCq : Nat
  logLog2 : Nat
  spare : Nat
  deriving DecidableEq, Repr

/-- A command identifier outstanding at a drive (R212, R213). -/
structure DrvCid where
  cid : Nat
  qp : Nat
  chan : Nat
  abandoned : Bool
  deriving DecidableEq, Repr

/-- A drive (R99 to R101, R378). -/
structure Drive where
  attached : Bool
  info : DriveInfo
  barBase : Nat
  qdLog2 : Nat
  qbase : Nat
  tails : Tab Nat
  heads : Tab Nat
  nextCid : Nat
  cids : List DrvCid
  scanDue : List Nat
  scanAt : Nat
  deriving DecidableEq, Repr

/-- The management cores and Snima (R83 to R107, R125 to R128): counters of DEV_HEALTH, the layout, the running image
and the slots its boot has still to try, since when the ROM copies the first of these (R107), the known-answer tests in progress, and when the last
background test began. -/
structure Snima where
  staleCnt : Nat
  authCnt : Nat
  layout : Layout
  version : Nat
  svn : Nat
  meas : List Byte
  bootSlots : List Bool
  loadAt : Nat
  kats : List (Nat × Nat × Option Nat)
  nextBgKat : Nat
  lastBgKat : Option Nat
  deriving DecidableEq, Repr

/-- An entry of the tamper log (R410, R412). -/
structure TamperEntry where
  time : Nat
  source : Nat
  arg : Nat
  count : Nat
  reported : Bool
  deriving DecidableEq, Repr

/-- The vault (R108, R109, R125, R407 to R414). Erased root keys are absent; DRK is held as the number of its drawing, and
its bytes are an uninterpreted function of that number. `wear` counts the writes of each physical word, `map` gives the physical word of
a logical one that has moved (R414), and `logNext` is the place of the next entry of the tamper log (R412). -/
structure Vault where
  drk : Option Nat
  frk : Option (List Byte)
  drkDraws : Nat
  fleetId : Nat
  node : Nat
  member : Bool
  slots : Tab (Option (List Byte))
  armWord : Nat
  bootRecord : Nat
  tamperLog : List TamperEntry
  tampCnt : Nat
  lastSrc : Nat
  tampered : Bool
  erased : Bool
  drkNew : Bool
  retired : Tab (Option Nat)
  gens : Tab Nat
  badWords : List Nat
  wear : Tab Nat
  map : Tab (Option Nat)
  logNext : Nat
  writes : Nat
  moved : Nat
  lastScrub : Nat
  deriving DecidableEq, Repr

/-- A key-cache entry (R15, R113, R115, R116). `keyed` is false for a count-only entry. -/
structure CacheEntry where
  sess : Nat
  epoch : Nat
  binding : List Byte
  ktype : Nat
  key : List Byte
  count : Nat
  keyed : Bool
  live : Bool
  holders : List Nat
  deriving DecidableEq, Repr

/-- A count of the write-back list (R115). -/
structure ListedCount where
  sess : Nat
  epoch : Nat
  count : Nat
  deriving DecidableEq, Repr

/-- A key-cache fill, waiting or in progress (R268, R269): the context read, the engine it runs on, and the channels
that wait on it with their own context reads. -/
structure Fill where
  sess : Nat
  epoch : Nat
  ctx : List Byte
  engine : Option Nat
  waiters : List (Nat × List Byte)
  revoked : Bool
  deriving DecidableEq, Repr

/-- A CTR_DRBG instance of the six of R271: seeded or not since the last loss of its seed, requests and Time since the seed, how often it
was seeded, and its Key and V. -/
structure Drbg where
  seeded : Bool
  requests : Nat
  seedTime : Nat
  seeds : Nat
  work : Algo.DrbgWork
  deriving DecidableEq, Repr

/-- The crypto block (R257 to R272): the key cache in order of last use, the write-back list, fills, the channel that
holds each unit, units out of rotation, and the channels that wait for a unit in the order in which they asked. -/
structure Crypto where
  cache : List CacheEntry
  listed : List ListedCount
  fills : List Fill
  aes : Tab (Option Nat)
  sha : Tab (Option Nat)
  p521 : Tab (Option Nat)
  aesOut : List Nat
  shaOut : List Nat
  p521Out : List Nat
  drbgOut : Bool
  aesWait : List Nat
  shaWait : List Nat
  p521Wait : List Nat
  drbg : Tab Drbg
  deriving DecidableEq, Repr

/-- The state of a 64-bit word's check bits: sound, one bit wrong, or uncorrectable (R279, R280), then with the bytes of the word
that are as they were last written, by bits. -/
inductive WordState where
  | sound | single | poisoned (known : Nat)
  deriving DecidableEq, Repr

/-- An open fault window of a page (R284). -/
structure PageWindow where
  page : Nat
  opened : Nat
  count : Nat
  deriving DecidableEq, Repr

/-- The Central Store (R277 to R286): bytes, check bits, remap, fault windows, lasting pages, scrub. -/
structure Store where
  mem : List Host.Cell
  words : Tab WordState
  remap : Tab (Option Nat)
  windows : List PageWindow
  lasting : List Nat
  unret : List Nat
  scrubPos : Tab Nat
  scrubStart : Tab Nat
  zeroing : Bool
  deriving DecidableEq, Repr

/-- A request presented at an arbiter (R287, R289): its segment, its requester, the 64-byte lines it asks for, and the
burst of the requester's transfer that it belongs to, with the page that the burst touches; or with `row` set a burst of an access that
a command of the part makes itself, told by the address of its 512-byte block. -/
structure ArbReq where
  seg : Nat
  req : Nat
  lines : Nat
  burst : Nat
  write : Bool
  row : Bool
  page : Option Nat
  deriving DecidableEq, Repr

/-- A reservation registered as waiting (R294): the requester's burst, or in `ask` the request of a command's own access, and the credits
it needs at each ledger. -/
structure Resv where
  req : Nat
  burst : Nat
  needs : List (Nat × Nat)
  ask : Option ArbReq
  deriving DecidableEq, Repr

/-- What a command's own access of the store waits for: an inbound request that arrived before it, the Tether, credits or its grant. -/
inductive ArbWait where
  | order | tether | credits | grant
  deriving DecidableEq, Repr

/-- The arbiters (R287 to R295) and the Tether (R247). Rotation pointers are keyed by 16 x segment + level, holders and
credits in use by segment, and the lines granted in the last 1.024 us by requester; `tethered` are the requesters of which the Tether
holds a command's own access. `made` are bursts of waiting commands that have been granted, `inbound` the inbound requests that wait, in
order of arrival (R288), and `heldAt` is when the grant that a command's own burst holds was made. `blocked` is the first access of the
command that acts which has to wait; between commands there is none. -/
structure Arbiters where
  ptr : Tab Nat
  presented : List ArbReq
  holder : Tab (Option ArbReq)
  used : Tab Nat
  resvs : List Resv
  history : Tab (List (Nat × Nat))
  tethered : List Nat
  made : List ArbReq
  inbound : List ArbReq
  heldAt : Tab Nat
  blocked : Option (ArbWait × ArbReq)
  deriving DecidableEq, Repr

/-- An event of a Carillon source that waits to be routed (R300): its source, its Stamp's TIME and its hop. -/
structure SourceEvent where
  source : Nat
  time : Nat
  hop : Nat
  deriving DecidableEq, Repr

/-- An event that reached a strike input after it had accepted (R306): the input, the firing's Stamp, its hop and the
firing channel. -/
structure Strike where
  input : Nat
  stamp : Stamp
  hop : Nat
  source : Nat
  deriving DecidableEq, Repr

/-- The interrupt state of a management core (R316 to R320): the stack of sources in service, top first, the source being entered
before its commit point, and whether the core is asleep. -/
structure Core where
  stack : List Nat
  entry : Option Nat
  asleep : Bool
  deriving DecidableEq, Repr

/-- An entry of an MSI-X Table (R321, R365). -/
structure MsixEntry where
  addr : Word
  data : BitVec 32
  masked : Bool
  deriving DecidableEq, Repr

/-- The interrupt controller (R311 to R325). Vectors are keyed by 8,192 x port + vector; `inService` lists those with a
message outstanding, `served` the sources that each of those messages reported, and `idled` the vectors that a host reset left IDLE
while R322 holds them (R325); for the others IDLE and PENDING follow from their conditions. `lastDelivery` is by Damper group, and
`dampHeld` lists the interrupts counted in HOLDS for the interval that runs. `cause` is the least TIME of the delivery of a source, or,
at 0x1000 + q, of a message for CQ q (R30); `decided` holds IRC_SRC of a source as its last delivery decision found it (R324). -/
structure Irc where
  cores : Tab Core
  inService : List Nat
  served : Tab (List Nat)
  idled : List Nat
  cause : Tab Nat
  table : Tab MsixEntry
  lastDelivery : Tab (Option Nat)
  dampHeld : List (Nat × Nat)
  decided : Tab (Option Nat)
  deriving DecidableEq, Repr

/-- A configuration space of a host endpoint (R322, R365 to R367). -/
structure PortConfig where
  msixEnable : Bool
  functionMask : Bool
  busMaster : Bool
  d3hot : Bool
  ctoUs : Nat
  ctoDisable : Bool
  maxPayload : Nat
  maxRead : Nat
  aspmL1 : Bool
  tenBitTags : Bool
  aer : Nat
  deriving DecidableEq, Repr

/-- A link access that was abandoned, whose result is stale when it comes (R335, R337). -/
structure Abandoned where
  link : Nat
  domain : Nat
  unit : Nat
  addr : Nat
  write : Bool
  deriving DecidableEq, Repr

/-- A link (R362 to R376): the Time at which it entered Recovery, the fault window open (R330), and the AER messages
logged (R372), the Root Error Command of a root port (R363), until when BKP_PERST_N is held low and the level of BKP_PRSNT_N (R422), and
whether the data link layer replays TLPs (R334). -/
structure Link where
  recovering : Option Nat
  window : Option Nat
  aer : Nat
  rootCmd : Nat
  twoLinks : Bool
  perstAt : Option Nat
  present : Bool
  replaying : Bool
  deriving DecidableEq, Repr

/-- A grandmaster heard in an ANNOUNCE (R350). -/
structure Heard where
  port : Nat
  prio : Nat
  gm : Nat
  src : Nat
  hops : Nat
  falign : Nat
  at_ : Nat
  deriving DecidableEq, Repr

/-- An admission a sponsor holds (R354). -/
structure Admission where
  node : Nat
  hash : List Byte
  until_ : Nat
  deriving DecidableEq, Repr

/-- A join in progress, at the joiner or at the sponsor (R354): the mailbox channel of the joiner's command, the peer's NODE, the NODE
and PRIO to take, the hash expected, the own ephemeral scalar, the peer's points, the nonce, KJ, the exchange, the port, the step
awaited and since when. -/
structure Join where
  chan : Nat
  peer : Nat
  node : Nat
  prio : Nat
  hash : List Byte
  eph : List Byte
  peerEph : List Byte
  peerDik : List Byte
  nonce : List Byte
  kj : List Byte
  xid : Nat
  port : Nat
  step : Nat
  at_ : Nat
  deriving DecidableEq, Repr

/-- What a relay that waits for its reply is for (R358, R359). -/
inductive RelayKind where
  | mbox | attest | record
  deriving DecidableEq, Repr

/-- A relay request in progress (R358, R359). -/
structure Relay where
  xid : Nat
  node : Nat
  kind : RelayKind
  chan : Nat
  addr : Nat
  at_ : Nat
  dead : Bool
  deriving DecidableEq, Repr

/-- The Fenuz unit (R346 to R359): what ANNOUNCEs told, the children served (port, NODE, greatest ALIGN below), the exchange in flight
(its t1 and identifier), when an ANNOUNCE and a SYNC_REQ last went out, admissions, joins and relays, the FLEET_NOTEs still to be
posted (address, NODE), and the frames sent: the port, and the frame from its destination address to the end of its client data. `gms` are
the grandmasters heard, with PRIO, NODE and when (R350). Of the loopback measurements (R400): the ports whose link has come up since their
last one, until when each runs, the delays that it found, and the frames that wait for its end. -/
structure Fenuz where
  heard : List Heard
  childs : List (Nat × Nat × Nat)
  exch : Option (Nat × Nat)
  lastAnn : Option Nat
  lastSync : Option Nat
  nextXid : Nat
  admissions : List Admission
  join : Option Join
  sponsoring : List Join
  relays : List Relay
  notes : List (Nat × Nat)
  tx : List (Nat × List Byte)
  falignSeen : Bool
  lastCal : Tab (Option Nat)
  gms : List (Nat × Nat × Nat)
  calDue : List Nat
  calUntil : Tab Nat
  delays : Tab (Nat × Nat)
  txWait : List (Nat × List Byte)
  deriving DecidableEq, Repr

/-- The power state of R396. -/
inductive PowerState where
  | run | standby | off
  deriving DecidableEq, Repr

/-- A PMBus transaction (R394, R426). -/
inductive PmbusTxn where
  | readMode
  | send (mant : Nat)
  deriving DecidableEq, Repr

/-- Rails, resets and the sideband controller (R381 to R397, R426). `timeLost` says that Time has restarted since the last
release of cold reset (R34), `romDue` that MC0 waits for a new DRK before it starts from ROM (R409), `perstHigh` the host ports whose
PERST_N input is high, `warmAt` when the last warm reset was requested (R390), `warmDue` that an access which the part makes by itself has just written
GCTL_RST.WARM (between commands none has), `romAt` when the management cores last started from ROM without a cold reset (R390), `aonLoss`
that AONLOSS was 1 when VAON was lost (R406), `wire` the bytes that the part sends in its last
transaction with the regulator (R394). -/
structure Power where
  state : PowerState
  coldReset : Bool
  rstLow : Bool
  vaon : Bool
  railDown : Option Nat
  txn : Option PmbusTxn
  lostArb : Bool
  queued : Option Nat
  exponent : Option Int
  modeBad : Bool
  romDue : Bool
  timeLost : Bool
  perstHigh : Tab Bool
  warmAt : Option Nat
  warmDue : Bool
  romAt : Option Nat
  aonLoss : Bool
  wire : List Byte
  deriving DecidableEq, Repr

/-- The analogue core (R398 to R406, R424): receive-path and converter roles, calibration Times, entropy; whether VDDA has been read
since cold reset, the TAMPER_IN pins, and the seed of the mesh pattern with the clock at its drawing. -/
structure Analogue where
  laneRole : Tab Bool
  tdcRole : Tab Bool
  tdcCal : Tab (Option Nat)
  startupRuns : Bool
  detecting : Nat
  gpioIn : Nat
  vddaRead : Bool
  tamperIn : Tab PinLevel
  meshSeed : Nat
  meshSince : Nat
  deriving DecidableEq, Repr

/-- The TAP's instructions (R427). -/
inductive TapInstr where
  | bypass | idcode | samplePreload | extest | extestPulse | extestTrain | highz | clamp
  deriving DecidableEq, Repr

/-- What drives the pins that have cells of the boundary-scan register (R427): the part, the register, or nothing. -/
inductive PinDrive where
  | part | boundary | nothing
  deriving DecidableEq, Repr

/-- The TAP and the sideband target (R425 to R427): the value and the PEC of the last transaction, whether it was acknowledged, and the
strap SB_ASEL as it was read at the last release of SYS_RST_N (R422). -/
structure Sideband where
  value : Word
  acked : Bool
  pec : Nat
  asel : Nat
  tap : TapInstr
  captured : Nat
  pins : PinDrive
  boundary : List (Pin × Bool)
  deriving DecidableEq, Repr

/-- A completion entry that has been decided (R150), before its Stamp is taken. -/
structure Cqe where
  covered : Nat
  sqHead : Nat
  sqId : Nat
  code : Nat
  headPh : Bool
  tag : Word
  cause : Nat
  deriving DecidableEq, Repr

/-- Who holds a CQE for a CQ whose Ballast is full (R154, R155). -/
inductive Holder where
  | engine
  | chan (c : Nat)
  deriving DecidableEq, Repr

/-- The configuration of a queue that is in force (R130): the words of its registers as its last window read or CQE took them. -/
structure QConf where
  cfg : Nat
  base : Nat
  chan : Nat
  taddr : Nat
  haddr : Nat
  deriving DecidableEq, Repr

/-- A completion queue (R129, R135, R151 to R155), with the reads of its head word that are outstanding. -/
structure Cq where
  exists_ : Bool
  en : Bool
  tail : Nat
  tailPh : Bool
  head : Nat
  headPh : Bool
  balFirst : Nat
  balCount : Nat
  due : List Cqe
  held : List (Holder × Cqe)
  headReads : List (Nat × Option Nat)
  conf : QConf
  deriving DecidableEq, Repr

/-- An accepted entry that no CQE covers yet (R132, R152). -/
structure OpenEntry where
  num : Nat
  tag : Word
  code : Option Nat
  batchEnd : Bool
  cause : Nat
  deriving DecidableEq, Repr

/-- An accepted entry whose action is still to come (R132, R133): just accepted, or a START in the entry buffer. -/
structure HeldEntry where
  num : Nat
  sop : Nat
  prog : Word
  sess : Nat
  zone : Nat
  tag : Word
  notBefore : Word
  cause : Nat
  deriving DecidableEq, Repr

/-- A window read in flight (R141, R145): its slots, whether a doorbell came or EN was cleared meanwhile, when it was issued, and on which
link. -/
structure Window where
  slots : Nat
  rung : Bool
  dropped : Bool
  issued : Nat
  link : Option Nat
  deriving DecidableEq, Repr

/-- A submission queue (R129 to R157), with the reads of its tail word that are outstanding, by when and on which link they were issued. -/
structure Sq where
  exists_ : Bool
  en : Bool
  head : Nat
  headPh : Bool
  wake : Bool
  window : Option Window
  tail : Nat
  tailReads : List (Nat × Option Nat)
  credit : Nat
  starts : List HeldEntry
  acts : List HeldEntry
  opens : List OpenEntry
  nextNum : Nat
  repoll : Option Nat
  cause : Nat
  conf : QConf
  deriving DecidableEq, Repr

/-- The queue engine's rotation (R142, R143) and whether it accepts entries (R148). -/
structure FetchArb where
  lastUrgent : Nat
  lastWeighted : Nat
  accepting : Bool
  deriving DecidableEq, Repr

/-- A channel command (R160). -/
structure Cmd where
  opc : Nat
  flg : Nat
  mod : Nat
  zs : Nat
  zd : Nat
  count : Nat
  src : Nat
  dst : Nat
  sess : Nat
  sessRsv : Nat
  aux : Nat
  param : Nat
  param2 : Nat
  own : Bool
  deriving DecidableEq, Repr

/-- A Pattern Table entry (R240). -/
structure Pattern where
  elem : Nat
  scale : Nat
  idx : Bool
  n0 : Nat
  n1 : Nat
  n2 : Nat
  s0 : Int
  s1 : Int
  s2 : Int
  tbl : Nat
  deriving DecidableEq, Repr

/-- A command as the channel holds it: its address, its contents and the Pattern Table entry it names (R162, R241). -/
structure Member where
  addr : Nat
  cmd : Cmd
  pattern : Option Pattern
  deriving DecidableEq, Repr

/-- Where a burst stands (R236 to R239): its read is to be issued, held by the Tether, waits for credits or a grant, is
outstanding, or has returned while an earlier one has not; then its write likewise. -/
inductive BurstStage where
  | readWait | readHeld | readCredit | readReq | reading | readDone
  | writeWait | writeHeld | writeReq | writing
  deriving DecidableEq, Repr

/-- A burst of a transfer (R236): the source bytes `lo` to `hi - 1` that it reads, none for a burst that only writes, the
side of a COMPARE it reads, its stage, and what it writes: zone, first byte's place in the output, addresses and bytes; the
bytes read and not yet used, when an access on a link was issued and on which link (R375), and the place of its last access in the order
of issue (R249). -/
structure Burst where
  num : Nat
  lo : Nat
  hi : Nat
  side : Nat
  stage : BurstStage
  wz : Nat
  wpos : Nat
  out : List (Nat × Byte)
  credits : List (Nat × Nat)
  data : List Byte
  issued : Nat
  link : Option Nat
  ord : Nat
  deriving DecidableEq, Repr

/-- A failed access of a mover (R248, R249): CAUSE, ACODE, ZONE, DIR, TBL, the address latched, and the stream offset of
the first byte of the failing beat that the transfer uses, or a failed second read of a chain's member (R186); and the place of
the access in the order of issue (R249). -/
structure Failure where
  cause : Nat
  acode : Nat
  zone : Nat
  dir : Nat
  tbl : Bool
  addr : Nat
  off : Nat
  fetch : Bool
  ord : Nat
  deriving DecidableEq, Repr

/-- What a transfer does with its stream. -/
inductive XferKind where
  | copy | fill | compare | stream | scrub
  deriving DecidableEq, Repr

/-- A transfer of a mover (R227, R233): the operation, both sides, the bytes it reads, and how far it has come. `chan` is
the channel whose command it carries, none in direct mode; `base` is the stream offset of its first source byte, and `place` says
that its output keeps the stream's places. Of words of the register space and the Chime window that two bursts share, `carry` holds, by
address, the bytes that wait for the rest of their word, where no channel's stream holds them, and `words` the bytes read that a later burst
uses, by side and address (R198). -/
structure Transfer where
  kind : XferKind
  op : Nat
  zs : Nat
  zd : Nat
  src : Nat
  dst : Nat
  count : Nat
  total : Nat
  pside : Nat
  pidx : Nat
  pattern : Option Pattern
  fill : Word
  desc : Bool
  dry : Bool
  place : Bool
  chan : Option Nat
  base : Nat
  hop : Nat
  next : Nat
  last : Bool
  bursts : List Burst
  carry : List (Nat × Byte)
  words : List ((Nat × Nat) × Byte)
  failed : Option Failure
  canceled : Bool
  cause : Nat
  deriving DecidableEq, Repr

/-- A mover (R228 to R235): the mode in force, ACTIVE, the valid transfer in SHADOW, the completion tracker, HALT, and the
channel whose unfinished chain it carries, and the numbers that its next burst and its next access take. The SHADOW registers themselves are registers. -/
structure Mover where
  direct : Bool
  active : Option Transfer
  shadow : Option Transfer
  tracker : Option Transfer
  halt : Bool
  owner : Option Nat
  nextBurst : Nat
  nextOrd : Nat
  deriving DecidableEq, Repr

/-- The states a channel goes through (R181). STOPPING is FETCH or ACTIVE with a stop pending, and is shown, not held. -/
inductive Phase where
  | idle | fetch | active | waitStart | waitEvent | waitHold | suspended | halted | checked | draining
  deriving DecidableEq, Repr

/-- What an ACTIVE channel is about to do, or waits for. `run` waits for the opcode's own row; `member` for the second
read of the next member of its chain. -/
inductive Stage where
  | keyWait | run | moverWait | aesWait | shaWait | p521Wait | drbgWait | moving | member | p521Run | cpWrite
  | drvSlot | drvRun | sync | loopGuard
  deriving DecidableEq, Repr

/-- How a command, or data chain, ended (R175, R177). -/
structure Ending where
  code : Nat
  detail : Nat
  resid : Nat
  deriving DecidableEq, Repr

/-- The stream of a data command or chain while it runs (R169, R258): source bytes read, a VERIFY's signature, output bytes
issued, the IV or the per-signature secret, the tag read, a result formed inside the crypto block, the place of a COMPARE's
first difference or the DETAIL of a check that failed, the mover of a scrub (R202) with the next member that it is to
reach, and the bytes written so far of register words that two bursts share, by address (R198). -/
structure Stream where
  input : List Byte
  other : List Byte
  issued : Nat
  iv : List Byte
  tag : List Byte
  result : List Byte
  formed : Bool
  diff : Option Nat
  scrub : Option (Nat × Nat)
  carry : List (Nat × Byte)
  deriving DecidableEq, Repr

/-- What waits on the zero-length reads of R179. -/
inductive AfterSync where
  | finish | signal | post
  deriving DecidableEq, Repr

/-- A channel (R160 to R190, R333 to R335). Its registers CHN_CUR, CHN_TAG, CHN_SESS, CHN_ICOUNT, CHN_ERR, CHN_ERR_ADDR and
CHN_TMO are registers. `entry` is the accepted entry whose outcome the run decides; `wb` is the write-back due (address, TIME, word at +0x38), and
`outcome` the code the program ends or suspends with after it, none when the program goes on at `nextAt`; `resCause` is the TIME that
a resume latched in RES_PEND follows (R30). `endTime` is the TIME of the command's end, and `endRec` its CMD_END
record where class CMD logs it if the command proves to be the program's last (R40). `checkBad` is the check (CODE, DETAIL, place) that a chain has failed while its
further members are read (R188), and `waited` the WAIT that has just ended, with the clock then and its CMD_END record (R220);
`skipAt` is when SKIP_ON asked for its read of a chain's last member on a link (R187, R367), `pin` the link, if any, on which the
channel processor's outstanding write was issued (R375), `tags` the links on which reads of its own are issued and outstanding, and `readAt`
when the last of them was issued (R368, R375). -/
structure Chan where
  phase : Phase
  stage : Stage
  stop : Bool
  resPend : Bool
  sq : Nat
  entry : Option Nat
  startAt : Nat
  condNext : Bool
  prevCode : Nat
  chain : List Member
  pos : Nat
  stream : Stream
  first : Bool
  session : Option (Nat × Nat)
  ctx : List Byte
  report : Ending
  ending : Ending
  ended : Bool
  wb : Option (Nat × Nat × Nat)
  endRec : Option LogRecord
  endTime : Nat
  target : Option Nat
  nextAt : Nat
  wrote : Bool
  outcome : Option Nat
  dirty : List Nat
  syncs : List Nat
  after : AfterSync
  cpStep : Nat
  drv : Option (Nat × Nat × Nat)
  waitSince : Nat
  progress : Nat
  heldRun : Nat
  graceUsed : Nat
  retrySince : Option Nat
  fetchHalt : Bool
  failOff : Nat
  cause : Nat
  resCause : Nat
  checkBad : Option (Nat × Nat × Nat)
  waited : Option (Member × Nat × Option LogRecord)
  skipAt : Option Nat
  pin : Option (Option Nat)
  tags : List Nat
  readAt : Nat
  deriving DecidableEq, Repr

/-- What the last access brought back to the master that made it. The model's own. -/
structure BusReply where
  data : List Byte
  poisoned : Bool
  failed : Option (BitVec 8)
  deriving DecidableEq, Repr

/-- The whole part, and the commands that wait. `acting` are the bursts of the store that the command which acts has been granted for its
own accesses, with the priority level where it was granted in this step; between commands there are none (the model's own). `regs` holds
the register bits that act, `latent` what writes in Lockdown have stored and no block acts on yet (R342). -/
structure State where
  pending : List Instr
  acting : List (ArbReq × Option Nat)
  bus : BusReply
  regs : Tab Word
  latent : Tab (Option Word)
  time : TimeCore
  log : LogUnit
  errFifo : List LogRecord
  mbx : Tab Mailbox
  snima : Snima
  drives : Tab Drive
  flash : List Host.Cell
  vault : Vault
  crypto : Crypto
  store : Store
  arb : Arbiters
  events : List SourceEvent
  strikes : List Strike
  irc : Irc
  ports : Tab PortConfig
  links : Tab Link
  stale : List Abandoned
  ext : Tab (List Host.Cell)
  fenuz : Fenuz
  power : Power
  ana : Analogue
  side : Sideband
  fetch : FetchArb
  sqs : Tab Sq
  cqs : Tab Cq
  movers : Tab Mover
  moverWait : List Nat
  chans : Tab Chan
  deriving DecidableEq, Repr

/-- A mailbox channel after cold reset (R75). -/
def mailbox0 : Mailbox := ⟨[], [], none, [], none, none, none, none, 0⟩

/-- A drive that is not attached. -/
def drive0 : Drive := ⟨false, ⟨0, 0, 0, 0, 0, []⟩, 0, 0, 0, [], [], 0, [], [], 0⟩

/-- A DRBG instance after cold reset: unseeded until the start-up test passes (R271, R404). -/
def drbg0 : Drbg := ⟨false, 0, 0, 0, ⟨[], []⟩⟩

/-- A management core in thread mode. -/
def core0 : Core := ⟨[], none, false⟩

/-- An MSI-X Table entry after reset: masked, as PCIe defines (PRESUMED, log entry 9). -/
def msix0 : MsixEntry := ⟨0, 0, true⟩

/-- The configuration space of a host endpoint after reset: PCIe's own values (PRESUMED, log entry 9), with the 50 ms
Completion Timeout of R367. -/
def port0 : PortConfig := ⟨false, false, false, false, 50000, false, 128, 512, false, false, 0⟩

/-- A link that is down, without fault window. -/
def link0 : Link := ⟨none, none, 0, 0, false, none, false, false⟩

/-- The configuration of a queue that does not exist (R129). -/
def conf0 : QConf := ⟨0, 0, 0, 0, 0⟩

/-- A submission queue that does not exist (R129). -/
def sq0 : Sq := ⟨false, false, 0, true, false, none, 0, [], 0, [], [], [], 0, none, 0, conf0⟩

/-- A completion queue that does not exist (R129). -/
def cq0 : Cq := ⟨false, false, 0, true, 0, true, 0, 0, [], [], [], conf0⟩

/-- A mover in channel mode that carries nothing (R230). -/
def mover0 : Mover := ⟨false, none, none, none, false, none, 0, 0⟩

/-- A stream that has not begun. -/
def stream0 : Stream := ⟨[], [], 0, [], [], [], false, none, none, []⟩

/-- How a command stands that has not ended. -/
def ending0 : Ending := ⟨0, 0, 0⟩

/-- An IDLE channel (R181). -/
def chan0 : Chan :=
  { phase := .idle, stage := .run, stop := false, resPend := false, sq := 0, entry := none, startAt := 0, condNext := false,
    prevCode := 0, chain := [], pos := 0, stream := stream0, first := false, session := none, ctx := [], report := ending0,
    ending := ending0, ended := false, wb := none, endRec := none, endTime := 0, target := none, nextAt := 0,
    wrote := false, outcome := none, dirty := [], syncs := [],
    after := .finish, cpStep := 0, drv := none, waitSince := 0, progress := 0, heldRun := 0, graceUsed := 0,
    retrySince := none, fetchHalt := false, failOff := 0, cause := 0, resCause := 0, checkBad := none, waited := none,
    skipAt := none, pin := none, tags := [], readAt := 0 }

/-- Arbiters at which nothing is presented, held or reserved, every rotation pointer at 71 (R289). -/
def arb0 : Arbiters := ⟨[], [], [], [], [], [], [], [], [], [], none⟩

/-- The default Central Store layout (R92). -/
def layout0 : Layout := ⟨20, 4096, 4096, 21, 1⟩

/-- The state of the part held in cold reset with every rail up: every register at its Reset column, memory with nothing
listed, no command waiting (log entry 13). -/
def State.reset : State :=
  { pending := []
    acting := []
    bus := ⟨[], false, none⟩
    regs := []
    latent := []
    time := { now := 0, snaps := [], seqs := [], lastTime := [], stampNode := 0, holdMark := none, slew := 0,
              fastSlew := false, lockRun := 0, recentOfs := [], epochSet := false, joinStepDue := false, ppsOut := false,
              ppsRise := 0, ppsMark := 0, ppsInLast := none, lastSecond := 0, stepped := 0 }
    log := ⟨[], [], 0, none, true, [], 0⟩
    errFifo := []
    mbx := []
    snima := { staleCnt := 0, authCnt := 0, layout := layout0, version := 0, svn := 0, meas := [], bootSlots := [], loadAt := 0
               kats := [], nextBgKat := 0, lastBgKat := none }
    drives := []
    flash := []
    vault := { drk := some 0, frk := none, drkDraws := 0, fleetId := 0, node := 0, member := false, slots := [],
               armWord := 0, bootRecord := 0, tamperLog := [], tampCnt := 0, lastSrc := 0, tampered := false,
               erased := false, drkNew := false, retired := [], gens := [], badWords := [], wear := [], map := [], logNext := 0, writes := 0,
               moved := 0, lastScrub := 0 }
    crypto := ⟨[], [], [], [], [], [], [], [], [], false, [], [], [], []⟩
    store := ⟨[], [], [], [], [], [], [], [], false⟩
    arb := arb0
    events := []
    strikes := []
    irc := ⟨[], [], [], [], [], [], [], [], []⟩
    ports := []
    links := []
    stale := []
    ext := []
    fenuz := ⟨[], [], none, none, none, 0, [], none, [], [], [], [], false, [], [], [], [], [], []⟩
    power := ⟨.run, true, true, true, none, none, false, none, none, false, false, true, [], none, false, none, false, []⟩
    ana := ⟨[], [], [], true, 0, 0, false, [], 0, 0⟩
    side := ⟨0, false, 0, 0, .idcode, 0, .part, []⟩
    fetch := ⟨4095, 4095, true⟩
    sqs := []
    cqs := []
    movers := []
    moverWait := []
    chans := [] }

/-- The reasons for which a step stops with a fault. No command of this part does: every fault the spec describes is
recorded, ends or halts one piece of work, or enters Lockdown, and is a next state (R328, R338). Nobody raises the one
reason kept here; stopping with it would be safe. -/
inductive Fault where
  /-- An invariant of the model does not hold; raised by no command. Safe. -/
  | brokenInvariant
  deriving DecidableEq, Repr

/-- The reasons for which a step refuses a command. -/
inductive Refusal where
  /-- The command has no meaning in the model yet; raised by the arm of `exec` that names it. Safe. -/
  | notModelled (mnemonic : String)
  deriving DecidableEq, Repr

end Sys2Proof.Machine
end

