-- ==== Sys2Proof/Machine/RegMap.lean ====
section
/-! DEFINITION. The register space (R6, R52 to R55, R362): every register by name, where each lies, which of its bits
are RW or RWS, W1C, RC and WO, and what cold reset loads. -/

namespace Sys2Proof.Machine

/-- The registers of the part, one name for each register or array of registers that the spec introduces. -/
inductive RegKind where
  | timeNowLo
  | timeNowHi
  | timeCtl
  | timeStat
  | timeUnc
  | timeOfs
  | timeHold
  | timePps
  | timePpsIn : RegKind
  | logBase
  | logCnt
  | logWr
  | logRd
  | logCtl
  | logTmo
  | logEn
  | logStat
  | logLost : RegKind
  | lckSem
  | lckPeek
  | lckMap
  | mbxInStg
  | mbxInPost
  | mbxInHead
  | mbxInPop
  | mbxStat
  | mbxCtl : RegKind
  | mbxRto
  | mbxEpoch
  | gctlBoot
  | sqCtl
  | sqStat
  | sqBatch
  | cqCtl
  | cqStat
  | cqDrain : RegKind
  | chnCtl
  | chnState
  | chnCur
  | chnTag
  | chnSess
  | chnIcount
  | chnErr
  | chnErrAddr
  | movCfg : RegKind
  | movStat
  | movCtl
  | movEvt
  | movErr
  | movErrAddr
  | movLast
  | movShXf
  | arbTether
  | arbPrioSh : RegKind
  | arbPrio
  | arbCommit
  | arbStat
  | arbSeg
  | cstCtl
  | cstFwin
  | cstFthr
  | cstScrub
  | cstStat : RegKind
  | cstSpare
  | cstLast
  | cstSeg
  | cstRemap
  | carCh
  | carTgt
  | carFire
  | carFlag
  | carLoop : RegKind
  | carMergeCnt
  | carIrq
  | carMcev
  | carRslot
  | carCqslot
  | ircSrc
  | ircAssert
  | ircPost
  | ircHalt : RegKind
  | ircMcGate
  | ircTevt
  | ircDamp
  | ircMcCur
  | ircMcEoi
  | ircVcomp
  | ircVcfg
  | ircVstat
  | gctlLock : RegKind
  | gctlLockInfo
  | gctlLockTime
  | chnTmo
  | fltErrHead
  | fltErrPop
  | fltErrStat
  | fltErrLost
  | fltGrace
  | fltLwin : RegKind
  | fltLthr
  | fltLink
  | fltStale
  | fltTmoCnt
  | fnzCfg
  | fnzStat
  | fnzGm
  | fnzPort
  | fnzDelay : RegKind
  | lnkStat
  | lnkEvt
  | lnkCtl
  | bkpWin
  | bkpIrq
  | pwrAon
  | gctlRst
  | pwrVreq
  | pwrVrm : RegKind
  | pwrPaceWin
  | pwrLane
  | anaPace
  | anaTemp
  | anaVolt
  | anaSalarm
  | anaTampCfg
  | anaTampEvt
  | anaTampSeen : RegKind
  | anaCal
  | anaLane
  | vltStat
  | vltWear
  | gpioCfg
  | mbxOutStg
  | mbxOutPost
  | mbxOutHead
  | mbxOutPop : RegKind
  | sqCfg
  | sqBase
  | sqChan
  | sqTaddr
  | sqHaddr
  | cqCfg
  | cqBase
  | cqTaddr
  | cqHaddr : RegKind
  | movActXf
  | movActCount
  | movActSrc
  | movActDst
  | movActFill
  | movShCount
  | movShSrc
  | movShDst
  | movShFill : RegKind
  | ircPend
  | ircInsvc
  | carCapLo
  | carCapHi
  | msixTable
  | msixPba
  deriving DecidableEq, Repr

/-- Where the registers of one name lie and how their bits are accessed: `n1` instances `s1` bytes apart, each with
`n2` registers `s2` bytes apart, the first at `base` of the register space. -/
structure RegInfo where
  base : Nat
  n1 : Nat
  s1 : Nat
  n2 : Nat
  s2 : Nat
  rw : Nat
  w1c : Nat
  rc : Nat
  wo : Nat
  reset : Nat
  deriving DecidableEq, Repr

/-- A register: its name, its instance and its place in the array. -/
structure Reg where
  kind : RegKind
  i : Nat
  j : Nat
  deriving DecidableEq, Repr

/-- The register lines and tables of the spec: place, access masks and the Reset column. A link register's
place is that of R362, which `linkBase` adds. -/
def RegKind.info : RegKind → RegInfo
  | .timeNowLo => ⟨0x100000, 1, 0x8, 1, 0x8, 0x0, 0x0, 0x0, 0x0, 0x0⟩
  | .timeNowHi => ⟨0x100008, 1, 0x8, 1, 0x8, 0x0, 0x0, 0x0, 0x0, 0x0⟩
  | .timeCtl => ⟨0x100010, 1, 0x8, 1, 0x8, 0x337, 0x0, 0x0, 0x0, 0x0⟩
  | .timeStat => ⟨0x100018, 1, 0x8, 1, 0x8, 0x0, 0x0, 0x0, 0x0, 0xF0000⟩
  | .timeUnc => ⟨0x100020, 1, 0x8, 1, 0x8, 0x0, 0x0, 0x0, 0x0, 0xFFFFFFFFFFFFFFFF⟩
  | .timeOfs => ⟨0x100028, 1, 0x8, 1, 0x8, 0x0, 0x0, 0x0, 0x0, 0x0⟩
  | .timeHold => ⟨0x100030, 1, 0x8, 1, 0x8, 0xFFFFFFFF, 0x0, 0x0, 0x0, 0x157A⟩
  | .timePps => ⟨0x100038, 1, 0x8, 1, 0x8, 0xFFFFFFFF0003FFFF, 0x0, 0x0, 0x0, 0x2710⟩
  | .timePpsIn => ⟨0x100040, 1, 0x8, 1, 0x8, 0x0, 0x0, 0x0, 0x0, 0x0⟩
  | .logBase => ⟨0x2001000, 1, 0x8, 1, 0x8, 0x3FFFF000, 0x0, 0x0, 0x0, 0xA040000⟩
  | .logCnt => ⟨0x2001008, 1, 0x8, 1, 0x8, 0x1F, 0x0, 0x0, 0x0, 0x15⟩
  | .logWr => ⟨0x2001010, 1, 0x8, 1, 0x8, 0x0, 0x0, 0x0, 0x0, 0x0⟩
  | .logRd => ⟨0x2001018, 1, 0x8, 1, 0x8, 0xFFFFFFFF, 0x0, 0x0, 0x0, 0x0⟩
  | .logCtl => ⟨0x2001020, 1, 0x8, 1, 0x8, 0x3, 0x0, 0x0, 0x100, 0x1⟩
  | .logTmo => ⟨0x2001028, 1, 0x8, 1, 0x8, 0xFFFFFF, 0x0, 0x0, 0x0, 0xA⟩
  | .logEn => ⟨0x2001030, 1, 0x8, 1, 0x8, 0xFF, 0x0, 0x0, 0x0, 0xF3⟩
  | .logStat => ⟨0x2001038, 1, 0x8, 1, 0x8, 0x0, 0x0, 0x0, 0x0, 0x0⟩
  | .logLost => ⟨0x2001040, 1, 0x8, 1, 0x8, 0x0, 0x0, 0xFFFFFFFF, 0x0, 0x0⟩
  | .lckSem => ⟨0x1800000, 256, 0x8, 1, 0x8, 0x1FF, 0x0, 0x0, 0x0, 0x0⟩
  | .lckPeek => ⟨0x1800800, 256, 0x8, 1, 0x8, 0x0, 0x0, 0x0, 0x0, 0x0⟩
  | .lckMap => ⟨0x1801000, 4, 0x8, 1, 0x8, 0x0, 0x0, 0x0, 0x0, 0x0⟩
  | .mbxInStg => ⟨0x200000, 32, 0x1000, 32, 0x8, 0xFFFFFFFFFFFFFFFF, 0x0, 0x0, 0x0, 0x0⟩
  | .mbxInPost => ⟨0x200100, 32, 0x1000, 1, 0x8, 0x0, 0x0, 0x0, 0x0, 0x0⟩
  | .mbxInHead => ⟨0x200200, 32, 0x1000, 32, 0x8, 0x0, 0x0, 0x0, 0x0, 0x0⟩
  | .mbxInPop => ⟨0x200300, 32, 0x1000, 1, 0x8, 0x0, 0x0, 0x0, 0x1, 0x0⟩
  | .mbxStat => ⟨0x200800, 32, 0x1000, 1, 0x8, 0x0, 0x1000000000000, 0x0, 0x0, 0x0⟩
  | .mbxCtl => ⟨0x200808, 32, 0x1000, 1, 0x8, 0xC00, 0x0, 0x0, 0x303, 0x0⟩
  | .mbxRto => ⟨0x200810, 32, 0x1000, 1, 0x8, 0xFFFFFF, 0x0, 0x0, 0x0, 0x64⟩
  | .mbxEpoch => ⟨0x200818, 32, 0x1000, 1, 0x8, 0x0, 0x0, 0x0, 0x0, 0x100000001⟩
  | .gctlBoot => ⟨0x80, 1, 0x8, 1, 0x8, 0x0, 0x0, 0x0, 0x0, 0x0⟩
  | .sqCtl => ⟨0x1400000, 4096, 0x100, 1, 0x8, 0x1, 0x0, 0x0, 0x0, 0x0⟩
  | .sqStat => ⟨0x1400008, 4096, 0x100, 1, 0x8, 0x0, 0x0, 0x0, 0x0, 0x1000000000001⟩
  | .sqBatch => ⟨0x1400010, 4096, 0x100, 1, 0x8, 0x0, 0x0, 0x0, 0x0, 0x0⟩
  | .cqCtl => ⟨0x1400080, 4096, 0x100, 1, 0x8, 0x1, 0x0, 0x0, 0x0, 0x0⟩
  | .cqStat => ⟨0x1400088, 4096, 0x100, 1, 0x8, 0x0, 0x0, 0x0, 0x0, 0x1000000010000⟩
  | .cqDrain => ⟨0x1400090, 4096, 0x100, 1, 0x8, 0x0, 0x0, 0x0, 0x0, 0x0⟩
  | .chnCtl => ⟨0x1000000, 4096, 0x400, 1, 0x8, 0x0, 0x0, 0x0, 0x33, 0x0⟩
  | .chnState => ⟨0x1000008, 4096, 0x400, 1, 0x8, 0x0, 0x0, 0x0, 0x0, 0x0⟩
  | .chnCur => ⟨0x1000010, 4096, 0x400, 1, 0x8, 0x0, 0x0, 0x0, 0x0, 0x0⟩
  | .chnTag => ⟨0x1000018, 4096, 0x400, 1, 0x8, 0x0, 0x0, 0x0, 0x0, 0x0⟩
  | .chnSess => ⟨0x1000020, 4096, 0x400, 1, 0x8, 0x0, 0x0, 0x0, 0x0, 0x0⟩
  | .chnIcount => ⟨0x1000028, 4096, 0x400, 1, 0x8, 0xFFFFFFFF, 0x0, 0x0, 0x0, 0x1000000⟩
  | .chnErr => ⟨0x1000030, 4096, 0x400, 1, 0x8, 0x0, 0x0, 0x0, 0x0, 0x0⟩
  | .chnErrAddr => ⟨0x1000038, 4096, 0x400, 1, 0x8, 0x0, 0x0, 0x0, 0x0, 0x0⟩
  | .movCfg => ⟨0x800000, 64, 0x1000, 1, 0x8, 0x3, 0x0, 0x0, 0x0, 0x0⟩
  | .movStat => ⟨0x800008, 64, 0x1000, 1, 0x8, 0x0, 0x0, 0x0, 0x0, 0xFFF00000000⟩
  | .movCtl => ⟨0x800010, 64, 0x1000, 1, 0x8, 0x0, 0x0, 0x0, 0x37, 0x0⟩
  | .movEvt => ⟨0x800018, 64, 0x1000, 1, 0x8, 0x0, 0xF, 0x0, 0x0, 0x0⟩
  | .movErr => ⟨0x800020, 64, 0x1000, 1, 0x8, 0x0, 0x0, 0x0, 0x0, 0x0⟩
  | .movErrAddr => ⟨0x800028, 64, 0x1000, 1, 0x8, 0x0, 0x0, 0x0, 0x0, 0x0⟩
  | .movLast => ⟨0x800030, 64, 0x1000, 1, 0x8, 0x0, 0x0, 0x0, 0x0, 0x0⟩
  | .movShXf => ⟨0x800200, 64, 0x1000, 1, 0x8, 0xFFCFFFFF, 0x0, 0x0, 0x0, 0x0⟩
  | .arbTether => ⟨0x504000, 72, 0x8, 1, 0x8, 0x3FF, 0x0, 0xFFFF00000000, 0x0, 0x0⟩
  | .arbPrioSh => ⟨0x500000, 72, 0x8, 1, 0x8, 0xF, 0x0, 0x0, 0x0, 0x0⟩
  | .arbPrio => ⟨0x500400, 72, 0x8, 1, 0x8, 0x0, 0x0, 0x0, 0x0, 0x0⟩
  | .arbCommit => ⟨0x500800, 1, 0x8, 1, 0x8, 0x0, 0x0, 0x0, 0x1, 0x0⟩
  | .arbStat => ⟨0x500808, 1, 0x8, 1, 0x8, 0x0, 0x0, 0x0, 0x0, 0x0⟩
  | .arbSeg => ⟨0x501000, 64, 0x8, 1, 0x8, 0x0, 0x0, 0x0, 0x0, 0xFF000000000200⟩
  | .cstCtl => ⟨0x600000, 1, 0x8, 1, 0x8, 0x3, 0x0, 0x0, 0x0, 0x3⟩
  | .cstFwin => ⟨0x600008, 1, 0x8, 1, 0x8, 0xFFFFFFFF, 0x0, 0x0, 0x0, 0xF4240⟩
  | .cstFthr => ⟨0x600010, 1, 0x8, 1, 0x8, 0xFF, 0x0, 0x0, 0x0, 0x4⟩
  | .cstScrub => ⟨0x600018, 1, 0x8, 1, 0x8, 0xFFFFFFFF, 0x0, 0x0, 0x0, 0x15180⟩
  | .cstStat => ⟨0x600020, 1, 0x8, 1, 0x8, 0x0, 0x0, 0x0, 0x0, 0x0⟩
  | .cstSpare => ⟨0x600028, 1, 0x8, 1, 0x8, 0x0, 0x0, 0x0, 0x0, 0x0⟩
  | .cstLast => ⟨0x600030, 1, 0x8, 1, 0x8, 0x0, 0x0, 0x0, 0x0, 0x0⟩
  | .cstSeg => ⟨0x601000, 64, 0x8, 1, 0x8, 0x0, 0x0, 0x0, 0x0, 0x0⟩
  | .cstRemap => ⟨0x610000, 16384, 0x8, 1, 0x8, 0x0, 0x0, 0x0, 0x0, 0x0⟩
  | .carCh => ⟨0x400000, 256, 0x8, 1, 0x8, 0x107FF, 0x0, 0x0, 0x0, 0x0⟩
  | .carTgt => ⟨0x400800, 256, 0x8, 1, 0x8, 0xFFFFFFFFFFFF, 0x0, 0x0, 0x0, 0x0⟩
  | .carFire => ⟨0x401000, 1, 0x8, 1, 0x8, 0x0, 0x0, 0x0, 0xFF, 0x0⟩
  | .carFlag => ⟨0x401008, 4, 0x8, 1, 0x8, 0x0, 0xFFFFFFFFFFFFFFFF, 0x0, 0x0, 0x0⟩
  | .carLoop => ⟨0x401028, 1, 0x8, 1, 0x8, 0x0, 0x100, 0x0, 0x0, 0x0⟩
  | .carMergeCnt => ⟨0x401030, 1, 0x8, 1, 0x8, 0x0, 0x0, 0xFFFFFFFF, 0x0, 0x0⟩
  | .carIrq => ⟨0x401038, 1, 0x8, 1, 0x8, 0x0, 0xFFFFFFFFFFFFFFFF, 0x0, 0x0, 0x0⟩
  | .carMcev => ⟨0x401040, 1, 0x8, 1, 0x8, 0x0, 0xF, 0x0, 0x0, 0x0⟩
  | .carRslot => ⟨0x402000, 1024, 0x8, 1, 0x8, 0x8FFF, 0x0, 0x0, 0x0, 0x0⟩
  | .carCqslot => ⟨0x404000, 256, 0x8, 1, 0x8, 0x8FFF, 0x0, 0x0, 0x0, 0x0⟩
  | .ircSrc => ⟨0x300000, 1024, 0x8, 1, 0x8, 0x1FFF073FFF0F, 0x0, 0x0, 0x0, 0x8008⟩
  | .ircAssert => ⟨0x302000, 16, 0x8, 1, 0x8, 0x0, 0x0, 0x0, 0x0, 0x0⟩
  | .ircPost => ⟨0x302800, 64, 0x8, 1, 0x8, 0x0, 0xFFFFFFFFFFFFFFFF, 0x0, 0x0, 0x0⟩
  | .ircHalt => ⟨0x302C00, 64, 0x8, 1, 0x8, 0x0, 0x0, 0x0, 0x0, 0x0⟩
  | .ircMcGate => ⟨0x303000, 1, 0x8, 1, 0x8, 0xFFFFFFFF, 0x0, 0x0, 0x0, 0x0⟩
  | .ircTevt => ⟨0x303008, 1, 0x8, 1, 0x8, 0x0, 0x1, 0x0, 0x0, 0x0⟩
  | .ircDamp => ⟨0x303400, 64, 0x8, 1, 0x8, 0xFFFFF, 0x0, 0xFFFF00000000, 0x0, 0x0⟩
  | .ircMcCur => ⟨0x304000, 4, 0x40, 1, 0x40, 0x0, 0x0, 0x0, 0x0, 0x0⟩
  | .ircMcEoi => ⟨0x304008, 4, 0x40, 1, 0x40, 0x0, 0x0, 0x0, 0x3FF, 0x0⟩
  | .ircVcomp => ⟨0x310000, 2, 0x10000, 8192, 0x8, 0x0, 0x0, 0x0, 0xFFFFFFFFFFFFFFFF, 0x0⟩
  | .ircVcfg => ⟨0x340000, 2, 0x10000, 8192, 0x8, 0x7FF3F, 0x0, 0x0, 0x0, 0x48000⟩
  | .ircVstat => ⟨0x360000, 2, 0x10000, 8192, 0x8, 0x0, 0x0, 0x0, 0x0, 0x0⟩
  | .gctlLock => ⟨0x100, 1, 0x8, 1, 0x8, 0x0, 0x0, 0x0, 0x4, 0x0⟩
  | .gctlLockInfo => ⟨0x108, 1, 0x8, 1, 0x8, 0x0, 0x0, 0x0, 0x0, 0x0⟩
  | .gctlLockTime => ⟨0x110, 1, 0x8, 1, 0x8, 0x0, 0x0, 0x0, 0x0, 0x0⟩
  | .chnTmo => ⟨0x1000040, 4096, 0x400, 1, 0x8, 0xFFFFFFFF, 0x0, 0x0, 0x0, 0x1E8480⟩
  | .fltErrHead => ⟨0x2000000, 4, 0x8, 1, 0x8, 0x0, 0x0, 0x0, 0x0, 0x0⟩
  | .fltErrPop => ⟨0x2000020, 1, 0x8, 1, 0x8, 0x0, 0x0, 0x0, 0x1, 0x0⟩
  | .fltErrStat => ⟨0x2000028, 1, 0x8, 1, 0x8, 0x0, 0x0, 0x0, 0x0, 0x0⟩
  | .fltErrLost => ⟨0x2000030, 1, 0x8, 1, 0x8, 0x0, 0x0, 0xFFFFFFFF, 0x0, 0x0⟩
  | .fltGrace => ⟨0x2000040, 1, 0x8, 1, 0x8, 0xFFFFFF, 0x0, 0x0, 0x0, 0x2710⟩
  | .fltLwin => ⟨0x2000048, 1, 0x8, 1, 0x8, 0xFFFFFFFF, 0x0, 0x0, 0x0, 0xF4240⟩
  | .fltLthr => ⟨0x2000050, 1, 0x8, 1, 0x8, 0xFF, 0x0, 0x0, 0x0, 0x8⟩
  | .fltLink => ⟨0x2000080, 12, 0x8, 1, 0x8, 0x0, 0x1, 0x0, 0x0, 0x0⟩
  | .fltStale => ⟨0x2000100, 1, 0x8, 1, 0x8, 0x0, 0x0, 0xFFFFFFFF, 0x0, 0x0⟩
  | .fltTmoCnt => ⟨0x2000108, 1, 0x8, 1, 0x8, 0x0, 0x0, 0xFFFFFFFFFFFFFFFF, 0x0, 0x0⟩
  | .fnzCfg => ⟨0x3600000, 1, 0x8, 1, 0x8, 0x1FFF03, 0x0, 0x0, 0x0, 0xFF03⟩
  | .fnzStat => ⟨0x3600008, 1, 0x8, 1, 0x8, 0x0, 0x100000000000000, 0x0, 0x0, 0x0⟩
  | .fnzGm => ⟨0x3600010, 1, 0x8, 1, 0x8, 0x0, 0x0, 0x0, 0x0, 0xFFFFFFFFFF000000⟩
  | .fnzPort => ⟨0x3600100, 2, 0x40, 1, 0x40, 0xFFFF00000000, 0x2, 0xFFFF000000000000, 0x0, 0x1E0000⟩
  | .fnzDelay => ⟨0x3600108, 2, 0x40, 1, 0x40, 0x0, 0x0, 0x0, 0x0, 0x0⟩
  | .lnkStat => ⟨0x0, 10, 0x0, 1, 0x8, 0x0, 0x0, 0x0, 0x0, 0x0⟩
  | .lnkEvt => ⟨0x8, 10, 0x0, 1, 0x8, 0x0, 0xFF, 0xFFFF000000000000, 0x0, 0x0⟩
  | .lnkCtl => ⟨0x10, 10, 0x0, 1, 0x8, 0x307, 0x0, 0x0, 0x10, 0x6⟩
  | .bkpWin => ⟨0x20, 10, 0x0, 1, 0x8, 0xFFFF0000FFFF, 0x0, 0x0, 0x0, 0x4000000047⟩
  | .bkpIrq => ⟨0x30, 10, 0x0, 1, 0x8, 0x0, 0x0, 0x0, 0x1FF, 0x0⟩
  | .pwrAon => ⟨0x3C00020, 1, 0x8, 1, 0x8, 0x0, 0x1, 0x0, 0x0, 0x1⟩
  | .gctlRst => ⟨0x40, 1, 0x8, 1, 0x8, 0x0, 0x0, 0x0, 0x1, 0x100⟩
  | .pwrVreq => ⟨0x3C00000, 1, 0x8, 1, 0x8, 0x3FF, 0x0, 0x0, 0x0, 0x320⟩
  | .pwrVrm => ⟨0x3C00008, 1, 0x8, 1, 0x8, 0x1FF, 0x60000, 0x0, 0x0, 0x0⟩
  | .pwrPaceWin => ⟨0x3C00010, 1, 0x8, 1, 0x8, 0xFFFF07FF, 0x10000000000, 0x0, 0x0, 0x0⟩
  | .pwrLane => ⟨0x3C00018, 1, 0x8, 1, 0x8, 0xFFC, 0x0, 0x0, 0x0, 0x0⟩
  | .anaPace => ⟨0x2800100, 16, 0x8, 1, 0x8, 0x0, 0x0, 0x7FF00000000, 0x0, 0x7FF00000000⟩
  | .anaTemp => ⟨0x2800000, 8, 0x8, 1, 0x8, 0x0, 0x0, 0x0, 0x0, 0x0⟩
  | .anaVolt => ⟨0x2800040, 5, 0x8, 1, 0x8, 0x0, 0x0, 0x0, 0x0, 0x0⟩
  | .anaSalarm => ⟨0x2800080, 1, 0x8, 1, 0x8, 0xFFFFFFFF00000000, 0x1F03, 0x0, 0x0, 0x4B0FEC000000000⟩
  | .anaTampCfg => ⟨0x2800300, 1, 0x8, 1, 0x8, 0x0, 0x0, 0x0, 0x0, 0x0⟩
  | .anaTampEvt => ⟨0x2800308, 1, 0x8, 1, 0x8, 0x0, 0xFFFF, 0x0, 0x0, 0x0⟩
  | .anaTampSeen => ⟨0x2800310, 1, 0x8, 1, 0x8, 0x0, 0xFFFF, 0x0, 0x0, 0x0⟩
  | .anaCal => ⟨0x2800400, 1, 0x8, 1, 0x8, 0x0, 0x0, 0x0, 0x0, 0x0⟩
  | .anaLane => ⟨0x2800408, 2, 0x8, 1, 0x8, 0x0, 0x0, 0x0, 0x0, 0x0⟩
  | .vltStat => ⟨0x3800000, 1, 0x8, 1, 0x8, 0x0, 0x0, 0x0, 0x0, 0x0⟩
  | .vltWear => ⟨0x3800008, 1, 0x8, 1, 0x8, 0x0, 0x0, 0x0, 0x0, 0x0⟩
  | .gpioCfg => ⟨0x200, 16, 0x8, 1, 0x8, 0x33, 0x0, 0x0, 0x0, 0x0⟩
  | .mbxOutStg => ⟨0x200400, 32, 0x1000, 32, 0x8, 0xFFFFFFFFFFFFFFFF, 0x0, 0x0, 0x0, 0x0⟩
  | .mbxOutPost => ⟨0x200500, 32, 0x1000, 1, 0x8, 0x0, 0x0, 0x0, 0x0, 0x0⟩
  | .mbxOutHead => ⟨0x200600, 32, 0x1000, 32, 0x8, 0x0, 0x0, 0x0, 0x0, 0x0⟩
  | .mbxOutPop => ⟨0x200700, 32, 0x1000, 1, 0x8, 0x0, 0x0, 0x0, 0x1, 0x0⟩
  | .sqCfg => ⟨0x1400020, 4096, 0x100, 1, 0x8, 0xFFFFFFFF3F1FFFFF, 0x0, 0x0, 0x0, 0x0⟩
  | .sqBase => ⟨0x1400028, 4096, 0x100, 1, 0x8, 0xFFFFFFFFFFFFFFFF, 0x0, 0x0, 0x0, 0x0⟩
  | .sqChan => ⟨0x1400030, 4096, 0x100, 1, 0x8, 0xFFFFFFFF3F7F0FFF, 0x0, 0x0, 0x0, 0x0⟩
  | .sqTaddr => ⟨0x1400038, 4096, 0x100, 1, 0x8, 0xFFFFFFFFFFFFFFFF, 0x0, 0x0, 0x0, 0x0⟩
  | .sqHaddr => ⟨0x1400040, 4096, 0x100, 1, 0x8, 0xFFFFFFFFFFFFFFFF, 0x0, 0x0, 0x0, 0x0⟩
  | .cqCfg => ⟨0x14000A0, 4096, 0x100, 1, 0x8, 0x1FFF00031F1FFFFF, 0x0, 0x0, 0x0, 0x0⟩
  | .cqBase => ⟨0x14000A8, 4096, 0x100, 1, 0x8, 0xFFFFFFFFFFFFFFFF, 0x0, 0x0, 0x0, 0x0⟩
  | .cqTaddr => ⟨0x14000B0, 4096, 0x100, 1, 0x8, 0xFFFFFFFFFFFFFFFF, 0x0, 0x0, 0x0, 0x0⟩
  | .cqHaddr => ⟨0x14000B8, 4096, 0x100, 1, 0x8, 0xFFFFFFFFFFFFFFFF, 0x0, 0x0, 0x0, 0x0⟩
  | .movActXf => ⟨0x800100, 64, 0x1000, 1, 0x8, 0x0, 0x0, 0x0, 0x0, 0x0⟩
  | .movActCount => ⟨0x800108, 64, 0x1000, 1, 0x8, 0x0, 0x0, 0x0, 0x0, 0x0⟩
  | .movActSrc => ⟨0x800110, 64, 0x1000, 1, 0x8, 0x0, 0x0, 0x0, 0x0, 0x0⟩
  | .movActDst => ⟨0x800118, 64, 0x1000, 1, 0x8, 0x0, 0x0, 0x0, 0x0, 0x0⟩
  | .movActFill => ⟨0x800120, 64, 0x1000, 1, 0x8, 0x0, 0x0, 0x0, 0x0, 0x0⟩
  | .movShCount => ⟨0x800208, 64, 0x1000, 1, 0x8, 0xFFFFFFFF, 0x0, 0x0, 0x0, 0x0⟩
  | .movShSrc => ⟨0x800210, 64, 0x1000, 1, 0x8, 0xFFFFFFFFFFFFFFFF, 0x0, 0x0, 0x0, 0x0⟩
  | .movShDst => ⟨0x800218, 64, 0x1000, 1, 0x8, 0xFFFFFFFFFFFFFFFF, 0x0, 0x0, 0x0, 0x0⟩
  | .movShFill => ⟨0x800220, 64, 0x1000, 1, 0x8, 0xFFFFFFFFFFFFFFFF, 0x0, 0x0, 0x0, 0x0⟩
  | .ircPend => ⟨0x302080, 16, 0x8, 1, 0x8, 0x0, 0x0, 0x0, 0x0, 0x0⟩
  | .ircInsvc => ⟨0x302100, 16, 0x8, 1, 0x8, 0x0, 0x0, 0x0, 0x0, 0x0⟩
  | .carCapLo => ⟨0x401100, 16, 0x10, 1, 0x10, 0x0, 0x0, 0x0, 0x0, 0x0⟩
  | .carCapHi => ⟨0x401108, 16, 0x10, 1, 0x10, 0x0, 0x0, 0x0, 0x0, 0x0⟩
  | .msixTable => ⟨0x3080000, 2, 0x100000, 16384, 0x8, 0xFFFFFFFFFFFFFFFF, 0x0, 0x0, 0x0, 0x0⟩
  | .msixPba => ⟨0x30A0000, 2, 0x100000, 128, 0x8, 0x0, 0x0, 0x0, 0x0, 0x0⟩

/-- Every register name, block by block. -/
def regKinds0 : List RegKind :=
  [.timeNowLo, .timeNowHi, .timeCtl, .timeStat, .timeUnc, .timeOfs, .timeHold, .timePps, .timePpsIn, .logBase]
    ++ [.logCnt, .logWr, .logRd, .logCtl, .logTmo, .logEn, .logStat, .logLost, .lckSem, .lckPeek]
    ++ [.lckMap, .mbxInStg, .mbxInPost, .mbxInHead, .mbxInPop, .mbxStat, .mbxCtl, .mbxRto, .mbxEpoch, .gctlBoot]
    ++ [.sqCtl, .sqStat, .sqBatch, .cqCtl, .cqStat, .cqDrain, .chnCtl, .chnState, .chnCur, .chnTag]
def regKinds1 : List RegKind :=
  [.chnSess, .chnIcount, .chnErr, .chnErrAddr, .movCfg, .movStat, .movCtl, .movEvt, .movErr, .movErrAddr]
    ++ [.movLast, .movShXf, .arbTether, .arbPrioSh, .arbPrio, .arbCommit, .arbStat, .arbSeg, .cstCtl, .cstFwin]
    ++ [.cstFthr, .cstScrub, .cstStat, .cstSpare, .cstLast, .cstSeg, .cstRemap, .carCh, .carTgt, .carFire]
    ++ [.carFlag, .carLoop, .carMergeCnt, .carIrq, .carMcev, .carRslot, .carCqslot, .ircSrc, .ircAssert, .ircPost]
def regKinds2 : List RegKind :=
  [.ircHalt, .ircMcGate, .ircTevt, .ircDamp, .ircMcCur, .ircMcEoi, .ircVcomp, .ircVcfg, .ircVstat, .gctlLock]
    ++ [.gctlLockInfo, .gctlLockTime, .chnTmo, .fltErrHead, .fltErrPop, .fltErrStat, .fltErrLost, .fltGrace, .fltLwin, .fltLthr]
    ++ [.fltLink, .fltStale, .fltTmoCnt, .fnzCfg, .fnzStat, .fnzGm, .fnzPort, .fnzDelay, .lnkStat, .lnkEvt]
    ++ [.lnkCtl, .bkpWin, .bkpIrq, .pwrAon, .gctlRst, .pwrVreq, .pwrVrm, .pwrPaceWin, .pwrLane, .anaPace]
def regKinds3 : List RegKind :=
  [.anaTemp, .anaVolt, .anaSalarm, .anaTampCfg, .anaTampEvt, .anaTampSeen, .anaCal, .anaLane, .vltStat, .vltWear]
    ++ [.gpioCfg, .mbxOutStg, .mbxOutPost, .mbxOutHead, .mbxOutPop, .sqCfg, .sqBase, .sqChan, .sqTaddr, .sqHaddr]
    ++ [.cqCfg, .cqBase, .cqTaddr, .cqHaddr, .movActXf, .movActCount, .movActSrc, .movActDst, .movActFill, .movShCount]
    ++ [.movShSrc, .movShDst, .movShFill, .ircPend, .ircInsvc, .carCapLo, .carCapHi, .msixTable, .msixPba]
def RegKind.all : List RegKind := regKinds0 ++ regKinds1 ++ regKinds2 ++ regKinds3

/-- The registers of a link block. -/
def RegKind.isLink : RegKind → Bool
  | .lnkStat | .lnkEvt | .lnkCtl | .bkpWin | .bkpIrq => true
  | _ => false

/-- The first register of link `k` (R362): HPA, HPB, then the two links of each back-end port. -/
def linkBase (k : Nat) : Nat :=
  if k < 2 then 0x3000000 + k * 0x100000
  else 0x3200000 + (k - 2) / 2 * 0x100000 + (k - 2) % 2 * 0x10000

/-- The offset of a register in the register space (R52, R53). -/
def Reg.offset (r : Reg) : Nat :=
  let f := r.kind.info
  if r.kind.isLink then linkBase r.i + f.base
  else f.base + r.i * f.s1 + r.j * f.s2

/-- The index of the link whose registers start at the page that holds this offset, if one does. -/
def linkOfPage (off : Nat) : Option Nat := (List.range 10).find? (fun k => linkBase k / 0x10000 = off / 0x10000)

/-- A register name tried against an offset. -/
def RegKind.at? (k : RegKind) (off : Nat) : Option Reg :=
  let f := k.info
  if k.isLink then
    match linkOfPage off with
    | some l =>
      if linkBase l + f.base = off ∧ (2 ≤ l ∨ (k ≠ .bkpWin ∧ k ≠ .bkpIrq)) then some ⟨k, l, 0⟩ else none
    | none => none
  else if off < f.base then none
  else
    let d := off - f.base
    let i := d / f.s1
    let r := d % f.s1
    if i < f.n1 ∧ r % f.s2 = 0 ∧ r / f.s2 < f.n2 then some ⟨k, i, r / f.s2⟩ else none

/-- The register at an offset of the register space, if one is mapped there (R52, R56). The offsets of a QCT instance at which the spec places
no register (+0x18, +0x48 to +0x7F, +0x98, from +0xC0 on) count as unmapped (DESIGN CHOICE, log entry 103). -/
def regAt? (off : Nat) : Option Reg := RegKind.all.findSome? (fun k => k.at? off)

/-- The reset priority of a requester (R287). -/
def prioReset (n : Nat) : Nat :=
  if n < 64 then 8 else if n < 68 then 4 else if n < 70 then 2 else if n = 70 then 3 else 6

/-- What cold reset loads into a register (the Reset columns). -/
def Reg.reset (r : Reg) : Nat :=
  match r.kind with
  | .mbxCtl => if 16 ≤ r.i then 0x10 else 0
  | .arbPrioSh | .arbPrio => prioReset r.i
  | .bkpWin => if r.i % 2 = 0 then 0x4000000047 else 0x480000004F
  | k => k.info.reset

/-- What cold reset loads into the register at an offset. -/
def regReset (off : Nat) : Word :=
  match regAt? off with
  | some r => BitVec.ofNat 64 r.reset
  | none => 0

end Sys2Proof.Machine
end

