-- ==== Sys2Proof/Machine/Table.lean ====
section
/-! DEFINITION. Sparse tables and memories in canonical form, and the reading and writing of registers' stored bits. -/

namespace Sys2Proof.Machine

/-- The entry of a table at a key, or the default. -/
def tabGet {α : Type} (d : α) : Tab α → Nat → α
  | [], _ => d
  | (k, v) :: r, n => if k = n then v else tabGet d r n

/-- The table without the entry of a key. -/
def tabDel {α : Type} : Tab α → Nat → Tab α
  | [], _ => []
  | (k, v) :: r, n => if k = n then tabDel r n else (k, v) :: tabDel r n

/-- The table with an entry put before the first greater key. -/
def tabPut {α : Type} : Tab α → Nat → α → Tab α
  | [], n, v => [(n, v)]
  | (k, w) :: r, n, v => if n < k then (n, v) :: (k, w) :: r else (k, w) :: tabPut r n v

/-- The table with one entry changed, in canonical form: keys rising, no entry equal to the default. -/
def tabSet {α : Type} [DecidableEq α] (d : α) (t : Tab α) (n : Nat) (v : α) : Tab α :=
  if v = d then tabDel t n else tabPut (tabDel t n) n v

/-- Keys strictly rising from above `lo`, and no entry equal to what an unlisted key reads as. -/
def tabWfFrom {α : Type} [DecidableEq α] (d : Nat → α) : Option Nat → Tab α → Bool
  | _, [] => true
  | lo, (k, v) :: r => (match lo with | none => true | some l => decide (l < k)) && decide (v ≠ d k) && tabWfFrom d (some k) r

/-- The canonical form of a table. -/
def tabWf {α : Type} [DecidableEq α] (d : Nat → α) (t : Tab α) : Bool := tabWfFrom d none t

/-- The byte of a memory at an address. A byte that nothing has written reads 0 (R282 for the Central Store). -/
def memGet (m : List Host.Cell) (a : Nat) : Byte := tabGet 0 m a

/-- A memory with one byte written. -/
def memSet (m : List Host.Cell) (a : Nat) (b : Byte) : List Host.Cell := tabSet 0 m a b

/-- The canonical form of a memory. -/
def Memory.wf (m : List Host.Cell) : Bool := tabWf (fun _ => (0 : Byte)) m

/-- `n` bytes of a memory from an address. -/
def memRead (m : List Host.Cell) (a : Nat) : Nat → List Byte
  | 0 => []
  | n + 1 => memGet m a :: memRead m (a + 1) n

/-- A memory with bytes written from an address. -/
def memWrite (m : List Host.Cell) (a : Nat) : List Byte → List Host.Cell
  | [] => m
  | b :: bs => memWrite (memSet m a b) (a + 1) bs

/-- A memory with listed bytes written. -/
def memWriteAll (m : List Host.Cell) : List (Nat × Byte) → List Host.Cell
  | [] => m
  | (a, b) :: r => memWriteAll (memSet m a b) r

/-- Bytes with the addresses at which they lie. -/
def atAddr (a : Nat) : List Byte → List (Nat × Byte)
  | [] => []
  | b :: bs => (a, b) :: atAddr (a + 1) bs

/-- The stored bits of a register. -/
def State.rg (s : State) (k : RegKind) (i : Nat := 0) (j : Nat := 0) : Nat :=
  (tabGet (BitVec.ofNat 64 (Reg.reset ⟨k, i, j⟩)) s.regs (Reg.offset ⟨k, i, j⟩)).toNat

/-- The state with a register's stored bits changed. -/
def State.setRg (s : State) (k : RegKind) (v : Nat) (i : Nat := 0) (j : Nat := 0) : State :=
  { s with regs := tabSet (BitVec.ofNat 64 (Reg.reset ⟨k, i, j⟩)) s.regs (Reg.offset ⟨k, i, j⟩) (BitVec.ofNat 64 v) }

/-- The field [hi:lo] of a register. -/
def State.fld (s : State) (k : RegKind) (hi lo : Nat) (i : Nat := 0) (j : Nat := 0) : Nat :=
  fieldOf hi lo (s.rg k i j)

/-- A number with its field [hi:lo] replaced. -/
def putField (hi lo v w : Nat) : Nat :=
  w % 2 ^ lo + v % 2 ^ (hi + 1 - lo) * 2 ^ lo + w / 2 ^ (hi + 1) * 2 ^ (hi + 1)

/-- The state with the field [hi:lo] of a register changed. -/
def State.setFld (s : State) (k : RegKind) (hi lo v : Nat) (i : Nat := 0) (j : Nat := 0) : State :=
  s.setRg k (putField hi lo v (s.rg k i j)) i j

/-- The state with a field increased, up to the greatest value it holds. -/
def State.addFld (s : State) (k : RegKind) (hi lo n : Nat) (i : Nat := 0) (j : Nat := 0) : State :=
  s.setFld k hi lo (satAdd (2 ^ (hi + 1 - lo) - 1) (s.fld k hi lo i j) n) i j

/-- Bit `b` of a register. -/
def State.bit (s : State) (k : RegKind) (b : Nat) (i : Nat := 0) (j : Nat := 0) : Bool := (s.rg k i j).testBit b

/-- The state with one bit of a register changed. -/
def State.setBit (s : State) (k : RegKind) (b : Nat) (v : Bool) (i : Nat := 0) (j : Nat := 0) : State :=
  s.setFld k b b (b2n v) i j

end Sys2Proof.Machine
end

