-- ==== Sys2Proof/Machine/Ops.lean ====
section
/-! DEFINITION. Shared operations: Time, Stamps and the Stamp Log, source events, FAULT records, the
units of the state by number, the zones and the Central Store with its check bits and page remapping. -/

namespace Sys2Proof.Machine

abbrev Result := Host.Outcome State Fault Refusal

/-! ### What a command leaves alone -/

/-- A command has its effect on everything but the queue of commands that wait, which is the step's; which of its own accesses were granted
is told only while it acts. -/
def aside (s t : State) : State := { t with pending := s.pending, acting := s.acting }

/-- A whole second of Time in units of 2^-40 s (R20). -/
def second : Nat := 2 ^ 40

/-- Whether `us` microseconds have passed from Time `t` to Time `now`. -/
def usPassed (t now us : Nat) : Bool := t ≤ now && us * second ≤ (now - t) * 1000000

/-- Whether `ns` nanoseconds have passed. -/
def nsPassed (t now ns : Nat) : Bool := t ≤ now && ns * second ≤ (now - t) * 1000000000

/-- The Time that has passed since the oscillator started, which steps of Time leave alone: what timers measure by (log entry
1). -/
def State.clock (s : State) : Nat := ((s.time.now : Int) - s.time.stepped).toNat

/-- TIME_STAT.STATE (R37). -/
def State.timeState (s : State) : Nat := s.fld .timeStat 1 0

/-- A change of TIME_STAT.STATE sets the latch of source 0x1A1 (R311, IRC_TEVT). -/
def State.setTimeState (s : State) (v : Nat) : State :=
  if s.timeState = v then s
  else
    let t := (s.setFld .timeStat 1 0 v).setBit .ircTevt 0 true
    { t with time := { t.time with holdMark := if v = 3 then some t.clock else none } }

/-- The growth of ALIGN in holdover up to a Time (R33); on a grandmaster ALIGN is 0 (R351). -/
def State.growAlign (s : State) (now : Nat) : State :=
  match (if s.bit .timeStat 8 then none else s.time.holdMark) with
  | none => s
  | some t =>
    let n := (s.clock + (now - s.time.now) - t) / second
    let a := s.fld .timeUnc 63 32
    let t' := s.setFld .timeUnc 63 32 (satAdd 0xFFFFFFFF a (n * s.fld .timeHold 31 0))
    { t' with time := { t'.time with holdMark := some (t + n * second) } }

/-- Time passes up to `now` (log entry 1); without VAON the time core stands still (R386). -/
def State.pass (s : State) (now : Nat) : State :=
  if now ≤ s.time.now ∨ s.power.vaon = false then s
  else
    let t := s.growAlign now
    { t with time := { t.time with now := now } }

/-- Whether the part is in Lockdown, entering included (R338, R339). -/
def State.locked (s : State) : Bool := s.fld .gctlLock 1 0 ≠ 0

/-- The effect unless the part is in Lockdown (R339 step 2). -/
def unlocked (f : State → State) (s : State) : State := if s.locked then s else f s

/-! ### Stamps and the log (R22 to R46) -/

/-- The key of the last TIME of a DOMAIN under the NODE that stamps carry (R24). -/
def State.stampKey (s : State) (dom : Nat) : Nat := s.time.stampNode % 2 ^ 18 * 2 ^ 8 + dom

/-- The greater of the sampled Time `now`, the last TIME of the DOMAIN under the NODE plus 1, and the carried TIME plus 1 (R24, R30).
`after` is the least TIME that the cause allows. -/
def State.stampTime (s : State) (dom now after : Nat) : Nat :=
  max now (max (tabGet 0 s.time.lastTime (s.stampKey dom)) after)

/-- A Stamp is taken in a DOMAIN for the Time `now`: SEQ counts (R24). -/
def State.stampAt (s : State) (dom now after : Nat) : Stamp × State :=
  let t := s.stampTime dom now after
  let q := tabGet 0 s.time.seqs dom
  (⟨t, s.time.stampNode, dom, q⟩,
   { s with time := { s.time with seqs := tabSet 0 s.time.seqs dom ((q + 1) % 2 ^ 22)
                                  lastTime := tabSet 0 s.time.lastTime (s.stampKey dom) (t + 1) } })

/-- A Stamp is taken in a DOMAIN now. -/
def State.stamp (s : State) (dom after : Nat) : Stamp × State := s.stampAt dom s.time.now after

/-- The low word of a Stamp (R22). -/
def Stamp.lo (x : Stamp) : Nat := x.time % 2 ^ 16 * 2 ^ 48 + x.node % 2 ^ 18 * 2 ^ 30 + x.domain % 2 ^ 8 * 2 ^ 22 + x.seq % 2 ^ 22

/-- The high word of a Stamp (R22). -/
def Stamp.hi (x : Stamp) : Nat := x.time / 2 ^ 16 % 2 ^ 64

/-- A Stamp as 16 bytes, low word first (R4, R22). -/
def Stamp.bytes (x : Stamp) : List Byte := natLe 8 x.lo ++ natLe 8 x.hi

/-- The order of Stamps (R25). -/
def Stamp.before (x y : Stamp) : Bool := x.hi * 2 ^ 64 + x.lo < y.hi * 2 ^ 64 + y.lo

/-- The record's word at +0x10 (R38). -/
def LogRecord.head (r : LogRecord) : Nat :=
  r.kind % 2 ^ 8 + r.sub % 2 ^ 8 * 2 ^ 8 + r.unit % 2 ^ 12 * 2 ^ 16 + r.arg0 % 2 ^ 32 * 2 ^ 32

/-- A Stamp Log record as 32 bytes (R38). -/
def LogRecord.bytes (r : LogRecord) : List Byte := r.stamp.bytes ++ natLe 8 r.head ++ natLe 8 (r.arg1 % 2 ^ 64)

/-- A Carillon source's event waits to be routed, unless no enabled channel names the source or Carillon is in Lockdown
(R300, R308). -/
def State.emit (s : State) (src time hop : Nat) : State :=
  if s.locked then s
  else if (List.range 256).any (fun c => s.bit .carCh 16 c && s.fld .carCh 10 0 c == src) then
    { s with events := s.events ++ [⟨src, time, hop⟩] }
  else s

/-- A record's place among those of a FIFO: last, but before every record of its DOMAIN that was stamped after it (R41). -/
def logPlace (r : LogRecord) : List LogRecord → List LogRecord
  | [] => [r]
  | x :: l =>
    if x.stamp.domain = r.stamp.domain ∧ x.stamp.node = r.stamp.node ∧ r.stamp.time < x.stamp.time then r :: x :: l
    else x :: logPlace r l

/-- A record enters the drain FIFO; a FAULT record is a source event there (R299). -/
def State.logPush (s : State) (r : LogRecord) : State :=
  let t := { s with log := { s.log with fifo := logPlace r s.log.fifo
                                        since := match s.log.since with | none => some s.clock | x => x } }
  if r.kind = 0x0B then
    let hop := ((s.log.hops.find? (·.1 = r.stamp)).map (·.2)).getD 0
    let t := { t with log := { t.log with hops := t.log.hops.filter (·.1 ≠ r.stamp) } }
    t.emit 0x1F0 (r.stamp.time + 1) hop
  else t

/-- The LOG_LOST record that drops have made due enters ahead of every later record (R42), but for a record of its own DOMAIN that
waits at its stamp point with a lower SEQ (R41, log entry 78). -/
def State.logLost (s : State) : State :=
  if s.log.lostDue = 0 ∨ 512 ≤ s.log.fifo.length ∨ s.log.waiting.any (·.stamp.domain = 0) then s
  else
    let (x, t) := s.stamp 0 0
    ({ t with log := { t.log with lostDue := 0 } }).logPush ⟨x, 0x11, 0, 0, s.log.lostDue, 0⟩

/-- A record of a kind that is logged always (R42): with the FIFO full it waits at its stamp point. -/
def State.logAlways (s : State) (r : LogRecord) : State :=
  let s := s.logLost
  if 512 ≤ s.log.fifo.length ∨ s.log.waiting ≠ [] then { s with log := { s.log with waiting := s.log.waiting ++ [r] } }
  else s.logPush r

/-- A record that waited at its stamp point enters the FIFO (R42). -/
def State.logEnter (s : State) : State :=
  let s := s.logLost
  match s.log.waiting with
  | r :: rest =>
    if s.log.fifo.length < 512 then ({ s with log := { s.log with waiting := rest } }).logPush r else s
  | [] => s

/-- The records that wait in a DOMAIN enter before a later one of it, as far as there is room (R41). -/
def State.logTurn (s : State) (dom : Nat) : State :=
  if s.log.waiting.any (·.stamp.domain = dom) then s.log.waiting.foldl (fun t _ => t.logEnter) s else s

/-- A record of a class that is enabled, or dropped and counted (R42). -/
def State.logKept (s : State) (r : LogRecord) : State :=
  let s := s.logLost.logTurn r.stamp.domain
  if 496 ≤ s.log.fifo.length then
    { (s.addFld .logLost 31 0 1) with log := { s.log with lostDue := s.log.lostDue + 1 } }
  else s.logPush r

/-- A record of a class of LOG_EN, by the class's bit. -/
def State.logClass (s : State) (bit : Nat) (r : LogRecord) : State := if s.bit .logEn bit then s.logKept r else s

/-- A FAULT or STALE_COMPLETION record enters the error FIFO at its detection, or is counted lost (R329). -/
def State.errPush (s : State) (r : LogRecord) : State :=
  if 64 ≤ s.errFifo.length then s.addFld .fltErrLost 31 0 1 else { s with errFifo := s.errFifo ++ [r] }

/-- What acts from here on is the work of a strike at some hop, of which its events carry the next (R305). -/
def State.setHop (s : State) (h : Nat) : State := { s with log := { s.log with hop := h } }

/-- A FAULT record (R328): stamped in the DOMAIN that detects it, with SUB, UNIT, ARG0 and ARG1. `hop` is the hop of its event 0x1F0, if
it is not that of the work that acts (R305). -/
def State.fault (s : State) (dom sub unit arg0 arg1 : Nat) (after : Nat := 0) (hop : Nat := 0) : State :=
  let (x, t) := s.logLost.stamp dom after
  let r : LogRecord := ⟨x, 0x0B, sub, unit, arg0, arg1⟩
  let hop := max hop t.log.hop
  let t := if hop = 0 then t else { t with log := { t.log with hops := t.log.hops ++ [(x, hop)] } }
  (t.errPush r).logAlways r

/-- The cause of an interrupt source, or at 0x1000 + q of CQ q's condition, is stamped: its delivery comes later (R30). -/
def State.ircCause (s : State) (n time : Nat) : State :=
  { s with irc := { s.irc with cause := tabSet 0 s.irc.cause n (max (tabGet 0 s.irc.cause n) (time + 1)) } }

/-- A stale completion is counted and recorded (R337). -/
def State.staleRecord (s : State) (dom sub unit arg0 arg1 : Nat) : State :=
  let (x, t) := (s.addFld .fltStale 31 0 1).stamp dom 0
  let r : LogRecord := ⟨x, 0x12, sub, unit, arg0, arg1⟩
  (t.errPush r).logAlways r

/-! ### Units by number -/

def State.box (s : State) (c : Nat) : Mailbox := tabGet mailbox0 s.mbx c
def State.setBox (s : State) (c : Nat) (b : Mailbox) : State := { s with mbx := tabSet mailbox0 s.mbx c b }
def State.chan (s : State) (c : Nat) : Chan := tabGet chan0 s.chans c
def State.setChan (s : State) (c : Nat) (x : Chan) : State := { s with chans := tabSet chan0 s.chans c x }
def State.sq (s : State) (q : Nat) : Sq := tabGet sq0 s.sqs q
def State.setSq (s : State) (q : Nat) (x : Sq) : State := { s with sqs := tabSet sq0 s.sqs q x }
def State.cq (s : State) (q : Nat) : Cq := tabGet cq0 s.cqs q
def State.setCq (s : State) (q : Nat) (x : Cq) : State := { s with cqs := tabSet cq0 s.cqs q x }
def State.mover (s : State) (m : Nat) : Mover := tabGet mover0 s.movers m
def State.setMover (s : State) (m : Nat) (x : Mover) : State := { s with movers := tabSet mover0 s.movers m x }
def State.drive (s : State) (d : Nat) : Drive := tabGet drive0 s.drives d
def State.setDrive (s : State) (d : Nat) (x : Drive) : State := { s with drives := tabSet drive0 s.drives d x }
def State.core (s : State) (n : Nat) : Core := tabGet core0 s.irc.cores n
def State.setCore (s : State) (n : Nat) (x : Core) : State :=
  { s with irc := { s.irc with cores := tabSet core0 s.irc.cores n x } }
def State.port (s : State) (p : Nat) : PortConfig := tabGet port0 s.ports p
def State.setPort (s : State) (p : Nat) (x : PortConfig) : State := { s with ports := tabSet port0 s.ports p x }
def State.link (s : State) (k : Nat) : Link := tabGet link0 s.links k
def State.setLink (s : State) (k : Nat) (x : Link) : State := { s with links := tabSet link0 s.links k x }
def State.msix (s : State) (p v : Nat) : MsixEntry := tabGet msix0 s.irc.table (8192 * p + v)
def State.setMsix (s : State) (p v : Nat) (x : MsixEntry) : State :=
  { s with irc := { s.irc with table := tabSet msix0 s.irc.table (8192 * p + v) x } }

/-- What is decided in one handshake, by channel: the lower channel number first (R155, R159). -/
def insertByChan {α : Type} (e : Nat × α) : List (Nat × α) → List (Nat × α)
  | [] => [e]
  | x :: l => if e.1 < x.1 then e :: x :: l else x :: insertByChan e l

def byChan {α : Type} (l : List (Nat × α)) : List (Nat × α) := l.foldl (fun r e => insertByChan e r) []

/-- The channel processor's DOMAIN and master ID for a channel: 256 channels each (R10, R23; log entry 14). -/
def cpDomain (c : Nat) : Nat := 1 + c / 256

/-- The bus reply of an access. -/
def State.reply (s : State) (d : List Byte) : State := { s with bus := ⟨d, false, none⟩ }

/-! ### Zones and links (R47 to R51, R362, R370, R371) -/

/-- What lies at a zone-0 address (R47). -/
inductive Place where
  | store | regs (off : Nat) | chime (off : Nat) | outside
  deriving DecidableEq, Repr

def placeOf (a : Nat) : Place :=
  if a < 0x40000000 then .store
  else if 0x1000000000 ≤ a ∧ a < 0x1004000000 then .regs (a - 0x1000000000)
  else if 0x1004000000 ≤ a ∧ a < 0x1005000000 then .chime (a - 0x1004000000)
  else .outside

/-- A zone code that is not reserved (R50). -/
def zoneOk (z : Nat) : Bool := z ≤ 7 && z != 3

/-- Whether a link is up: DL_Up (R373). -/
def State.linkUp (s : State) (k : Nat) : Bool := s.bit .lnkStat 0 k

/-- Whether a back-end port has both its x4 links (R370): BIF as it stood when the port last trained from Detect. -/
def State.bifurcated (s : State) (p : Nat) : Bool := (s.link (2 + 2 * p)).twoLinks

/-- Whether an address lies in a link's window (R371). -/
def State.inWindow (s : State) (k a : Nat) : Bool :=
  let u := a / 2 ^ 32
  s.fld .bkpWin 47 32 k ≤ u && u ≤ s.fld .bkpWin 15 0 k

/-- The link on which a request of zone 1, 2 or 4 to 7 is issued, none where no window of the port holds it (R51). An address that lies in
both windows of a port goes to its link 0 (DESIGN CHOICE, log entry 102). -/
def State.linkOf (s : State) (z a : Nat) : Option Nat :=
  if z = 1 then some 0
  else if z = 2 then some 1
  else if 4 ≤ z ∧ z ≤ 7 then
    let k := 2 + 2 * (z - 4)
    if s.inWindow k a then some k
    else if s.bifurcated (z - 4) && s.inWindow (k + 1) a then some (k + 1)
    else none
  else none

/-- The CAUSE with which a request on a link fails before it leaves the part: no window, or the link is not up (R248,
R371, R375). -/
def State.linkCause (s : State) (z a : Nat) : Option Nat :=
  match s.linkOf z a with
  | none => some 1
  | some k => if s.linkUp k then none else some 7

/-- Whether the Completion Timeout of a read issued in a zone at Time `since` may have passed: on a host link as its endpoint is set
(R367); a back-end port's is the event itself (log entry 42). -/
def State.ctoPassed (s : State) (z since : Nat) : Bool :=
  if z = 1 ∨ z = 2 then !(s.port (z - 1)).ctoDisable && usPassed since s.clock (s.port (z - 1)).ctoUs else true

/-- Whether what a link read brings is a timeout that the endpoint does not allow yet. -/
def State.tooEarly (s : State) (z since : Nat) : ReadResult → Bool
  | .fail cause _ => cause = 3 && !s.ctoPassed z since
  | .ok _ => false

/-- An answer comes over a link: its data link layer replays no longer (R334, log entry 97). -/
def State.linkAnswers (s : State) (o : Option Nat) : State :=
  match o with
  | some k => if (s.link k).replaying then s.setLink k { s.link k with replaying := false } else s
  | none => s

/-- The memory of a zone beyond a link, as the part wrote it (log entry 4). -/
def State.extMem (s : State) (z : Nat) : List Host.Cell := tabGet [] s.ext z

/-- Bytes written on a link reach the memory of its zone. -/
def State.extWrite (s : State) (z : Nat) (w : List (Nat × Byte)) : State :=
  { s with ext := tabSet [] s.ext z (memWriteAll (s.extMem z) w) }

/-! ### Arbiters, credits and the Tether (R246, R247, R287 to R294) -/

/-- The live priority of a requester. -/
def State.prio (s : State) (r : Nat) : Nat := s.fld .arbPrio 3 0 r

/-- The lines granted to a requester in the 1.024 us that end now (R247). -/
def State.recentLines (s : State) (r : Nat) : Nat :=
  (((tabGet [] s.arb.history r).filter (fun e => !nsPassed e.1 s.clock 1024)).map (·.2)).sum

/-- Whether a request of some lines fits the requester's Tether (R247). -/
def State.tetherFits (s : State) (r lines : Nat) : Bool :=
  let share := s.fld .arbTether 9 0 r
  share = 0 || s.recentLines r + lines ≤ share * 50

/-- A hold of the Tether is counted (R247). -/
def State.tetherHold (s : State) (r : Nat) : State := s.addFld .arbTether 47 32 1 r

/-- Lines granted to a requester are remembered for the Tether. -/
def State.tetherGrant (s : State) (r lines : Nat) : State :=
  let old := (tabGet [] s.arb.history r).filter (fun e => !nsPassed e.1 s.clock 1024)
  { s with arb := { s.arb with history := tabSet [] s.arb.history r (old ++ [(s.clock, lines)]) } }

/-- Credits in use at a segment's ledger. -/
def State.usedAt (s : State) (g : Nat) : Nat := tabGet 0 s.arb.used g

/-- Credits needed, summed by segment (R293). -/
def needAt (needs : List (Nat × Nat)) (g : Nat) : Nat := ((needs.filter (·.1 = g)).map (·.2)).sum

/-- Whether a reservation may commit: every ledger has the credits, beside those that it withholds for the first reservation registered
earlier with it, if there is one (R294). -/
def State.creditsFree (s : State) (earlier : List Resv) (needs : List (Nat × Nat)) : Bool :=
  needs.all (fun n =>
    let first := ((earlier.map (fun r => needAt r.needs n.1)).find? (· ≠ 0)).getD 0
    s.usedAt n.1 + first + needAt needs n.1 ≤ 512)

/-- Credits are taken at every ledger named. -/
def State.takeCredits (s : State) (needs : List (Nat × Nat)) : State :=
  needs.foldl (fun t n => { t with arb := { t.arb with used := tabSet 0 t.arb.used n.1 (t.usedAt n.1 + n.2) } }) s

/-- Credits are released. -/
def State.giveCredits (s : State) (needs : List (Nat × Nat)) : State :=
  needs.foldl (fun t n => { t with arb := { t.arb with used := tabSet 0 t.arb.used n.1 (t.usedAt n.1 - n.2) } }) s

/-- The spare page of a retirement index (R285). -/
def sparePage (i : Nat) : Nat := 0x3FFFF - i

/-- The lowest spare index that holds no page (R285), in a spare segment that is not released (R102). -/
def State.freeSpare (s : State) : Option Nat :=
  (List.range s.snima.layout.spare).findSome? (fun j =>
    if s.fld .cstSeg 1 0 (63 - j) ≠ 0 then none
    else ((List.range (min 4096 (s.store.remap.length + 1))).map (4096 * j + ·)).find? (fun i => tabGet none s.store.remap i = none))

/-- Whether lasting pages are retired: RETIRE_EN is 1 and a spare page is free (R285). -/
def State.retires (s : State) : Bool := s.bit .cstCtl 1 && s.freeSpare.isSome

/-- Whether a request touches a page that waits for its retirement, so that it is not granted (R285, step 3). -/
def State.pageWaits (s : State) (r : ArbReq) : Bool :=
  match r.page with
  | some p => decide (p ∈ s.store.lasting) && s.retires
  | none => false

/-- The decision of a segment's arbiter (R289): the lowest PRIO, and within it the first after the rotation pointer; no burst that
touches a page about to be retired (R285). -/
def State.arbPick (s : State) (g : Nat) : Option (ArbReq × Nat) :=
  let l := s.arb.presented.filter (fun r => r.seg = g && !s.pageWaits r)
  match l.map (fun r => s.prio r.req) |>.min? with
  | none => none
  | some p =>
    let ptr := tabGet 71 s.arb.ptr (16 * g + p)
    let at_ := l.filter (fun r => s.prio r.req = p)
    ((List.range 72).findSome? (fun i => at_.find? (fun r => r.req = (ptr + 1 + i) % 72))).map (·, p)

/-! ### The Central Store (R277 to R286) -/

/-- The page that serves a page number, after remapping (R277, R285). -/
def State.pageOf (s : State) (p : Nat) : Nat :=
  match s.store.remap.find? (fun e => e.2 = some p) with
  | some (i, _) => sparePage i
  | none => p

/-- The place of an address in the store after remapping. -/
def State.phys (s : State) (a : Nat) : Nat := s.pageOf (a / 4096) * 4096 + a % 4096

/-- The segment of a place in the store (R277). -/
def segOf (a : Nat) : Nat := a / 0x1000000 % 64

/-- Whether an access of the store meets a segment under self-test (R102, R248). -/
def State.underTest (s : State) (a : Nat) : Bool := s.fld .cstSeg 1 0 (segOf (s.phys a)) = 2

/-! ### A command's own accesses of the store (R246, R247, R287 to R296; log entry 12) -/

/-- The request for the lines of one 512-byte block, of block number `b`, that a command makes itself. -/
def State.rowReq (s : State) (who : Nat) (write : Bool) (b lines : Nat) : ArbReq :=
  ⟨segOf (s.phys (b * 512)), who, lines, b * 512, write, true, some (s.pageOf (b / 8))⟩

/-- The requests for `n` bytes from `a`, one for each block. -/
def State.rangeReqs (s : State) (who : Nat) (write : Bool) (a n : Nat) : List ArbReq :=
  if n = 0 then []
  else (List.range ((a + n - 1) / 512 - a / 512 + 1)).map (fun i =>
    let b := a / 512 + i
    s.rowReq who write b ((min (a + n) (512 * (b + 1)) - 1) / 64 - max a (512 * b) / 64 + 1))

/-- The requests for bytes written at some addresses. -/
def State.writeReqs (s : State) (who : Nat) (l : List Nat) : List ArbReq :=
  (l.map (· / 512)).eraseDups.map (fun b => s.rowReq who true b (((l.filter (· / 512 = b)).map (· / 64)).eraseDups.length))

/-- A grant of a command's own access is over once its burst must have ended: 13.65 ns after it was made (R289, R297). -/
def State.giveUpRow (s : State) (g : Nat) : State :=
  match tabGet none s.arb.holder g with
  | some r =>
    if r.row && nsPassed (tabGet 0 s.arb.heldAt g) s.clock 14 then
      ({ s with arb := { s.arb with holder := tabSet none s.arb.holder g none } }).giveCredits [(r.seg, r.lines)]
    else s
  | none => s

/-- Whether an inbound request has to stay behind one that arrived before it (R288): at its segment, or one that is not presented yet. -/
def State.behind (s : State) (r : ArbReq) : Bool :=
  r.req = 71 && (s.arb.inbound.takeWhile (· ≠ r)).any (fun x =>
    x.seg = r.seg || !(decide (x ∈ s.arb.presented) || tabGet none s.arb.holder x.seg == some x))

/-- A command's own burst is granted for it: the rotation moves, the Tether counts its lines, and what it had registered goes. -/
def State.rowGranted (s : State) (r : ArbReq) (p : Nat) : State :=
  let t := if r ∈ s.arb.presented then s.giveCredits [(r.seg, r.lines)] else s
  ({ t with arb := { t.arb with presented := t.arb.presented.filter (· ≠ r), resvs := t.arb.resvs.filter (·.ask ≠ some r)
                                ptr := tabSet 71 t.arb.ptr (16 * r.seg + p) r.req
                                tethered := t.arb.tethered.filter (· ≠ r.req) } }).tetherGrant r.req r.lines

/-- The grant that a command's own burst held ends with it. -/
def State.rowEnds (s : State) (r : ArbReq) : State :=
  ({ s with arb := { s.arb with holder := tabSet none s.arb.holder r.seg none } }).giveCredits [(r.seg, r.lines)]

/-- Another request of the same requester is at the same arbiter (R287). -/
def State.rowBusy (s : State) (r : ArbReq) : Bool :=
  s.arb.presented.any (fun x => x.seg = r.seg && x.req = r.req && x ≠ r)

/-- One burst of an access that a command makes itself: it takes the grant that it holds or had, or is granted in the command's own step,
or it has to wait: behind an inbound request, for the Tether, for credits, or for its grant (R247, R288, R289, R293, R294). -/
def State.claim (s : State) (r : ArbReq) : State :=
  let block := fun (w : ArbWait) => ({ s with arb := { s.arb with blocked := some (w, r) } } : State)
  let arrived := fun (t : State) => ({ t with arb := { t.arb with inbound := t.arb.inbound.erase r } } : State)
  if s.arb.blocked.isSome then s
  else if r ∈ s.arb.made then { s with arb := { s.arb with made := s.arb.made.erase r } }
  else if tabGet none s.arb.holder r.seg = some r then arrived { s.rowEnds r with acting := s.acting ++ [(r, none)] }
  else if s.behind r then block .order
  else
    let v := s.giveUpRow r.seg
    let mine := decide (r ∈ v.arb.presented)
    if !mine && !v.tetherFits r.req r.lines then block .tether
    else if !mine && !v.creditsFree (v.arb.resvs.takeWhile (·.ask ≠ some r)) [(r.seg, r.lines)] then block .credits
    else if (tabGet none v.arb.holder r.seg).isSome || v.rowBusy r then block .grant
    else
      let t := if mine then v else { v with arb := { v.arb with presented := v.arb.presented ++ [r] } }
      match t.arbPick r.seg with
      | some (x, p) => if x = r then arrived { v.rowGranted r p with acting := s.acting ++ [(r, some p)] } else block .grant
      | none => block .grant

/-- The claims that an access of requester 64 to 71 makes, one for each burst. Accesses of movers claim where they stand outside a burst,
which has its own grant. -/
def State.claims (s : State) (who : Nat) (l : List ArbReq) : State :=
  if 64 ≤ who ∧ who < 72 then l.foldl (fun t r => t.claim r) s else s

/-- Whether every access of the store that a command made on its way to `t` was granted at once. -/
def State.granted (_ t : State) : Bool := t.arb.blocked.isNone

/-- A requester's own access is held by its Tether: counted once (R247). -/
def State.heldByTether (s : State) (r : Nat) : State :=
  if r ∈ s.arb.tethered then s
  else (fun (t : State) => { t with arb := { t.arb with tethered := t.arb.tethered ++ [r] } }) (s.tetherHold r)

/-- A request of a command's own is presented with its credits, unless its requester has another one there (R287, R293). -/
def State.rowPresent (s : State) (r : ArbReq) : State :=
  if r ∈ s.arb.presented ∨ s.rowBusy r ∨ (tabGet none s.arb.holder r.seg).any (fun x => x.req = r.req) then s
  else ({ s with arb := { s.arb with presented := s.arb.presented ++ [r], resvs := s.arb.resvs.filter (·.ask ≠ some r)
                                     tethered := s.arb.tethered.filter (· ≠ r.req) } }).takeCredits [(r.seg, r.lines)]

/-- Requests of commands' own accesses are withdrawn, with their credits and grants. -/
def State.withdraw (s : State) (p : ArbReq → Bool) : State :=
  let mine := fun (r : ArbReq) => r.row && p r
  let gone := (s.arb.presented ++ s.arb.holder.filterMap (·.2)).filter mine
  ({ s with arb := { s.arb with
      presented := s.arb.presented.filter (!mine ·), holder := s.arb.holder.filter (fun e => !e.2.any mine)
      resvs := s.arb.resvs.filter (fun r => !r.ask.any mine), made := s.arb.made.filter (!mine ·)
      inbound := s.arb.inbound.filter (!mine ·) } }).giveCredits (gone.map (fun (r : ArbReq) => (r.seg, r.lines)))

/-- A command that has to wait keeps the grants of its bursts before the one that waits. -/
def State.keepGrants (s : State) (l : List (ArbReq × Option Nat)) : State :=
  l.foldl (fun t e =>
    let u := match e.2 with | some p => t.rowGranted e.1 p | none => t.rowEnds e.1
    { u with arb := { u.arb with made := u.arb.made ++ [e.1] } }) s

/-- An inbound request that waits keeps its place in the order of arrival; a later burst of it takes the place of an earlier one (R288). -/
def State.queueInbound (s : State) (r : ArbReq) (gone : List ArbReq) : State :=
  let l := s.arb.inbound
  let l := if r.req ≠ 71 ∨ r ∈ l then l
    else if l.any (fun x => decide (x ∈ gone)) then (l.map (fun x => if x ∈ gone then r else x)).eraseDups
    else l ++ [r]
  { s with arb := { s.arb with inbound := l.filter (fun x => decide (x = r) || decide (x ∉ gone)) } }

/-- A command whose access of the store has to wait does nothing but that: its bursts before that one are granted, its request is held,
registered or presented, and the command comes again. -/
def State.orWaits (s t : State) : State :=
  if s.arb.blocked.isSome then t
  else match t.arb.blocked with
  | none => t
  | some (w, r) =>
    let l := t.acting.drop s.acting.length
    let u := (s.keepGrants l).queueInbound r (l.map (·.1))
    match w with
    | .order => u
    | .tether => u.heldByTether r.req
    | .credits =>
      if u.arb.resvs.any (·.ask = some r) then u
      else { u with arb := { u.arb with resvs := u.arb.resvs ++ [⟨r.req, 0, [(r.seg, r.lines)], some r⟩] } }
    | .grant => (u.giveUpRow r.seg).rowPresent r

/-- What an agent of the part does next by itself, unless an access of the store that it makes has to wait: then only the request
stands, and the agent tries again later. -/
def State.attempt (s : State) (f : State → State) : State := if s.arb.blocked.isSome then s else s.orWaits (f s)

/-! ### Corrected and uncorrectable words (R279 to R286) -/

/-- FWIN as it acts (R295). -/
def clampTo (lo hi v : Nat) : Nat := max lo (min hi v)

/-- The spare pages of the layout. -/
def State.spares (s : State) : Nat := s.snima.layout.spare * 4096

/-- While no lasting page is retired, each of them stays in place: it is counted in UNRET and recorded once (R286). -/
def State.stayInPlace (s : State) : State :=
  if s.retires then s
  else (s.store.lasting.filter (fun p => decide (p ∉ s.store.unret))).foldl (fun t p =>
    ({ t with store := { t.store with unret := t.store.unret ++ [p] } }).fault 0x61 0x09 (segOf (p * 4096)) p 0) s

/-- A page becomes lasting (R284), unless it has been retired before: it waits for its retirement, or stays in place. -/
def State.pageLasting (s : State) (p : Nat) : State :=
  if p ∈ s.store.lasting ∨ s.store.remap.any (fun e => e.2 = some p) then s
  else ({ s with store := { s.store with lasting := s.store.lasting ++ [p] } }).stayInPlace

/-- A page's window after one more corrected event at Time `now` (R284): the windows, and the count. -/
def windowStep (now win p : Nat) (l : List PageWindow) : List PageWindow × Nat :=
  match l.find? (fun w => w.page = p ∧ ¬ usPassed w.opened now win) with
  | some w => (l.map (fun x => if x.page = p then { x with count := w.count + 1 } else x), w.count + 1)
  | none =>
    let rest := l.filter (fun w => w.page ≠ p ∧ ¬ usPassed w.opened now win)
    let rest := if 4096 ≤ rest.length then
        match rest.foldl (fun (m : Option PageWindow) w => match m with
          | none => some w
          | some x => if w.opened < x.opened then some w else some x) none with
        | some x => rest.erase x
        | none => rest
      else rest
    (rest ++ [⟨p, now, 1⟩], 1)

/-- A corrected event at a word (R280, R284): the word is sound again, counted and recorded. `who` is the requester, or for one of
requester 71 the master (R288). -/
def State.corrected (s : State) (who w : Nat) : State :=
  let a := w * 8
  let p := a / 4096
  let (l, n) := windowStep s.clock (clampTo 1000 60000000 (s.fld .cstFwin 31 0)) p s.store.windows
  let t := { s with store := { s.store with windows := l, words := tabSet .sound s.store.words w .sound } }
  let t := ((t.addFld .cstStat 31 0 1).addFld .cstSeg 47 32 1 (segOf a)).setRg .cstLast a
  let t := t.fault 0x61 0x06 (segOf a) (who + min n 255 * 2 ^ 16) a
  if max 1 (s.fld .cstFthr 7 0) ≤ n then t.pageLasting p else t

/-- A read meets an uncorrectable word (R281). -/
def State.uncorrectable (s : State) (who w : Nat) : State :=
  let a := w * 8
  let t := (s.addFld .cstStat 63 48 1).setRg .cstLast (2 ^ 63 + a)
  (t.fault 0x61 0x07 (segOf a) who a).pageLasting (a / 4096)

/-- What a read does at one word (R279 to R281). -/
def State.readWord (s : State) (who w : Nat) : State :=
  match tabGet .sound s.store.words w with
  | .sound => s
  | .single => s.corrected who w
  | .poisoned _ => s.uncorrectable who w

/-- Upsets that struck before a read (log entry 10): one wrong bit, or a second one, which no read can correct (R279). -/
def State.upset (s : State) : List Upset → State
  | [] => s
  | u :: r =>
    let w := u.word % 2 ^ 27
    let v : WordState := match tabGet .sound s.store.words w, u.double with
      | .sound, false => .single
      | _, _ => .poisoned 0
    ({ s with store := { s.store with words := tabSet .sound s.store.words w v } }).upset r

/-- The distinct words that bytes at these places lie in, in order. -/
def wordsOf (l : List Nat) : List Nat := (l.map (· / 8)).eraseDups

def State.isPoisoned (s : State) (w : Nat) : Bool :=
  match tabGet .sound s.store.words w with
  | .poisoned _ => true
  | _ => false

/-- The byte of the store at an address: of an uncorrectable word nothing the spec fixes, but where a write has stored it since (R280,
R281, log entry 10). -/
def State.storeByte (s : State) (a : Nat) : Byte :=
  let p := s.phys a
  match tabGet .sound s.store.words (p / 8) with
  | .poisoned known => if known.testBit (p % 8) then memGet s.store.mem p else Config.upsetByte p s.clock
  | _ => memGet s.store.mem p

/-- The places of the lines that hold bytes `a` to `a + n - 1` (R237). -/
def State.linePlaces (s : State) (a n : Nat) : List Nat :=
  if n = 0 then []
  else (List.range ((a + n - 1) / 64 - a / 64 + 1)).flatMap
    (fun i => (List.range 8).map (fun j => s.phys ((a / 64 + i) * 64 + 8 * j)))

/-- A read of `n` bytes of the store: whole lines are read and corrected, uncorrectable words are recorded, by requester or under the
name of a master. Answers the bytes, and the first address of a byte used that lies in an uncorrectable word. -/
def State.storeRead (s : State) (who a n : Nat) (name : Nat := who) : List Byte × Option Nat × State :=
  let places := s.linePlaces a n
  let bad := (List.range n).find? (fun i => s.isPoisoned (s.phys (a + i) / 8))
  let t := (wordsOf places).foldl (fun t w => t.readWord name w) (s.claims who (s.rangeReqs who false a n))
  ((List.range n).map (fun i => s.storeByte (a + i)), bad.map (a + ·), t)

/-- A write of bytes of the store (R238, R280): a word covered whole becomes sound; one covered in part is merged, which
corrects a single error and leaves a poisoned word poisoned. -/
def State.storeWrite (s : State) (who : Nat) (w : List (Nat × Byte)) (name : Nat := who) : State :=
  let places := w.map (fun e => s.phys e.1)
  let t := (wordsOf places).foldl (fun t x =>
    let mine := (places.filter (· / 8 = x)).eraseDups
    if 8 ≤ mine.length then { t with store := { t.store with words := tabSet .sound t.store.words x .sound } }
    else match tabGet .sound t.store.words x with
      | .single => t.corrected name x
      | .poisoned known =>
        { t with store := { t.store with words := tabSet .sound t.store.words x (.poisoned (mine.foldl (fun k p => k ||| 2 ^ (p % 8)) known)) } }
      | .sound => t) (s.claims who (s.writeReqs who (w.map (·.1))))
  { t with store := { t.store with mem := memWriteAll t.store.mem (w.map (fun e => (s.phys e.1, e.2))) } }

/-- Bytes written into consecutive addresses of the store. -/
def State.put (s : State) (who a : Nat) (d : List Byte) (name : Nat := who) : State := s.storeWrite who (atAddr a d) name

/-- The parts, by page, of `n` bytes from `a`. -/
def pageParts : Nat → Nat → Nat → List (Nat × Nat)
  | 0, _, _ => []
  | f + 1, a, n =>
    if n = 0 then []
    else
      let k := min n (4096 - a % 4096)
      (a, k) :: pageParts f (a + k) (n - k)

/-- All-ones (R56). -/
def ones (n : Nat) : List Byte := List.replicate n 0xFF

/-- A read of the store by a master that is neither a mover nor a channel processor: what lies in a segment under self-test reads as
all-ones (R102). -/
def State.masterRead (s : State) (who a n name : Nat) : List Byte × Option Nat × State :=
  let l := pageParts (n / 4096 + 2) a n
  if l.all (fun e => !s.underTest e.1) then s.storeRead who a n name
  else l.foldl (fun x e =>
    if s.underTest e.1 then (x.1 ++ ones e.2, x.2.1, x.2.2)
    else
      let (d, bad, t) := x.2.2.storeRead who e.1 e.2 name
      (x.1 ++ d, x.2.1.or bad, t)) ([], none, s)

/-- A write of the store by such a master: what lies in a segment under self-test is dropped (R102). -/
def State.masterWrite (s : State) (who : Nat) (w : List (Nat × Byte)) (name : Nat) : State :=
  s.storeWrite who (w.filter (fun e => !s.underTest e.1)) name

/-! ### The words of the vault (R108, R413) -/

/-- The words of the vault's regions, numbered from 0. -/
def vaultKeys : Nat := 0
def vaultSlots : Nat := 0x400
def vaultBoot : Nat := 0x600
def vaultTamper : Nat := 0x800
def vaultRetired : Nat := 0xA00
def vaultGen (i : Nat) : Nat := 0x2A00 + i / 2

/-! ### The layout (R91, R92) -/

/-- A region's start rounded up to 64 KiB. -/
def up64k (a : Nat) : Nat := roundUp a 0x10000

def Layout.pat (l : Layout) : Nat := up64k (2 ^ l.sessLog2 * 128)
def Layout.bal (l : Layout) : Nat := up64k (l.pat + l.patCnt * 64)
def Layout.logBase (l : Layout) : Nat := up64k (l.bal + l.balCq * 8192)
def Layout.data (l : Layout) : Nat := up64k (l.logBase + 2 ^ l.logLog2 * 32)
def Layout.spareBase (l : Layout) : Nat := 0x40000000 - l.spare * 0x1000000

/-- The address of a session context (R110): the Session Table starts at 0. -/
def sessAddr (i : Nat) : Nat := i * 128

/-- Whether a range of zone 0 lies in the Central Store. -/
def inStore (a n : Nat) : Bool := a + n ≤ 0x40000000

end Sys2Proof.Machine
end

