-- ==== Sys2Proof/Machine/ChanEnd.lean ====
section
/-! DEFINITION. Outcomes, batches and completion entries handed to the queue engine (R132, R133, R150 to R155), and how a
command and a program end: CMD_END, write-back, zero-length reads, and what comes next (R166 to R190). -/

namespace Sys2Proof.Machine

/-! ### Batches and completion entries -/

/-- The slots of a queue whose create word is `cfg` (R95, R96). -/
def qSlots (cfg : Nat) : Nat := 2 ^ fieldOf 20 16 cfg

/-- MODE of a queue's create word: index mode (R95, R96). -/
def indexMode (cfg : Nat) : Bool := cfg.testBit 28

/-- The zone of a queue's ring. -/
def ringZone (cfg : Nat) : Nat := fieldOf 27 24 cfg

/-- Outstanding entries of a ring of `n` slots (R136), or in index mode (R137). -/
def outstanding (index : Bool) (n p : Nat) (pph : Bool) (c : Nat) (cph : Bool) : Int :=
  if index then (((p : Int) - c) % n) else if pph = cph then (p : Int) - c else (n : Int) + p - c

/-- The CQEs of a CQ that host software has not consumed. -/
def State.cqCount (s : State) (q : Nat) : Int :=
  let x := s.cq q
  let cfg := x.conf.cfg
  outstanding (indexMode cfg) (qSlots cfg) x.tail x.tailPh x.head x.headPh

/-- The slots of a CQ that may be filled (R136, R137). -/
def State.cqRoom (s : State) (q : Nat) : Nat :=
  let cfg := (s.cq q).conf.cfg
  ((qSlots cfg : Int) - (if indexMode cfg then 1 else 0) - s.cqCount q).toNat

/-- The CQ that an SQ is bound to (R96). -/
def State.cqOf (s : State) (q : Nat) : Nat := fieldOf 47 32 (s.sq q).conf.cfg

/-- The channels of an SQ's set (R96). -/
def State.setOf (s : State) (q : Nat) : List Nat :=
  let x := (s.sq q).conf.chan
  (List.range (fieldOf 22 16 x)).map (fieldOf 11 0 x + ·)

/-- The registers of an SQ, or of a CQ, come into force (R130). -/
def State.sqLoad (s : State) (q : Nat) : State :=
  s.setSq q { s.sq q with conf := ⟨s.rg .sqCfg q, s.rg .sqBase q, s.rg .sqChan q, s.rg .sqTaddr q, s.rg .sqHaddr q⟩ }
def State.cqLoad (s : State) (q : Nat) : State :=
  s.setCq q { s.cq q with conf := ⟨s.rg .cqCfg q, s.rg .cqBase q, 0, s.rg .cqTaddr q, s.rg .cqHaddr q⟩ }

/-- Accepted entries cut after each entry that closes a batch (R152). -/
def batchesOf : List OpenEntry → List (List OpenEntry)
  | [] => []
  | e :: r =>
    if e.batchEnd then [e] :: batchesOf r
    else match batchesOf r with
      | [] => [[e]]
      | b :: bs => (e :: b) :: bs

/-- Whether every outcome of a batch is decided. -/
def batchDone (b : List OpenEntry) : Bool := b.all (fun e => e.code.isSome)

/-- A batch that is closed: its last entry closes it, or EN is 0 (R152, R157). -/
def batchClosed (en : Bool) (b : List OpenEntry) : Bool := (b.getLast?.map (·.batchEnd)).getD false || !en

/-- The CQE of a closed batch (R150, R152). -/
def batchCqe (q : Nat) (x : Sq) (b : List OpenEntry) : Cqe :=
  { covered := b.length, sqHead := x.head, sqId := q
    code := ((b.filterMap (·.code)).find? (· ≠ 0)).getD 0
    headPh := x.headPh, tag := (b.getLast?.map (·.tag)).getD 0
    cause := b.foldl (fun m e => max m e.cause) 0 }

/-- A decided CQE waits for its CQE_POST, or is held where the CQ's Ballast is full, with what is on its way there, or where others are
held that were decided before it (R153 to R155). Answers whether it is held. -/
def State.cqeDecided (s : State) (h : Holder) (e : Cqe) : Bool × State :=
  let n := s.cqOf e.sqId
  let x := s.cq n
  let coming := if x.balCount = 0 ∧ x.en then x.due.length - s.cqRoom n else x.due.length
  if x.held ≠ [] ∨ 256 ≤ x.balCount + coming then (true, s.setCq n { x with held := x.held ++ [(h, e)] })
  else (false, s.setCq n { x with due := x.due ++ [e] })

/-- Every closed batch of an SQ whose outcomes are decided posts (R152, R157). -/
def State.closeBatches (s : State) (q : Nat) (h : Holder) : Bool × State :=
  let x := s.sq q
  let bs := batchesOf x.opens
  let ready := bs.filter (fun b => batchClosed x.en b && batchDone b)
  let rest := (bs.filter (fun b => !(batchClosed x.en b && batchDone b))).flatten
  ready.foldl (fun (a : Bool × State) b =>
    let (held, t) := a.2.cqeDecided h (batchCqe q x b)
    (a.1 || held, t)) (false, s.setSq q { x with opens := rest })

/-- The outcome of an accepted entry is decided (R132). -/
def State.decideEntry (s : State) (q n code cause : Nat) (h : Holder) : Bool × State :=
  let x := s.sq q
  let opens := x.opens.map (fun e => if e.num = n then { e with code := some code, cause := max e.cause cause } else e)
  (s.setSq q { x with opens := opens }).closeBatches q h

/-- A run's outcome is handed to the queue engine: for its entry, or in a CQE of its own with COVERED 0 (R133, R184). -/
def State.handOutcome (s : State) (c code : Nat) : Bool × State :=
  let ch := s.chan c
  match ch.entry with
  | some n => s.decideEntry ch.sq n code ch.cause (.chan c)
  | none =>
    let x := s.sq ch.sq
    s.cqeDecided (.chan c) ⟨0, x.head, ch.sq, code, x.headPh, BitVec.ofNat 64 (s.rg .chnTag c), ch.cause⟩

/-! ### How a command ends -/

/-- The class of a status code (R175), as it steers the program. -/
inductive CodeClass where
  | ok | condition | final
  deriving DecidableEq, Repr

def classOf (code : Nat) : CodeClass :=
  if code ≤ 2 then .ok
  else if code = 0x30 ∨ code = 0x31 ∨ code = 0x40 ∨ code = 0x42 ∨ code = 0x50 then .condition
  else .final

/-- The flags of FLG (R165). -/
def Cmd.next (c : Cmd) : Bool := c.flg.testBit 0
def Cmd.join (c : Cmd) : Bool := c.flg.testBit 1
def Cmd.dry (c : Cmd) : Bool := c.flg.testBit 2
def Cmd.pause (c : Cmd) : Bool := c.flg.testBit 3
def Cmd.rpt (c : Cmd) : Bool := c.flg.testBit 4
def Cmd.lenok (c : Cmd) : Bool := c.flg.testBit 5

/-- A command of zeros. -/
def cmd0 : Cmd := ⟨0, 0, 0, 0, 0, 0, 0, 0, 0, 0, 0, 0, 0, false⟩

/-- The head of the command or chain that a channel holds. -/
def Chan.head (ch : Chan) : Member := ch.chain.head?.getD ⟨0, cmd0, none⟩

/-- Its last member, whose NEXT, PAUSE, RPT and LENOK act (R169). -/
def Chan.final (ch : Chan) : Member := ch.chain.getLast?.getD ⟨0, cmd0, none⟩

/-- The zone of the program (R163). -/
def State.progZone (s : State) (c : Nat) : Nat := s.fld .chnSess 3 0 c

/-- Forward progress: CHN_TMO's count restarts from 0 (R333), and what retrying held so far is spent (R334). -/
def State.grace (s : State) : Nat := s.rg .fltGrace * second / 1000000

def Chan.heldNow (ch : Chan) (grace now : Nat) : Nat :=
  match ch.retrySince with
  | some t => min (grace - ch.graceUsed) (now - t)
  | none => 0

def State.progressed (s : State) (c : Nat) : State :=
  let ch := s.chan c
  let now := s.clock
  s.setChan c { ch with progress := now, heldRun := 0
                        graceUsed := ch.graceUsed + ch.heldNow s.grace now
                        retrySince := ch.retrySince.map (fun _ => now) }

/-- The read that a channel processor makes itself is over. -/
def State.readOver (s : State) (c : Nat) : State := s.setChan c { s.chan c with pin := none, tags := [] }

/-- A channel reads its next command (R163). -/
def State.goFetch (s : State) (c addr : Nat) : State :=
  let t := s.setRg .chnCur (addr % 2 ^ 64) c
  let ch := t.chan c
  (t.setChan c { ch with phase := .fetch, stage := .run, chain := [], pos := 0, ended := false, condNext := false,
                         stream := stream0, session := none, ctx := [], wb := none, outcome := none, endRec := none,
                         graceUsed := 0, retrySince := none, fetchHalt := false, drv := none, target := none,
                         wrote := false, checkBad := none, waited := none, pin := none, tags := [] }).progressed c

/-- The next command is read only to see whether it is a BRANCH (R167). -/
def State.goCond (s : State) (c : Nat) : State :=
  let ch := s.chan c
  ((s.setRg .chnCur (ch.nextAt % 2 ^ 64) c).setChan c { ch with phase := .fetch, stage := .run, condNext := true,
                                                                 pin := none, tags := [] }).progressed c

/-- A channel is IDLE again (R182); its registers keep their values. -/
def idleChan (ch : Chan) : Chan := { chan0 with sq := ch.sq, cause := ch.cause }

/-- A SUSPENDED channel resumes at CHN_CUR (R184): the loop guard counts afresh. `entry` is the RESUME entry, if one
resumed it. -/
def State.resumeRun (s : State) (c : Nat) (entry : Option Nat) : State :=
  let t := s.setFld .chnIcount 63 32 0 c
  let t := t.setChan c { t.chan c with entry := entry, resPend := false, cause := max (t.chan c).cause (t.chan c).resCause, resCause := 0 }
  t.goFetch c (s.rg .chnCur c)

/-- A program is over (R182): its outcome is handed over, and the channel is IDLE, or DRAINING while it holds its CQE. -/
def State.endProgram (s : State) (c code : Nat) : State :=
  let (held, t) := s.handOutcome c code
  let ch := t.chan c
  t.setChan c (if held then { idleChan ch with phase := .draining, outcome := some code, entry := none } else idleChan ch)

/-- A program that is to be SUSPENDED enters that state (R171): a stop pending ends it at once (R183), a resume latched
resumes it at once (R185). -/
def State.enterSuspended (s : State) (c : Nat) : State :=
  let ch := s.chan c
  let t := s.setChan c { ch with phase := .suspended, stage := .run, entry := none, outcome := none, ended := false }
  if ch.stop then t.endProgram c 0x04
  else if ch.resPend then t.resumeRun c none
  else t

/-- A program suspends: outcome SUSPENDED is posted, or held in DRAINING (R154, R171). Its command was not the program's last, so that
class CMD does not log its end (log entry 51). -/
def State.suspend (s : State) (c : Nat) : State :=
  let t := (s.setRg .chnCur (s.chan c).nextAt c).setChan c { s.chan c with endRec := none }
  let (held, t) := t.handOutcome c 0x03
  let ch := t.chan c
  if held then t.setChan c { ch with phase := .draining, outcome := some 0x03, entry := none }
  else t.enterSuspended c

/-- The requester of command fetch (R287). -/
def reqCp : Nat := 68

/-- The write-back of R177 and R178: the TIME at +0x30, then RESID, DETAIL, CODE and OWN 0 at +0x38. -/
def State.writeBack (s : State) (c : Nat) (w : Nat × Nat × Nat) : State :=
  let z := s.progZone c
  let d1 := atAddr ((w.1 + 0x30) % 2 ^ 64) (natLe 8 w.2.1)
  let d2 := atAddr ((w.1 + 0x38) % 2 ^ 64) (natLe 8 w.2.2)
  if z = 0 then (s.storeWrite reqCp d1).storeWrite reqCp d2
  else match s.linkCause z w.1 with
    | none => (s.extWrite z d1).extWrite z d2
    | some _ => s

/-- The word at +0x38 (R160, R177). -/
def wbWordOf (resid detail code : Nat) : Nat :=
  resid % 2 ^ 32 * 2 ^ 32 + detail % 2 ^ 16 * 2 ^ 16 + code % 2 ^ 8 * 2 ^ 8

/-- What comes once the zero-length reads have returned: the write-back, then the program's end, its suspension or its next
command (R176 to R179, R182). -/
def State.finishCmd (s : State) (c : Nat) : State :=
  let ch := s.chan c
  let t := match ch.wb with
    | some w => (s.writeBack c w).progressed c
    | none => s
  let ch := t.chan c
  let t := t.setChan c { t.chan c with wb := none, wrote := ch.wrote || ch.wb.isSome
                                       dirty := if ch.wb.isSome ∨ ch.outcome.isSome then [] else ch.dirty }
  match ch.outcome with
  | none => if ch.condNext then t.goCond c else t.goFetch c ch.nextAt
  | some 3 => t.suspend c
  | some code => t.endProgram c code

/-- The links that need a zero-length read before something carried on link `carrier` (none: zone 0) goes out (R179). -/
def syncsFor (dirty : List Nat) (carrier : Option Nat) : List Nat := (dirty.filter (fun k => some k ≠ carrier)).eraseDups

/-- The end of a command once its disposition is set: with writes on other links outstanding, zero-length reads first. -/
def State.beginFinish (s : State) (c : Nat) : State :=
  let ch := s.chan c
  let carrier := match ch.wb with
    | some w => if s.progZone c = 0 then none else s.linkOf (s.progZone c) w.1
    | none => none
  let l := if ch.wb.isSome ∨ ch.outcome.isSome then syncsFor ch.dirty carrier else []
  if l = [] then s.finishCmd c
  else s.setChan c { ch with stage := .sync, after := .finish, syncs := l }

/-- The command that ended last proves to be its program's last: with class CMD its CMD_END is logged (R40). -/
def State.lastEnd (s : State) (c : Nat) : State :=
  let ch := s.chan c
  match ch.endRec with
  | some r => (s.setChan c { ch with endRec := none }).logKept r
  | none => s

/-- A command's disposition: its write-back, its program's outcome or the next command's address. `own` marks codes that
replace the command's own, which then stands in DETAIL (R177). -/
def State.dispose (s : State) (c : Nat) (wb : Bool) (outcome : Option Nat) (next : Nat) (replace : Option Nat) : State :=
  let lastOne := outcome.isSome && outcome != some 3
  let t := if lastOne then s.lastEnd c else s
  let ch := t.chan c
  let e := ch.ending
  let at_ := (ch.chain[ch.pos]?).getD ch.final
  let word := match replace with
    | some code => wbWordOf e.resid e.code code
    | none => wbWordOf e.resid e.detail e.code
  (t.setChan c { ch with wb := if wb && !ch.wrote then some (at_.addr, ch.endTime, word) else none, outcome := outcome, nextAt := next
                         stop := ch.stop && !lastOne
                         progress := if ch.stage = .loopGuard then ch.progress + (s.clock - ch.waitSince) else ch.progress }).beginFinish c

/-- The opcodes whose end a POST does not report (R224). -/
def postSkips (opc : Nat) : Bool := opc = 0x0B || opc = 0x20 || opc = 0x21 || opc = 0x23 || opc = 0x25 || opc = 0x26

/-- A program would go on to another command, but the loop guard has run out (R189): the channel waits at the boundary for
LOOP_GUARD_EXHAUSTED. -/
def State.guardSpent (s : State) (c : Nat) : Bool :=
  let lim := s.fld .chnIcount 31 0 c
  (if lim = 0 then 0x1000000 else lim) ≤ s.fld .chnIcount 63 32 c

/-- A program whose loop guard has run out waits at the boundary, at its last command (R40, R189). -/
def State.guardStop (s : State) (c next : Nat) : State :=
  let t := s.lastEnd c
  t.setChan c { t.chan c with stage := .loopGuard, nextAt := next, waitSince := t.clock }

/-- Whether a code is one of the halt class, which only a release writes back (R175, R187). -/
def haltCode (code : Nat) : Bool := 0x20 ≤ code && code ≤ 0x22

/-- The boundary after a command or chain whose code is decided (R166, R167, R171, R183, R190): a stop wins over the loop
guard, the loop guard over PAUSE. A halt-class code here is that of a SKIP_ON, which acts as an end of the OK class, keeps
its own write-back, and leads to the next command or the program's end only (R182, R187, R189). -/
def State.boundary (s : State) (c : Nat) : State :=
  let ch := s.chan c
  let f := ch.final.cmd
  let next := ch.target.getD (ch.final.addr + 0x40)
  let code := ch.ending.code
  let skip := haltCode code
  let instead := fun (n : Nat) => if skip then none else some n
  match (if skip then CodeClass.ok else classOf code) with
  | .ok =>
    if ch.stop then s.dispose c true (some 0x04) next (instead 0x04)
    else if !f.next then s.dispose c true (some code) next none
    else if s.guardSpent c then s.guardStop c next
    else if f.pause && !skip then s.dispose c true (some 0x03) next (some 0x03)
    else s.dispose c (f.rpt || skip) none next none
  | .condition =>
    if ch.stop || !f.next then s.dispose c true (some code) next none
    else if s.guardSpent c then s.guardStop c next
    else (s.setChan c { ch with condNext := true }).dispose c (f.rpt && !f.pause) none next none
  | .final => s.dispose c true (some code) next none

/-- A channel waits for no mover, unit or fill any longer. -/
def State.dropWaits (s : State) (c : Nat) : State :=
  let k := s.crypto
  { s with
    moverWait := s.moverWait.filter (· ≠ c)
    crypto := { k with aesWait := k.aesWait.filter (· ≠ c), shaWait := k.shaWait.filter (· ≠ c)
                       p521Wait := k.p521Wait.filter (· ≠ c)
                       fills := k.fills.map (fun f => { f with waiters := f.waiters.filter (·.1 ≠ c) }) } }

/-- The units, waits and key-cache holdings of a command end with it (R116, R231, R257). -/
def State.releaseUnits (s : State) (c : Nat) : State :=
  let free := fun (t : Tab (Option Nat)) => t.filter (fun e => e.2 ≠ some c)
  let s := s.dropWaits c
  let k := s.crypto
  { s with crypto := { k with aes := free k.aes, sha := free k.sha, p521 := free k.p521
                              cache := k.cache.map (fun e => { e with holders := e.holders.filter (· ≠ c) }) } }

/-- A command or chain ends (R166, R175): CMD_END is stamped and its code stands. `target` is the address of a TIC or a
taken BRANCH. The end of a WAIT or HOLD restarts CHN_TMO's count, and a drive's work has not been counted (R197, R333). The record
carries the command's own code, also where another code takes its place in the write-back (R39; DESIGN CHOICE,
log entry 101). -/
def State.ended (s : State) (c code detail resid : Nat) (target : Option Nat := none) : State :=
  let s := s.releaseUnits c
  let ch := s.chan c
  let s := if ch.phase = .waitEvent ∨ ch.phase = .waitHold ∨ ch.stage = .drvRun then s.progressed c else s
  let ch := s.chan c
  let (x, t) := s.stamp (cpDomain c) (ch.cause + 1)
  let at_ := (ch.chain[ch.pos]?).getD ch.final
  let r : LogRecord := ⟨x, 0x03, code, c, resid, at_.addr⟩
  let logged := t.bit .logEn 2 || (t.bit .logEn 1 && ch.final.cmd.rpt)
  let t := if logged then t.logKept r else t
  let e : Ending := ⟨code, detail, resid⟩
  t.setChan c { ch with phase := if ch.phase = .checked then .checked else .active
                        ended := true, ending := e, cause := x.time, target := target
                        endTime := x.time % 2 ^ 64, endRec := if t.bit .logEn 1 && !logged then some r else none
                        prevCode := code
                        report := if postSkips ch.head.cmd.opc then ch.report else e }

/-- A command or chain ends, and the boundary follows. -/
def State.endCmd (s : State) (c code detail resid : Nat) (target : Option Nat := none) : State :=
  (s.ended c code detail resid target).boundary c

/-- A program check, SESSION_INVALID or SESSION_POLICY (R188): no data moves; RESID is COUNT, or the chain's total. `pos`
is the command that failed. -/
def State.checkFail (s : State) (c code detail resid pos : Nat) : State :=
  let ch := s.chan c
  (s.setChan c { ch with phase := .checked, pos := pos }).endCmd c code detail resid

/-! ### Bus errors of a channel -/

/-- The word ARG0 of a BUS_ERROR record (R328). -/
def busArg (f : Failure) (fetch : Bool) : Nat :=
  f.cause % 256 + f.zone % 16 * 2 ^ 8 + f.dir % 4 * 2 ^ 12 + b2n fetch * 2 ^ 14 + b2n f.tbl * 2 ^ 15 + f.acode % 256 * 2 ^ 16

/-- The Time of the last Stamp of a DOMAIN under the present NODE. -/
def State.lastStamp (s : State) (dom : Nat) : Nat := tabGet 0 s.time.lastTime (s.stampKey dom) - 1

/-- A channel latches a bus error and goes HALTED (R186), which its interrupt source follows, and the TIME `at_` of the FAULT Stamp before
it (R30, R311). Its command has not ended and
keeps its crypto unit and its key-cache entry (R116, R257). -/
def State.haltChan (s : State) (c : Nat) (f : Failure) (fetch : Bool) (at_ : Nat) : State :=
  let s := (s.dropWaits c).ircCause (0x40 + c / 64) at_
  let t := s.setRg .chnErr (f.acode % 256 * 2 ^ 24 + f.zone % 16 * 2 ^ 16 + f.cause % 256 * 2 ^ 8 + b2n fetch * 4 + f.dir % 4) c
  let t := t.setRg .chnErrAddr (f.addr % 2 ^ 64) c
  t.setChan c { t.chan c with phase := .halted, fetchHalt := fetch, failOff := f.off, retrySince := none, syncs := [], skipAt := none,
                              pin := none, tags := [] }

/-- A bus error that the channel processor meets itself: it writes the record (R186). -/
def State.cpError (s : State) (c : Nat) (f : Failure) (fetch : Bool) : State :=
  let t := s.fault (cpDomain c) 0x05 c (busArg f fetch) f.addr
  t.haltChan c f fetch (t.lastStamp (cpDomain c))

end Sys2Proof.Machine
end

