-- ==== Sys2Proof/Machine/Operands.lean ====
section
/-! DEFINITION. The operands of commands: the 64-byte channel command (R160), the Pattern Table entry (R240, R241), the
addresses that a side of a stream visits (R242), amounts offered (R173, R194), and the session context (R110); and the images in the
flash (R104). -/

namespace Sys2Proof.Machine

/-- A field of bytes as a number. -/
def bytesAt (b : List Byte) (off n : Nat) : Nat := leNat ((b.drop off).take n)

/-- A channel command from its 64 bytes (R160). -/
def parseCmd (b : List Byte) : Cmd :=
  let w0 := bytesAt b 0 8
  let w3 := bytesAt b 0x18 8
  { opc := fieldOf 7 0 w0, flg := fieldOf 15 8 w0, mod := fieldOf 23 16 w0, zs := fieldOf 27 24 w0, zd := fieldOf 31 28 w0
    count := fieldOf 63 32 w0, src := bytesAt b 8 8, dst := bytesAt b 0x10 8, sess := fieldOf 19 0 w3
    sessRsv := fieldOf 31 20 w3, aux := fieldOf 63 32 w3, param := bytesAt b 0x20 8, param2 := bytesAt b 0x28 8
    own := (bytesAt b 0x38 8).testBit 0 }

/-- A two's-complement field of `n` bits as an integer. -/
def sext (n v : Nat) : Int := if v.testBit (n - 1) then (v : Int) - 2 ^ n else v

/-- A Pattern Table entry from its 64 bytes, none where R241 calls it invalid. -/
def parsePattern (b : List Byte) : Option Pattern :=
  let w := fun i => bytesAt b (8 * i) 8
  let p : Pattern :=
    { elem := fieldOf 28 16 (w 0), scale := fieldOf 11 8 (w 0), idx := (w 0).testBit 1, n0 := fieldOf 31 0 (w 1)
      n1 := fieldOf 63 32 (w 1), n2 := fieldOf 31 0 (w 2), s0 := sext 32 (fieldOf 63 32 (w 2))
      s1 := sext 48 (fieldOf 47 0 (w 3)), s2 := sext 48 (fieldOf 47 0 (w 4)), tbl := w 5 }
  let reserved := fieldOf 63 29 (w 0) + fieldOf 15 12 (w 0) + fieldOf 7 2 (w 0) + fieldOf 63 48 (w 3) + fieldOf 63 48 (w 4)
    + w 6 + w 7 + (if p.idx then fieldOf 63 32 (w 2) else p.scale + p.tbl)
  if (w 0).testBit 0 && reserved = 0 && 0 < p.elem && p.elem ≤ 4096 && 0 < p.n0 && 0 < p.n1 && 0 < p.n2 && p.scale ≤ 12
      && (!p.idx || p.tbl % 4 = 0) && p.n0 * p.n1 * p.n2 * p.elem < 2 ^ 32 then some p else none

/-- The span of a pattern (R194). -/
def Pattern.span (p : Pattern) : Nat := p.n0 * p.n1 * p.n2 * p.elem

/-- The element of a pattern that stream byte `i` lies in, and the byte's place in it. -/
def Pattern.elemOf (p : Pattern) (i : Nat) : Nat × Nat := (i / p.elem, i % p.elem)

/-- The address of stream byte `i` on a patterned side (R242): `off` gives the offset table's words. -/
def Pattern.addr (p : Pattern) (base i : Nat) (off : Nat → Nat) : Nat :=
  let e := i / p.elem
  let i0 := e % p.n0
  let i1 := e / p.n0 % p.n1
  let i2 := e / p.n0 / p.n1
  let o0 : Int := if p.idx then sext 32 (off i0) * 2 ^ p.scale else (i0 : Int) * p.s0
  (((base : Int) + i2 * p.s2 + i1 * p.s1 + o0 + (i % p.elem : Nat)) % 2 ^ 64).toNat

/-- The word of an offset table (R243). -/
def State.tableWord (s : State) (p : Pattern) (i : Nat) : Nat :=
  leNat ((List.range 4).map (fun j => s.storeByte (p.tbl + 4 * i + j)))

/-- AUX (R194). -/
def Cmd.pside (c : Cmd) : Nat := fieldOf 31 30 c.aux
def Cmd.pidx (c : Cmd) : Nat := fieldOf 11 0 c.aux

/-- The amount a command's operation offers: the pattern's span, or COUNT (R173, R194). -/
def Member.offered (m : Member) : Nat :=
  match m.pattern with
  | some p => p.span
  | none => m.cmd.count

/-- The bytes a command of a stream carries: the smaller of its offered amount and its COUNT (R169, R173). -/
def Member.carried (m : Member) : Nat := min m.offered m.cmd.count

/-- The member of a chain in which a stream offset lies. -/
def memberAt : List Member → Nat → Nat
  | [], _ => 0
  | m :: r, off => if off < m.carried then 0 else if r.isEmpty then 0 else 1 + memberAt r (off - m.carried)

/-- A stream's failed access halts its channel: CHN_CUR names the command of the chain at which it failed (R186). -/
def State.haltStream (s : State) (c : Nat) (f : Failure) (fetch : Bool) (at_ : Nat) : State :=
  let t := s.haltChan c f fetch at_
  let ch := t.chan c
  match ch.chain[memberAt ch.chain f.off]? with
  | some mb => if fetch || ch.chain.length ≤ 1 then t else t.setRg .chnCur (mb.addr % 2 ^ 64) c
  | none => t

/-- The address of the byte a source side gives at place `i` of the command's stream. -/
def State.sideAddr (s : State) (pattern : Option Pattern) (onSide : Bool) (base i : Nat) : Nat :=
  match pattern, onSide with
  | some p, true => p.addr base i (s.tableWord p)
  | _, _ => (base + i) % 2 ^ 64

/-- The opcodes (R191). -/
def opcKnown (o : Nat) : Bool := (1 ≤ o && o ≤ 0x0B) || o = 0x0F || (0x20 ≤ o && o ≤ 0x26)

/-- The opcodes that a data chain joins (R168). -/
def joinable (o : Nat) : Bool := o = 1 || o = 2 || o = 5 || o = 9

/-- XFORM's MOD (R199). -/
def Cmd.alg (c : Cmd) : Nat := c.mod % 16
def Cmd.decrypt (c : Cmd) : Bool := c.mod.testBit 4

/-- Whether a command uses a session (R196). -/
def Cmd.keyed (c : Cmd) : Bool :=
  c.opc = 2 || c.opc = 3 || c.opc = 4 || c.opc = 6 || c.opc = 7 || (c.opc = 5 && c.mod = 8)

/-- The opcodes with a source, and those with a destination (R192). -/
def usesSrc (o : Nat) : Bool := (1 ≤ o && o ≤ 7) || o = 9 || o = 0x0A
def usesDst (o : Nat) : Bool := (1 ≤ o && o ≤ 6) || (8 ≤ o && o ≤ 0x0B) || o = 0x26

/-- The session a command selects (R164). -/
def State.sessionOf (s : State) (c : Nat) (x : Cmd) : Nat := if x.sess = 0 then s.fld .chnSess 23 4 c else x.sess

/-! ### The session context (R110 to R112) -/

def ctxEpoch (b : List Byte) : Nat := bytesAt b 4 4
def ctxKlen (b : List Byte) : Nat := bytesAt b 2 1
def ctxKtype (b : List Byte) : Nat := bytesAt b 0 1
def ctxWrap (b : List Byte) : Nat := fieldOf 0 0 (bytesAt b 1 1)
def ctxExport (b : List Byte) : Bool := (bytesAt b 1 1).testBit 1
def ctxMigrate (b : List Byte) : Bool := (bytesAt b 1 1).testBit 2
def ctxLimit (b : List Byte) : Nat := bytesAt b 0x0C 4
def ctxZones (b : List Byte) : Nat := bytesAt b 0x0A 1
def ctxPol (b : List Byte) : Nat := bytesAt b 8 2
def ctxDuLo (b : List Byte) : Nat := bytesAt b 0x10 8
def ctxDuHi (b : List Byte) : Nat := bytesAt b 0x18 8
def ctxUsed (b : List Byte) : Nat := bytesAt b 0x2C 4
def ctxNotAfter (b : List Byte) : Nat := bytesAt b 0x20 8 + bytesAt b 0x28 2 * 2 ^ 64
def ctxKey (b : List Byte) : List Byte := (b.drop 0x30).take (ctxKlen b)

/-- The XTS data-unit size (R110). -/
def ctxDu (b : List Byte) : Nat := if (ctxPol b).testBit 13 then 4096 else 512

/-- The binding of a session (R112). -/
def bindingOf (i : Nat) (b : List Byte) : List Byte := natLe 4 i ++ b.take 0x28 ++ (b.drop 0x28).take 4

/-- KLEN and the plaintext length of a key type (R111). -/
def klenOf (k : Nat) : Nat := if k = 1 ∨ k = 3 then 72 else if k = 2 then 40 else if k = 4 ∨ k = 5 then 80 else 0
def plainLen (k : Nat) : Nat := if k = 1 ∨ k = 3 then 64 else if k = 2 then 32 else if k = 4 then 66 else if k = 5 then 67 else 0

/-- The key type that serves a command (R196). -/
def Cmd.ktype (c : Cmd) : Nat :=
  if c.opc = 2 then (if c.alg = 1 then 1 else 2)
  else if c.opc = 3 ∨ c.opc = 4 then 2 else if c.opc = 5 then 3 else if c.opc = 6 then 4 else 5

/-- The OPS bit that a command needs (R196). -/
def Cmd.opsBit (c : Cmd) : Nat :=
  if c.opc = 2 then b2n c.decrypt
  else if c.opc = 3 then 2 else if c.opc = 4 then 3 else if c.opc = 5 then 6 else if c.opc = 6 then 4 else 5

/-! ### Images in the flash (R104 to R107) -/

/-- A byte of the flash: one that nothing has written reads as erased (log entry 8). -/
def State.flashRead (s : State) (a n : Nat) : List Byte := (List.range n).map (fun i => tabGet 0xFF s.flash (a + i))

/-- BODY_LEN of an image's header, and whether it is in range (R104). -/
def imgBody (b : List Byte) : Nat := bytesAt b 0x10 4
def bodyOk (n : Nat) : Bool := 4 ≤ n && n ≤ 4193792 && n % 4 = 0

/-- The place of a slot in the flash, slot B where `b`. -/
def slotBase (b : Bool) : Nat := if b then 0x400000 else 0

/-- The length of the image in a slot, as far as its header says. -/
def State.slotLength (s : State) (b : Bool) : Nat :=
  let h := s.flashRead (slotBase b) 0x14
  if bytesAt h 0 4 = 0x414D4E53 ∧ bodyOk (imgBody h) then 512 + imgBody h else 512

/-- The image in a slot. -/
def State.slotImage (s : State) (b : Bool) : List Byte := s.flashRead (slotBase b) (s.slotLength b)

/-- Whether the ROM has copied the image that it is at, at the 50 MB/s of the flash, and verifies it (R105, R107; log entry 110). -/
def State.verifying (s : State) : Bool :=
  match s.snima.bootSlots with
  | b :: _ => s.fld .gctlBoot 2 0 = 1 && !s.locked && nsPassed s.snima.loadAt s.clock (20 * s.slotLength b)
  | [] => false

end Sys2Proof.Machine
end

