-- ==== Sys2Proof/Machine/Flags.lean ====
section
/-! DEFINITION. The program checks that a command's own words decide (R165, R168, R170, R174, R188, R192 to R194, R199 to
R225): flags, reserved fields, ranges, zones and alignment, in the order of R188. -/

namespace Sys2Proof.Machine

/-- What a program check answers: CODE and DETAIL. -/
abbrev Check := Option (Nat × Nat)

/-- The first check of a list that fails. -/
def firstFail : List (Bool × Nat × Nat) → Check
  | [] => none
  | (bad, c, d) :: r => if bad then some (c, d) else firstFail r

/-- A range that passes 2^64 - 1 (R193). -/
def overflows (a n : Nat) : Bool := 2 ^ 64 < a + n

/-- What a command writes to DST (R193). -/
def Cmd.outLen (h c : Cmd) : Nat :=
  if h.opc = 2 ∧ h.alg = 4 then (if h.decrypt then c.count - 8 else (c.count + 7) / 8 * 8 + 8)
  else if h.opc = 3 then c.count + 32
  else if h.opc = 4 then c.count - 32
  else if h.opc = 5 then Algo.digestLen h.mod
  else if h.opc = 6 then 132
  else if h.opc = 0x0B then 16
  else if h.opc = 0x26 then 32
  else if h.opc = 9 then c.count
  else c.count

/-- The MOD that an opcode refuses (R192, R199, R206, R207, R211). -/
def modBad (h c : Cmd) (cont x8 : Bool) : Bool :=
  if cont then c.mod ≠ 0
  else if h.opc = 2 then !(1 ≤ c.alg && c.alg ≤ 4) || 64 ≤ c.mod || (c.mod.testBit 5 != (c.alg == 2))
  else if h.opc = 5 then !(1 ≤ c.mod && c.mod ≤ 8)
  else if h.opc = 6 ∨ h.opc = 7 then 2 ≤ c.mod
  else if h.opc = 0x0A then 2 ≤ c.mod || (c.mod = 1 && x8)
  else c.mod ≠ 0

/-- The zone codes that an opcode refuses though valid, or that it reserves (R192, R211). -/
def zoneBad (h c : Cmd) : Bool :=
  (!usesSrc h.opc && c.zs ≠ 0)
  || ((!usesDst h.opc || (h.opc = 5 && c.join)) && c.zd ≠ 0)
  || (h.opc = 0x0A && ((zoneOk c.zs && 3 ≤ c.zs) || (zoneOk c.zd && c.zd < 4)))

/-- The COUNT that an opcode refuses with CHECK_FIELD (R192, R200, R205, R207, R211). -/
def countBad (h c : Cmd) (mdts : Nat) : Bool :=
  if h.opc = 2 ∧ h.alg = 4 then (if h.decrypt then c.count < 16 || 4104 < c.count else c.count < 1 || 4096 < c.count)
  else if h.opc = 3 then c.count < 1 || 4096 < c.count
  else if h.opc = 4 then c.count < 33 || 4128 < c.count
  else if h.opc = 6 ∨ h.opc = 7 then h.mod = 1 && c.count ≠ 64
  else if h.opc = 0x0A then mdts ≠ 0 && 4096 * 2 ^ mdts < c.count
  else if 0x0B ≤ h.opc then c.count ≠ 0
  else false

/-- The opcodes that take a pattern (R194); the others reserve AUX. -/
def patterned (o : Nat) : Bool := o = 1 || o = 2 || o = 5 || o = 8 || o = 9

/-- AUX out of range (R194). -/
def auxBad (h c : Cmd) : Bool :=
  if patterned h.opc then
    fieldOf 29 12 c.aux ≠ 0 || c.pside = 3 || (c.pside = 0 && c.pidx ≠ 0)
    || (h.opc = 8 && c.pside = 1) || (h.opc = 5 && c.pside = 2) || (h.opc = 2 && h.alg = 4 && c.pside ≠ 0)
  else c.aux ≠ 0

/-- SRC reserved, or its linear range past 2^64 - 1. -/
def srcBad (h c : Cmd) : Bool :=
  if !usesSrc h.opc then c.src ≠ 0
  else (!patterned h.opc || c.pside ≠ 1) && overflows c.src (if h.opc = 0x0A then 64 else c.count)

/-- DST reserved, or its range past 2^64 - 1 or, for NVME, past the Central Store. -/
def dstBad (h c : Cmd) : Bool :=
  if !usesDst h.opc || (h.opc = 5 && c.join) then c.dst ≠ 0
  else if c.dry then false
  else if h.opc = 0x0A then !inStore c.dst c.count
  else (!patterned h.opc || c.pside ≠ 2) && overflows c.dst (h.outLen c)

/-- PARAM reserved or out of range. -/
def paramBad (h c : Cmd) (cont : Bool) : Bool :=
  if cont then c.param ≠ 0
  else match h.opc with
    | 0x02 => if c.alg = 4 then c.param ≠ 0 else c.alg = 2 && overflows c.param 32
    | 0x03 | 0x04 | 0x08 | 0x24 | 0x26 => false
    | 0x07 => overflows c.param 132
    | 0x0A => c.count ≤ 8192 && c.param ≠ 0
    | 0x21 => fieldOf 63 17 c.param ≠ 0 || (fieldOf 15 8 c.param &&& (255 - fieldOf 7 0 c.param)) ≠ 0
    | 0x22 => fieldOf 63 9 c.param ≠ 0
    | 0x23 => fieldOf 63 8 c.param ≠ 0
    | _ => c.param ≠ 0

/-- PARAM2 reserved or out of range. -/
def param2Bad (h c : Cmd) (cont : Bool) (pairs : Option Nat) : Bool :=
  if cont then c.param2 ≠ 0
  else match h.opc with
    | 0x02 => if c.alg = 3 then false
              else if c.alg = 2 then fieldOf 63 17 c.param2 ≠ 0 || (c.decrypt && c.param2.testBit 16) else c.param2 ≠ 0
    | 0x0A => fieldOf 31 9 c.param2 ≠ 0 || (match pairs with | some n => n < fieldOf 8 0 c.param2 | none => false)
    | 0x20 | 0x21 => false
    | 0x22 => fieldOf 63 32 c.param2 ≠ 0
    | 0x24 => fieldOf 31 16 c.param2 ≠ 0 || fieldOf 63 33 c.param2 ≠ 0
    | 0x26 => fieldOf 63 1 c.param2 ≠ 0
    | _ => c.param2 ≠ 0

/-- Flags that rules other than R168 refuse (R170, R174, R203, R217, R218). -/
def flgBad (h c : Cmd) : Bool :=
  (c.dry && h.opc ≠ 1 && h.opc ≠ 2) || (c.join && h.opc = 2 && h.alg = 4) || ((h.opc = 0x20 || h.opc = 0x21) && !c.next)

/-- What the checks need from outside the command. -/
structure CheckCtx where
  sessions : Nat
  session : Nat
  x8 : Bool
  mdts : Nat
  pairs : Option Nat

/-- Checks 1 to 6 of R188 on a command `c` whose chain's head is `h`; `cont` says that a member is expected. -/
def checkWords (k : CheckCtx) (h c : Cmd) (cont : Bool) : Check :=
  firstFail [
    (!c.own, 0x11, 0),
    (!opcKnown c.opc, 0x10, 0),
    (c.flg.testBit 6 || c.flg.testBit 7, 0x12, 1),
    ((c.join && !joinable c.opc && c.opc ≠ 0x0F) || (c.join && (c.next || c.pause || c.rpt || c.lenok))
      || (cont != (c.opc == 0x0F)), 0x15, 1),
    (flgBad h c, 0x12, 0x01),
    (modBad h c cont k.x8, 0x12, 0x02),
    (zoneBad h c, 0x12, 0x03),
    (countBad h c k.mdts, 0x12, 0x04),
    (srcBad h c, 0x12, 0x08),
    (dstBad h c, 0x12, 0x10),
    (c.sessRsv ≠ 0 || (if cont || !h.keyed then c.sess ≠ 0 else k.sessions ≤ k.session), 0x12, 0x18),
    (auxBad h c, 0x12, 0x1C),
    (paramBad h c cont, 0x12, 0x20),
    (param2Bad h c cont k.pairs, 0x12, 0x28),
    ((usesSrc h.opc && !zoneOk c.zs) || (usesDst h.opc && !(h.opc = 5 && c.join) && !c.dry && !zoneOk c.zd), 0x14, 3),
    ((h.opc = 2 && h.alg = 1 && (c.count = 0 || c.count % 16 ≠ 0))
      || (h.opc = 2 && h.alg = 4 && h.decrypt && c.count % 8 ≠ 0), 0x13, 0x04),
    (h.opc = 0x0A && c.src % 64 ≠ 0, 0x13, 0x08),
    ((h.opc = 0x0A && c.dst % 4096 ≠ 0) || (h.opc = 0x0B && c.dst % 16 ≠ 0) || (h.opc = 0x26 && c.dst % 32 ≠ 0), 0x13, 0x10),
    (!cont && ((h.opc = 2 && h.alg = 2 && c.param % 64 ≠ 0) || (h.opc = 0x0A && c.param % 8 ≠ 0)), 0x13, 0x20),
    ((h.opc = 0x20 || h.opc = 0x21) && c.param2 % 64 ≠ 0, 0x13, 0x28)]

/-- RESID of a command that ends with a program check: its COUNT, or 0 where the opcode reserves it (R188). -/
def checkResid (c : Cmd) : Nat := if c.opc ≤ 0x0A ∨ c.opc = 0x0F ∨ ¬ opcKnown c.opc then c.count else 0

end Sys2Proof.Machine
end

