-- ==== Sys2Proof/Machine/Session.lean ====
section
/-! DEFINITION. Keys and sessions in the data plane: the DRBG (R271, R272), the key cache, its fills and its counts (R113 to
R116, R268 to R270), and the start of a command up to its execution (R162, R188). -/

namespace Sys2Proof.Machine

/-! ### The DRBG -/

/-- Whether the DRBG is in rotation: neither under a known-answer test nor out since it failed one (R103). -/
def State.drbgIn (s : State) : Bool := !s.crypto.drbgOut && s.snima.kats.all (·.1 ≠ 3)

/-- Whether an instance may give output: in rotation, seeded since the last entropy failure, and a reseed, where one is due, can be made
(R103, R271, R272). -/
def State.drbgReady (s : State) (i : Nat) : Bool :=
  let d := tabGet drbg0 s.crypto.drbg i
  s.drbgIn && d.seeded && ((d.requests < 2 ^ 16 && !usPassed d.seedTime s.clock 1000000) || s.bit .anaCal 4)

/-- An output of the entropy source: SHA-384 of a run of 1,024 raw bits (R402). -/
def entropyOut (i n k : Nat) : List Byte := Algo.hash 2 (Config.rawBits i n k)

/-- Instance `i` is seeded with one output of the entropy source (R271, R402): the first time it is instantiated, with the first 128 bits
of the next output as nonce and its number and the part's NODE as personalisation string, later it is reseeded. -/
def State.seeding (s : State) (i : Nat) : Drbg :=
  let d := tabGet drbg0 s.crypto.drbg i
  let e := entropyOut i d.seeds 0
  { seeded := true, requests := 0, seedTime := s.clock, seeds := d.seeds + 1
    work := if d.work.key = [] then Algo.drbgInstantiate e ((entropyOut i d.seeds 1).take 16) (natLe 1 i ++ natLe 4 s.vault.node)
            else d.work.reseeded e }

/-- An output of an instance, counted as one request; a reseed that is due completes first (R271, R276). -/
def State.draw (s : State) (i len : Nat) : List Byte × State :=
  let d := tabGet drbg0 s.crypto.drbg i
  let d := if 2 ^ 16 ≤ d.requests || usPassed d.seedTime s.clock 1000000 then s.seeding i else d
  let (out, w) := d.work.generate len
  (out, { s with crypto := { s.crypto with drbg := tabSet drbg0 s.crypto.drbg i { d with requests := d.requests + 1, work := w } } })

/-- What the draws of an instance come to once 128 have been rejected in a row: bytes the spec does not bound by a number of draws (log
entry 96). -/
def State.lateDraw (s : State) (i len : Nat) : List Byte :=
  let d := tabGet drbg0 s.crypto.drbg i
  Config.late i d.seeds d.requests len

/-- Two halves of 32 bytes that differ, from 64 bytes: any such pair is some bytes' (R261). -/
def distinctHalves (b : List Byte) : List Byte :=
  let x := b.take 32
  let y := b.drop 32
  x ++ (if x = y then y.take 31 ++ [(y.drop 31).headD 0 + 1] else y)

/-- A key of `len` bytes, drawn again until it is good (R120, R261): at most `n` times, then some good bytes. -/
def State.drawGood (s : State) (inst len : Nat) (good : List Byte → Bool) : Nat → List Byte × State
  | 0 => (if len = 64 then distinctHalves (s.lateDraw inst 64) else s.lateDraw inst len, s)
  | n + 1 =>
    let (k, t) := s.draw inst len
    if good k then (k, t) else t.drawGood inst len good n

/-- A scalar of P-521 by the rejection method of FIPS 186-5, each candidate a request of 66 bytes (R120, R207, R271): at most `n`
candidates, then some scalar (log entry 96). -/
def State.drawScalarIn (s : State) (inst : Nat) : Nat → List Byte × State
  | 0 => (Algo.natBe 66 (Algo.beNat (s.lateDraw inst 66) % (Algo.orderN - 1) + 1), s)
  | n + 1 =>
    let (k, t) := s.draw inst 66
    match Algo.scalarFrom k with
    | some x => (x, t)
    | none => t.drawScalarIn inst n

def State.drawScalar (s : State) (inst : Nat) : List Byte × State := s.drawScalarIn inst 128

/-- A signature whose secret an instance gives, drawn again where a half comes out as 0 (R207, R256): at most `n` times, then some
halves (log entry 96). -/
def State.signIn (s : State) (inst : Nat) (scalar digest : List Byte) : Nat → List Byte × State
  | 0 => (s.lateDraw inst 132, s)
  | n + 1 =>
    let (k, t) := s.drawScalar inst
    let x := Algo.ecdsaSign scalar digest k
    if Algo.sigOutOfRange (x.take 66) || Algo.sigOutOfRange (x.drop 66) then t.signIn inst scalar digest n else (x, t)

/-! ### Keys -/

/-- DRK's bytes, where the vault holds it (R108). -/
def State.drk (s : State) : Option (List Byte) := s.vault.drk.map (fun n => Config.install "DRK" n 32)

/-- DKEK and FKEK (R108). -/
def State.dkek (s : State) : Option (List Byte) := s.drk.map (fun k => Algo.hkdf k [] (Algo.ascii ['d', 'l', 'v', '-', 'd', 'k', 'e', 'k']) 32)
def State.fkek (s : State) : Option (List Byte) := s.vault.frk.map (fun k => Algo.hkdf k [] (Algo.ascii ['d', 'l', 'v', '-', 'f', 'k', 'e', 'k']) 32)

/-- The context key under a key-encryption key (R108, R112). -/
def contextKey (kek binding : List Byte) : List Byte := 
  Algo.kdf256 kek (Algo.ascii ['d', 'l', 'v', '-', 's', 'e', 's', 's']) binding

/-- Whether a key of a type may be used (R111, R261, R267). -/
def keyOk (ktype : Nat) (k : List Byte) : Bool :=
  k.length = plainLen ktype &&
  (if ktype = 1 then k.take 32 ≠ k.drop 32 else if ktype = 4 then Algo.scalarOk k
   else if ktype = 5 then Algo.pointOk k else true)

/-- The key of a context unwrapped under DKEK or FKEK, none where the wrap or the key fails (R12, R268). -/
def unwrapCtx (kek : Option (List Byte)) (i : Nat) (b : List Byte) : Option (List Byte) :=
  match kek with
  | none => none
  | some k =>
    match Algo.kwpUnwrap (contextKey k (bindingOf i b)) (ctxKey b) with
    | some p => if keyOk (ctxKtype b) p then some p else none
    | none => none

/-- A context's first checks in R113. -/
def ctxShapeOk (b : List Byte) : Bool :=
  1 ≤ ctxKtype b && ctxKtype b ≤ 5 && ctxWrap b = 0 && ctxKlen b = klenOf (ctxKtype b)

/-! ### The key cache -/

/-- The live entry of a session and epoch (R15, R113). -/
def State.cached (s : State) (i ep : Nat) : Option CacheEntry :=
  s.crypto.cache.find? (fun e => e.sess = i && e.epoch = ep && e.keyed && e.live)

/-- Counts of a session and epoch not yet in USED: live, count-only and listed (R115). -/
def State.pendingUnits (s : State) (i ep : Nat) : Nat :=
  ((s.crypto.cache.filter (fun e => e.sess = i && e.epoch = ep)).map (·.count)).sum
  + ((s.crypto.listed.filter (fun e => e.sess = i && e.epoch = ep)).map (·.count)).sum

/-- 4 KiB units (R110, R115). -/
def unitsOf (n : Nat) : Nat := (n + 4095) / 4096

/-- A command takes an entry: it is held, counts the command's units, and is the one used last (R115, R116). -/
def State.holdEntry (s : State) (c i ep units : Nat) : State :=
  match s.cached i ep with
  | none => s
  | some e =>
    { s with crypto := { s.crypto with
        cache := s.crypto.cache.erase e ++ [{ e with count := e.count + units, holders := e.holders ++ [c] }] } }

/-! ### The start of a command -/

/-- The whole COUNT of a command or chain (R169). -/
def Chan.total (ch : Chan) : Nat := (ch.chain.map (·.cmd.count)).sum

/-- RESID of a check failure (R188). -/
def Chan.failResid (ch : Chan) : Nat := (ch.chain.map (fun m => checkResid m.cmd)).sum

/-- The bytes of the stream that the part carries (R169, R173): for XTS, whole data units only (R173). -/
def Chan.carriedTotal (ch : Chan) : Nat := (ch.chain.map (·.carried)).sum

/-- The checks of a transform that need the context or the chain's total (R188, item 2). -/
def streamChecks (ch : Chan) (b : List Byte) : Check :=
  let h := ch.head.cmd
  let t := ch.total
  if h.opc ≠ 2 then none
  else if h.alg = 1 then
    firstFail [(t % ctxDu b ≠ 0, 0x13, 0x04), (2 ^ 64 < h.param + t / ctxDu b, 0x12, 0x20)]
  else if h.alg = 2 then
    let aad := fieldOf 15 0 h.param2
    firstFail [(t < aad, 0x12, 0x28), (2 ^ 36 - 32 < t - aad, 0x12, 0x04)]
  else none

/-- The zones of a command or chain that the policy covers (R196); under DRY the part does not use ZD (R170). -/
def policyZones (ch : Chan) : List Nat :=
  let h := ch.head.cmd
  if h.opc = 2 then ch.chain.flatMap (fun m => m.cmd.zs :: (if m.cmd.dry then [] else [m.cmd.zd]))
  else if h.opc = 5 then ch.chain.map (·.cmd.zs) ++ [ch.final.cmd.zd]
  else if h.opc = 7 then [h.zs] else [h.zs, h.zd]

/-- R114: whether the policy allows the command. -/
def State.policyAllows (s : State) (ch : Chan) (i : Nat) (b : List Byte) : Bool :=
  let h := ch.head.cmd
  let pol := ctxPol b
  let lim := ctxLimit b
  let na := ctxNotAfter b
  let units := (ch.total + ctxDu b - 1) / ctxDu b
  pol.testBit h.opsBit && ctxKtype b = h.ktype && (h.opc ≠ 2 || pol.testBit (8 + h.alg))
  && (policyZones ch).all (fun z => (ctxZones b).testBit z)
  && (h.opc ≠ 2 || h.alg ≠ 1 || (ctxDuLo b ≤ h.param && h.param + units ≤ ctxDuHi b + 1))
  && (na = 0 || s.time.now < na)
  && (lim = 0 || ctxUsed b + s.pendingUnits i (ctxEpoch b) + unitsOf ch.total ≤ lim)

/-- The checks of R188 after the key is at hand, and the command's hold on its entry: the command waits for its own row, or
has failed. -/
def State.keyReady (s : State) (c : Nat) (b : List Byte) : State :=
  let ch := s.chan c
  let i := s.sessionOf c ch.head.cmd
  match streamChecks ch b with
  | some (code, d) => s.checkFail c code d ch.failResid 0
  | none =>
    if s.policyAllows ch i b then
      let t := s.holdEntry c i (ctxEpoch b) (unitsOf ch.total)
      t.setChan c { t.chan c with stage := .run, session := some (i, ctxEpoch b), ctx := b }
    else s.checkFail c 0x33 0 ch.failResid 0

/-- SESSION_INVALID (R113). -/
def State.sessionInvalid (s : State) (c : Nat) : State := s.checkFail c 0x32 0 (s.chan c).failResid 0

/-- A read of the store for a channel's start: the bytes, or the bus error (R186, R281). -/
def State.startRead (s : State) (a n : Nat) : Except Failure (List Byte) × State :=
  let f := fun cause acode adr => ({ cause := cause, acode := acode, zone := 0, dir := 1, tbl := false, addr := adr, off := 0, fetch := true, ord := 0 } : Failure)
  if !inStore a n then (.error (f 5 0x20 a), s)
  else if s.underTest a then (.error (f 8 0x20 a), s)
  else
    let (d, bad, t) := s.storeRead reqCp a n
    match bad with
    | some x => (.error (f 6 0x22 (x / 64 * 64)), t)
    | none => (.ok d, t)

/-- The session check of R113 at a command's start: hit, miss, or failure. -/
def State.sessionStart (s : State) (c : Nat) : State :=
  let i := s.sessionOf c (s.chan c).head.cmd
  match s.startRead (sessAddr i) 128 with
  | (.error f, t) => t.cpError c f true
  | (.ok b, t) =>
    if !ctxShapeOk b then t.sessionInvalid c
    else match t.cached i (ctxEpoch b) with
      | some e => if e.binding = bindingOf i b then t.keyReady c b else t.sessionInvalid c
      | none =>
        if tabGet 0 t.vault.gens i ≠ ctxEpoch b ∨ vaultGen i ∈ t.vault.badWords then t.sessionInvalid c
        else
          let ch := t.chan c
          let t := t.setChan c { ch with stage := .keyWait, ctx := b }
          if t.crypto.fills.any (fun f => f.sess = i && f.epoch = ctxEpoch b) then
            { t with crypto := { t.crypto with fills := t.crypto.fills.map (fun f =>
                if f.sess = i ∧ f.epoch = ctxEpoch b then { f with waiters := f.waiters ++ [(c, b)] } else f) } }
          else
            { t with crypto := { t.crypto with fills := t.crypto.fills ++ [⟨i, ctxEpoch b, b, none, [(c, b)], false⟩] } }

/-- A command or chain whose words passed their checks begins (R182: FETCH to ACTIVE): the loop guard counts it (R189), and a
keyed one checks its session. -/
def State.startExec (s : State) (c : Nat) : State :=
  let ch := s.chan c
  let t := (s.addFld .chnIcount 63 32 ch.chain.length c).setRg .chnCur ch.head.addr c
  let t := t.setChan c { ch with phase := .active, stage := .run, pos := 0, stream := stream0, cpStep := 0, ended := false,
                                 condNext := false }
  if ch.head.cmd.keyed then t.sessionStart c else t

/-- The drive of an NVME command (R211). -/
def Cmd.drive (h : Cmd) : Nat := 2 * (h.zd - 4) + h.mod % 2

/-- What the checks of a command need from outside it (R97, R99, R164, R211): a ZD that names no back-end port has no x8 port. -/
def State.checkCtx (s : State) (c : Nat) (h : Cmd) : CheckCtx :=
  let d := s.drive h.drive
  { sessions := 2 ^ s.snima.layout.sessLog2, session := s.sessionOf c h
    x8 := decide (4 ≤ h.zd ∧ h.zd ≤ 7) && !s.bifurcated (h.zd - 4)
    mdts := if d.attached then d.info.mdts else 0, pairs := if d.attached then some d.info.granted else none }

/-- The Pattern Table entry that a command names, read once (R241): none for a check failure. -/
def State.patternRead (s : State) (p : Nat) : Except (Option Failure) Pattern × State :=
  if s.snima.layout.patCnt ≤ p then (.error none, s)
  else match s.startRead (s.snima.layout.pat + p * 64) 64 with
    | (.error f, t) => (.error (some f), t)
    | (.ok b, t) => match parsePattern b with
      | some x => (.ok x, t)
      | none => (.error none, t)

/-- A command's first word is accepted (R26): CMD_START is stamped. -/
def State.cmdStart (s : State) (c : Nat) (x : Cmd) (addr : Nat) : State :=
  let ch := s.chan c
  let (y, t) := s.stamp (cpDomain c) (ch.cause + 1)
  let r : LogRecord := ⟨y, 0x02, x.opc, c, x.count, addr⟩
  let t := if t.bit .logEn 2 || (t.bit .logEn 1 && ch.first) then t.logKept r else t
  t.setChan c { ch with cause := y.time, first := false }

/-- A further member of a chain that has failed a check is read for its COUNT, since RESID totals the chain (R169, R188); at the chain's
end, or at a command that is none of it, the chain ends with the check's code. -/
def State.memberCounted (s : State) (c addr : Nat) (x : Cmd) (code detail pos : Nat) : State :=
  let ch := s.chan c
  let mine := x.opc = 0x0F ∧ x.own
  let t := if mine then s.setChan c { ch with chain := ch.chain ++ [⟨addr, x, none⟩] } else s
  if mine ∧ x.join then (t.setRg .chnCur ((addr + 0x40) % 2 ^ 64) c).progressed c
  else
    let u := match ch.chain[pos]? with | some m => t.setRg .chnCur m.addr c | none => t
    (u.setChan c { u.chan c with checkBad := none }).checkFail c code detail (t.chan c).failResid pos

/-- A command has been read at `addr` (R162, R188): a head or a member of a chain. It is checked with its pattern, and the
next member is read, or the command begins. -/
def State.commandRead (s : State) (c : Nat) (bytes : List Byte) : State :=
  let addr := s.rg .chnCur c
  let x := parseCmd bytes
  let ch := s.chan c
  let cont := ch.chain ≠ []
  if let some (code, d, p) := ch.checkBad then s.memberCounted c addr x code d p
  else
  let s := if cont ∨ ¬ x.own then s else s.cmdStart c x addr
  let ch := s.chan c
  let h := if cont then ch.head.cmd else x
  let chain := ch.chain ++ [⟨addr, x, none⟩]
  let withCmd := s.setChan c { ch with chain := chain, pos := ch.chain.length }
  let fail := fun (t : State) (code d : Nat) =>
    if code = 0x11 then
      (t.setChan c { t.chan c with phase := .checked, wrote := true }).endCmd c code d (t.chan c).failResid
    else if x.join ∧ code ≠ 0x10 ∧ (cont ∧ x.opc = 0x0F ∨ ¬ cont ∧ joinable x.opc) then
      ((t.setChan c { t.chan c with checkBad := some (code, d, ch.chain.length) }).setRg .chnCur ((addr + 0x40) % 2 ^ 64) c).progressed c
    else t.checkFail c code d (t.chan c).failResid ch.chain.length
  match checkWords (s.checkCtx c h) h x cont with
  | some (code, d) => fail withCmd code d
  | none =>
    let patterned := x.pside ≠ 0 && (h.opc = 1 || h.opc = 2 || h.opc = 5 || h.opc = 8 || h.opc = 9)
    let go := fun (t : State) (p : Option Pattern) =>
      let t := t.setChan c { t.chan c with chain := ch.chain ++ [⟨addr, x, p⟩] }
      if x.join then
        ((t.setRg .chnCur ((addr + 0x40) % 2 ^ 64) c)).progressed c
      else t.startExec c
    if patterned then
      match withCmd.patternRead x.pidx with
      | (.error (some f), t) => t.cpError c f true
      | (.error none, t) => fail t 0x17 0x1C
      | (.ok p, t) => go t (some p)
    else go withCmd none

/-! ### Fills (R268, R269) -/

/-- Whether a fill may start: a fill engine is free and the cache has, or will have, a place (R115, R116). -/
def State.fillsRunning (s : State) : Nat := (s.crypto.fills.filter (fun f => f.engine.isSome)).length

/-- The first waiting fill takes the lowest free engine (R268). -/
def State.fillStart (s : State) : State :=
  match s.crypto.fills.find? (fun f => f.engine.isNone),
        (List.range 4).find? (fun n => s.crypto.fills.all (fun f => f.engine ≠ some n)) with
  | some f, some n =>
    if s.crypto.cache.length + s.fillsRunning < 65536 then
      { s with crypto := { s.crypto with fills := s.crypto.fills.map (fun g =>
          if g.sess = f.sess ∧ g.epoch = f.epoch ∧ g.engine = none then { g with engine := some n } else g) } }
    else s
  | _, _ => s

/-- A fill on engine `n` ends (R268, R269): every command that waits on it proceeds under the entry, or ends SESSION_INVALID, the
lower channel first (R159). -/
def State.fillComplete (s : State) (n : Nat) : State :=
  match s.crypto.fills.find? (fun f => f.engine = some n) with
  | none => s
  | some f =>
    let t := { s with crypto := { s.crypto with fills := s.crypto.fills.erase f } }
    let waiters := byChan f.waiters
    match unwrapCtx t.dkek f.sess f.ctx with
    | none => waiters.foldl (fun t w => (t.progressed w.1).sessionInvalid w.1) t
    | some k =>
      let e : CacheEntry := ⟨f.sess, f.epoch, bindingOf f.sess f.ctx, ctxKtype f.ctx, k, 0, true, true, []⟩
      let t := { t with crypto := { t.crypto with cache := t.crypto.cache ++ [e] } }
      let t := waiters.foldl (fun t w =>
        let t := t.progressed w.1
        if bindingOf f.sess w.2 = e.binding then t.keyReady w.1 w.2 else t.sessionInvalid w.1) t
      if f.revoked then
        { t with crypto := { t.crypto with cache := t.crypto.cache.map (fun x =>
            if x.sess = f.sess ∧ x.epoch = f.epoch then { x with live := false } else x) } }
      else t

/-- The key that a running command holds (R116). -/
def State.keyOf (s : State) (c : Nat) : List Byte :=
  match (s.chan c).session with
  | some (i, ep) =>
    ((s.crypto.cache.find? (fun e => e.sess = i && e.epoch = ep && c ∈ e.holders)).map (·.key)).getD []
  | none => []

/-- The least recently used entry that no command holds leaves the cache (R115, R116): count-only entries first; a count goes
to the write-back list, and with the list full eviction waits. -/
def State.evict (s : State) : State :=
  let k := s.crypto
  match (k.cache.find? (fun e => !e.keyed)).or (k.cache.find? (fun e => e.holders.isEmpty)) with
  | none => s
  | some e =>
    if e.count = 0 then { s with crypto := { k with cache := k.cache.erase e } }
    else if k.listed.length < 256 then
      { s with crypto := { k with cache := k.cache.erase e, listed := k.listed ++ [⟨e.sess, e.epoch, e.count⟩] } }
    else s

/-- Every key of the cache is zeroised (R116, R339): entries with a count stay as count-only entries. -/
def State.zeroiseCache (s : State) : State :=
  { s with crypto := { s.crypto with
      cache := (s.crypto.cache.filter (fun e => e.count ≠ 0)).map
        (fun e => { e with keyed := false, live := false, key := [], holders := [] })
      fills := [] } }

end Sys2Proof.Machine
end

