-- ==== Sys2Proof/Machine/Mover.lean ====
section
/-! DEFINITION. The movers' transfers cut into bursts (R227 to R245), what the inline units make of a stream (R258 to R266),
the arbiters, credits and the Tether that bursts pass (R246, R247, R287 to R294), and a transfer's failure (R248 to R252). -/

namespace Sys2Proof.Machine

/-! ### What a stream's output is -/

/-- The opcodes whose output keeps the stream's places: MOVE and XFORM but for KWP (R169). -/
def Cmd.inPlace (h : Cmd) : Bool := h.opc = 1 || (h.opc = 2 && h.alg ≠ 4)

/-- The bytes of output that a stream command or chain issues in all (R173, R200 to R207). -/
def Chan.outTotal (ch : Chan) : Nat :=
  let h := ch.head.cmd
  if h.opc = 2 ∧ h.alg = 1 then ch.carriedTotal / ctxDu ch.ctx * ctxDu ch.ctx
  else if h.inPlace then ch.carriedTotal
  else if h.opc = 3 then h.count + 32
  else if h.opc = 6 then 132
  else if h.opc = 7 ∨ h.opc = 9 then 0
  else ch.stream.result.length

/-- The additional data of a sealed object (R205). -/
def sealAad (len label sess : Nat) : List Byte := natLe 4 len ++ natLe 8 label ++ natLe 4 sess

/-- The output formed from the source bytes that have passed (R258, R263, R265): XTS by whole 16-byte blocks (log entry
15), GCM and CTR byte for byte, SEAL with its header before and its tag after, the others only once formed. -/
def Chan.output (ch : Chan) (key : List Byte) : List Byte :=
  let h := ch.head.cmd
  let x := ch.stream
  let n := x.input.length
  if h.opc = 2 ∧ h.alg = 1 then
    (Algo.xts (!h.decrypt) key (ctxDu ch.ctx) h.param (x.input.take (n / 16 * 16))).take ch.outTotal
  else if h.opc = 2 ∧ h.alg = 2 then
    let a := fieldOf 15 0 h.param2
    x.input.take a ++ Algo.gcm key x.iv (x.input.drop a)
  else if h.opc = 2 ∧ h.alg = 3 then Algo.ctr key (natLe 8 h.param ++ natLe 8 h.param2) x.input
  else if h.opc = 3 then
    let aad := sealAad h.count h.param ((ch.session.map (·.1)).getD 0)
    let c := Algo.gcm key x.iv x.input
    x.iv ++ natLe 4 h.count ++ c ++ (if n = h.count then Algo.gcmTag key x.iv aad c else [])
  else x.result

/-- The destination of output byte `q`: its zone and address, whether its command is DRY (R169, R170), and how many bytes its
element and its command still have. -/
def State.outPlace (s : State) (ch : Chan) : List Member → Nat → Nat × Nat × Bool × Nat
  | [], q => (ch.final.cmd.zd, (ch.final.cmd.dst + q) % 2 ^ 64, false, 512)
  | m :: r, q =>
    if q < m.carried then
      (m.cmd.zd, s.sideAddr m.pattern (m.cmd.pside = 2) m.cmd.dst q, m.cmd.dry,
       min (m.carried - q) (match m.pattern with
         | some p => if m.cmd.pside = 2 then p.elem - q % p.elem else 512
         | none => 512))
    else s.outPlace ch r (q - m.carried)

/-- The destination of output byte `q` of a channel's command. -/
def State.outAt (s : State) (ch : Chan) (q : Nat) : Nat × Nat × Bool × Nat :=
  if ch.head.cmd.inPlace then s.outPlace ch ch.chain q
  else (ch.final.cmd.zd, (ch.final.cmd.dst + q) % 2 ^ 64, ch.final.cmd.dry, 512)

/-! ### A transfer's addresses and cuts -/

/-- The address of source byte `i`: a VERIFY's signature follows its message (R208). -/
def State.srcAddr (s : State) (t : Transfer) (i : Nat) : Nat :=
  if t.op = 7 ∧ t.count ≤ i then (t.fill.toNat + (i - t.count)) % 2 ^ 64
  else s.sideAddr t.pattern (t.pside = 1) t.src i

/-- The address of destination byte `i`, of a COMPARE the second operand's. -/
def State.dstAddr (s : State) (t : Transfer) (i : Nat) : Nat := s.sideAddr t.pattern (t.pside = 2) t.dst i

/-- The bytes left in an address's aligned 512-byte block. -/
def blockLeft (a : Nat) : Nat := 512 - a % 512

/-- The bytes left in the element of a patterned side. -/
def elemLeft (t : Transfer) (side i : Nat) : Nat :=
  match t.pattern with
  | some p => if t.pside = side then p.elem - i % p.elem else 512
  | none => 512

/-- Whether the transfer's destination shares its stream's places, so that it cuts the bursts too (R236). -/
def Transfer.cutsDst (t : Transfer) : Bool := !t.dry && t.place

def Transfer.reads (t : Transfer) : Bool := t.kind = .copy || t.kind = .compare || t.kind = .stream

/-- Whether an address lies in the register space or the Chime window, where accesses are of whole words (R198). -/
def inWords (z a : Nat) : Bool :=
  z = 0 && (match placeOf a with | .regs _ => true | .chime _ => true | _ => false)

/-- The length of the burst that begins at stream byte `i`, ascending (R236). -/
def State.cutLen (s : State) (t : Transfer) (i : Nat) : Nat :=
  let n := min 512 (t.total - i)
  let n := if t.op = 7 ∧ i < t.count then min n (t.count - i) else n
  let src := s.srcAddr t i
  let dst := s.dstAddr t i
  let own := min n (if t.reads then elemLeft t 1 i else n)
  let own := min own (if t.cutsDst then elemLeft t 2 i else own)
  let n := if t.reads then min own (blockLeft src) else own
  if t.cutsDst then min n (blockLeft dst) else n

/-- The first byte of the burst that ends before stream byte `hi`, descending (R244): the cuts are the same. -/
def cutLow (t : Transfer) (hi : Nat) : Nat :=
  hi - 1 - min (hi - 1) (min ((t.src + hi - 1) % 512) ((t.dst + hi - 1) % 512))

/-- Lines that bytes at these addresses lie in. -/
def linesOf (l : List Nat) : List Nat := (l.map (· / 64)).eraseDups

/-- The addresses that a burst reads on the side it is to read. -/
def State.burstReads (s : State) (t : Transfer) (b : Burst) : List Nat :=
  (List.range (b.hi - b.lo)).map (fun i => if b.side = 1 then s.dstAddr t (b.lo + i) else s.srcAddr t (b.lo + i))

/-- The zone that a burst reads. -/
def readZone (t : Transfer) (b : Burst) : Nat := if b.side = 1 then t.zd else t.zs

/-- Whether a burst writes, or will write, at an address of zone 0. -/
def State.burstWrites (s : State) (t : Transfer) (b : Burst) : List Nat :=
  if b.out ≠ [] then (if b.wz = 0 then b.out.map (·.1) else [])
  else if t.cutsDst ∧ t.kind ≠ .compare ∧ t.zd = 0 then (List.range (b.hi - b.lo)).map (fun i => s.dstAddr t (b.lo + i))
  else []

/-! ### Bursts move on -/

/-- The mover's set of bursts of its ACTIVE transfer changed. -/
def State.setActive (s : State) (m : Nat) (t : Transfer) : State := s.setMover m { s.mover m with active := some t }

/-- A burst replaced in a list. -/
def setBurst (l : List Burst) (b : Burst) : List Burst := l.map (fun x => if x.num = b.num then b else x)

/-- What an access of a mover fails with. -/
def failWith (cause acode zone dir addr off : Nat) : Failure := ⟨cause, acode, zone, dir, false, addr, off, false, 0⟩

/-- The failure that stands: the first in the order of issue (R249, R254). -/
def firstFailure (o : Option Failure) (f : Failure) : Failure :=
  match o with
  | some g => if f.ord < g.ord then f else g
  | none => f

/-- Whether a burst still answers once its transfer has failed: its write was issued, or its read before the access that failed
(R249). -/
def Burst.answers (b : Burst) (f : Failure) : Bool := b.stage = .writing || (b.stage = .reading && b.ord < f.ord)

/-- Everything a requester has at the arbiters for some bursts is withdrawn: requests, waiting reservations, grants, credits. -/
def State.dropBursts (s : State) (m : Nat) (l : List Burst) : State :=
  let mine := fun (n : Nat) => l.any (·.num = n)
  let t := { s with arb := { s.arb with
    presented := s.arb.presented.filter (fun r => r.row || !(r.req = m && mine r.burst))
    resvs := s.arb.resvs.filter (fun r => r.ask.isSome || !(r.req = m && mine r.burst))
    holder := s.arb.holder.filter (fun e => match e.2 with | some r => r.row || !(r.req = m && mine r.burst) | none => true) } }
  l.foldl (fun t b => t.giveCredits b.credits) t

/-- A beat of the ACTIVE transfer fails (R249): no further burst, and what is not yet written is discarded. -/
def State.failActive (s : State) (m : Nat) (f : Failure) : State :=
  match (s.mover m).active with
  | none => s
  | some t =>
    let g := firstFailure t.failed f
    (s.dropBursts m (t.bursts.filter (!·.answers g))).setActive m { t with failed := some g, bursts := t.bursts.filter (·.answers g) }

/-- A failing access in its place in the order of issue. -/
def State.failNow (s : State) (m : Nat) (f : Failure) : State :=
  let x := s.mover m
  (s.setMover m { x with nextOrd := x.nextOrd + 1 }).failActive m { f with ord := x.nextOrd }

/-- The place of a burst's failing beat in the command's stream. -/
def Transfer.offOf (t : Transfer) (i : Nat) : Nat := t.base + i

/-- The place in the stream of a burst's first byte written. -/
def Transfer.outOff (t : Transfer) (b : Burst) : Nat := if t.kind = .stream then b.wpos else t.offOf b.wpos

/-- A burst of the ACTIVE transfer, or of the one in the tracker, fails (R249, R250): it goes, the first failure stands, and only
writes already issued remain. A later member of the same chain that is ACTIVE issues nothing more either (R251). -/
def State.burstFails (s : State) (m : Nat) (tracked : Bool) (b : Burst) (f : Failure) : State :=
  let x := s.mover m
  match (if tracked then x.tracker else x.active) with
  | none => s
  | some t =>
    let g := firstFailure t.failed { f with ord := b.ord }
    let stays := fun (y : Burst) => y.answers g && y.num ≠ b.num
    let t' := { t with failed := some g, bursts := t.bursts.filter stays }
    let s := s.dropBursts m (t.bursts.filter (!stays ·))
    if tracked then
      let s := s.setMover m { s.mover m with tracker := some t' }
      match x.active with
      | some a => if t.chan.isSome && a.chan = t.chan then s.failActive m { f with ord := b.ord } else s
      | none => s
    else s.setMover m { s.mover m with active := some t' }

/-- A request is presented at a store arbiter, unless the requester already has one there (R287). -/
def State.present (s : State) (r : ArbReq) : Option State :=
  if s.arb.presented.any (fun x => x.seg = r.seg && x.req = r.req)
      || (match tabGet none s.arb.holder r.seg with | some x => x.req = r.req | none => false) then none
  else some { s with arb := { s.arb with presented := s.arb.presented ++ [r] } }

/-- The link of a burst's outstanding access, none in zone 0: that on which it was issued. -/
def Burst.on (b : Burst) : Option Nat := if b.stage = .reading ∨ b.stage = .writing then b.link else none

/-- The bytes of a COMPARE's second operand that a burst will read in the Central Store, which share its reservation (R293). -/
def State.secondReads (s : State) (t : Transfer) (b : Burst) : List Nat :=
  if t.kind = .compare ∧ t.zd = 0 then (List.range (b.hi - b.lo)).map (fun i => s.dstAddr t (b.lo + i)) else []

/-- The bursts that a mover has outstanding in its tracker. -/
def Mover.tracked (x : Mover) : Nat := (x.tracker.map (fun t => t.bursts.length)).getD 0

/-- The read requests of `n` bytes from `a` on a link, split to Max_Read_Request_Size (R237, R368); that of a root port is 512 (log entry
91). -/
def State.requestsFor (s : State) (k a n : Nat) : Nat :=
  let size := if k < 2 then clampTo 128 512 (s.port k).maxRead else 512
  ((a + n + 63) / 64 * 64 - a / 64 * 64 + size - 1) / size

/-- The ring reads outstanding on a link, by when they were issued, with their requests (R141, R144, R156). -/
def State.ringReads (s : State) (k : Nat) : List (Nat × Nat) :=
  let one := fun (e : Nat × Option Nat) => if e.2 = some k then [(e.1, 1)] else []
  s.sqs.flatMap (fun e => (match e.2.window with
      | some w => if w.link = some k then [(w.issued, (w.slots * 64 + 511) / 512)] else []
      | none => []) ++ e.2.tailReads.flatMap one)
    ++ s.cqs.flatMap (fun e => e.2.headReads.flatMap one)

/-- The non-posted requests outstanding on a link: reads of movers, reads and zero-length reads of channel processors, and ring
reads. -/
def State.readsOn (s : State) (k : Nat) : Nat :=
  (s.movers.map (fun e => ((e.2.tracker.toList ++ e.2.active.toList).map (fun t =>
      ((t.bursts.filter (fun b => b.stage = .reading && b.on = some k)).map (fun b =>
        s.requestsFor k ((s.burstReads t b).headD 0) (b.hi - b.lo))).sum)).sum)).sum
    + (s.chans.filter (fun e => decide (k ∈ e.2.tags))).length + ((s.ringReads k).map (·.2)).sum

/-- The non-posted requests that a link allows to be outstanding (R368). A root port has no 10-Bit Tag Requester Enable of which the
spec tells (log entry 91). -/
def State.tagLimit (s : State) (k : Nat) : Nat :=
  if s.bit .lnkStat 2 k then (if k < 2 then 1024 else 512)
  else if k < 2 ∧ (s.port k).tenBitTags then 1024
  else 256

/-- Whether a read of `n` requests may go out on a link (R368). -/
def State.tagFree (s : State) (n : Nat) : Option Nat → Bool
  | some k => s.readsOn k + n ≤ s.tagLimit k
  | none => true

/-- Whether a ring read that was asked for on a link at `since` has gone out: none before it is short of a tag (R368). -/
def State.ringOut (s : State) (since : Nat) : Option Nat → Bool
  | some k =>
    let l := s.ringReads k
    s.readsOn k ≤ s.tagLimit k + ((l.filter (fun e => since < e.1)).map (·.2)).sum
  | none => true

/-- A burst of the ACTIVE transfer is issued: it takes its place in the order of issue. -/
def State.issueBurst (s : State) (m : Nat) (b : Burst) : State :=
  let x := s.mover m
  s.setMover m { x with nextOrd := x.nextOrd + 1
                        active := x.active.map (fun t => { t with bursts := setBurst t.bursts { b with ord := x.nextOrd } }) }

/-- The request of a burst for its lines at the place that an address has now (R246). -/
def State.request (s : State) (m a lines : Nat) (b : Burst) (write : Bool) : ArbReq :=
  ⟨segOf (s.phys a), m, lines, b.num, write, false, some (s.pageOf (a / 4096))⟩

/-- One try to move a burst on: its read, once no earlier write of the transfer touches its lines (R239), or its write, in
burst order, the last one only once the tracker is empty (R229). A request that the Tether holds holds no credits (R247). -/
def State.tryBurst (s : State) (m : Nat) (t : Transfer) (earlier : List Burst) (b : Burst) : State :=
  let put := fun (s : State) (b : Burst) => s.setActive m { t with bursts := setBurst t.bursts b }
  if 8 ≤ earlier.length + (s.mover m).tracked then s
  else match b.stage with
  | .readWait | .readHeld =>
    let addrs := s.burstReads t b
    let z := readZone t b
    let a := addrs.headD 0
    let off := t.offOf b.lo
    if z = 0 then
      match placeOf a with
      | .store =>
        let lines := linesOf addrs
        if (earlier.flatMap (fun e => linesOf (s.burstWrites t e))).any (fun l => l ∈ lines)
            || (t.op = 3 && t.zd = 0 && !earlier.isEmpty) then s
        else if !s.tetherFits m lines.length then
          (if b.stage = .readHeld then s
           else put ((s.tetherHold m).giveCredits b.credits) { b with stage := .readHeld, credits := [] })
        else if b.credits ≠ [] then
          match s.present (s.request m a lines.length b false) with
          | none => s
          | some s' => put s' { b with stage := .readReq }
        else
          let wr := if b.side = 0 then (s.burstWrites t b ++ s.secondReads t b).filter (fun x => placeOf x = .store) else []
          let needs := (segOf (s.phys a), lines.length) ::
            (match wr with | [] => [] | x :: _ => [(segOf (s.phys x), (linesOf wr).length)])
          if s.creditsFree s.arb.resvs needs then
            match s.present (s.request m a lines.length b false) with
            | none => s
            | some s' => put (s'.takeCredits needs) { b with stage := .readReq, credits := needs }
          else
            put { s with arb := { s.arb with resvs := s.arb.resvs ++ [⟨m, b.num, needs, none⟩] } } { b with stage := .readCredit }
      | _ =>
        if (earlier.flatMap (s.burstWrites t)).any (fun x => addrs.any (fun y => y / 64 = x / 64)) then s
        else s.issueBurst m { b with stage := .reading, link := none }
    else
      match s.linkCause z a with
      | some cause => s.failNow m (failWith cause 0x20 z 1 (a / 64 * 64) off)
      | none =>
        let k := s.linkOf z a
        if s.tagFree ((k.map (fun k => s.requestsFor k a (b.hi - b.lo))).getD 0) k then
          s.issueBurst m { b with stage := .reading, issued := s.clock, link := k }
        else s
  | .readCredit =>
    let mine := fun (x : Resv) => x.ask.isNone && x.req = m && x.burst = b.num
    match s.arb.resvs.find? mine with
    | none => s
    | some r =>
      let write := b.out ≠ [] || b.hi ≤ b.lo
      let addrs := if write then b.out.map (·.1) else s.burstReads t b
      let n := (linesOf addrs).length
      if s.creditsFree (s.arb.resvs.takeWhile (!mine ·)) r.needs then
        let u := { s with arb := { s.arb with resvs := s.arb.resvs.erase r } }
        if !s.tetherFits m n then put (u.tetherHold m) { b with stage := if write then .writeHeld else .readHeld }
        else match u.present (s.request m (addrs.headD 0) n b write) with
          | none => s
          | some u => put (u.takeCredits r.needs) { b with stage := if write then .writeReq else .readReq, credits := r.needs }
      else s
  | .writeWait | .writeHeld =>
    if earlier.any (·.stage ≠ .writing) then s
    else if t.total ≤ t.next && (s.mover m).tracker.isSome && t.bursts.getLast?.map (·.num) = some b.num then s
    else match b.out with
      | [] => s
      | (a, _) :: _ =>
        if b.wz = 0 then
          match placeOf a with
          | .store =>
            let lines := linesOf (b.out.map (·.1))
            let g := segOf (s.phys a)
            if !s.tetherFits m lines.length then
              (if b.stage = .writeHeld then s
               else put ((s.tetherHold m).giveCredits b.credits) { b with stage := .writeHeld, credits := [] })
            else if needAt b.credits g < lines.length ∧ b.credits = [] then
              let needs := [(g, lines.length)]
              if s.creditsFree s.arb.resvs needs then
                match s.present (s.request m a lines.length b true) with
                | none => s
                | some s' => put (s'.takeCredits needs) { b with stage := .writeReq, credits := needs }
              else
                put { s with arb := { s.arb with resvs := s.arb.resvs ++ [⟨m, b.num, needs, none⟩] } } { b with stage := .readCredit }
            else match s.present (s.request m a lines.length b true) with
              | none => s
              | some s' => put s' { b with stage := .writeReq }
          | _ => s.issueBurst m { b with stage := .writing, link := none }
        else match s.linkCause b.wz a with
          | some cause => s.failNow m (failWith cause 0x21 b.wz 2 a (t.outOff b))
          | none => s.issueBurst m { b with stage := .writing, issued := s.clock, link := s.linkOf b.wz a }
  | _ => s

/-- Each burst of the ACTIVE transfer tries to move on, in burst order. -/
def State.tryBursts (s : State) (m : Nat) : Nat → State
  | 0 => s
  | n + 1 =>
    let s := s.tryBursts m n
    match (s.mover m).active with
    | none => s
    | some t => match t.bursts[n]? with
      | some b => if t.failed.isSome then s else s.tryBurst m t (t.bursts.take n) b
      | none => s

/-- The byte a fill writes at an address (R209). -/
def fillByte (v : Word) (a : Nat) : Byte := BitVec.ofNat 8 (v.toNat / 2 ^ (8 * (a % 8)))

/-- The words of a pattern's offset table that a burst needs, read as zone-0 reads (R243): the first that fails. -/
def State.tableFails (s : State) (m : Nat) (t : Transfer) (i : Nat) : Option Failure × State :=
  match t.pattern with
  | some p =>
    if p.idx then
      let a := p.tbl + 4 * (i / p.elem % p.n0)
      let f := fun cause acode => ({ failWith cause acode 0 1 (a / 4 * 4) (t.offOf i) with tbl := true } : Failure)
      if !inStore a 4 then (some (f 5 0x20), s)
      else if s.underTest a then (some (f 8 0x20), s)
      else
        let (_, bad, s') := ((s.claim (s.rowReq m false (a / 512) 1)).setHop t.hop).storeRead m a 4
        (bad.map (fun _ => f 6 0x22), s'.setHop s.log.hop)
    else (none, s)
  | none => (none, s)

/-- One more burst is cut from the ACTIVE transfer while fewer than 8 are outstanding (R236, R239). -/
def State.cutBurst (s : State) (m : Nat) : State :=
  let x := s.mover m
  match x.active with
  | none => s
  | some t =>
    if t.failed.isSome || t.canceled || t.total ≤ t.next || 8 ≤ t.bursts.length + x.tracked then s
    else
      let place := if t.desc then cutLow t (t.total - t.next) else t.next
      let n := if t.desc then t.total - t.next - place else s.cutLen t place
      let (bad, s') := s.tableFails m t place
      if s'.arb.blocked.isSome then s.orWaits s'
      else match bad with
      | some f => s'.failNow m f
      | none =>
        let out := if t.kind = .fill ∨ t.kind = .scrub then
            (List.range n).map (fun i => let a := s'.dstAddr t (place + i); (a, fillByte t.fill a)) else []
        let b : Burst := { num := x.nextBurst, lo := place, hi := if t.reads then place + n else place, side := 0
                           stage := if t.reads then .readWait else .writeWait, wz := t.zd, wpos := place, out := out
                           credits := [], data := [], issued := 0, link := none, ord := 0 }
        s'.setMover m { s'.mover m with nextBurst := x.nextBurst + 1
                                        active := some { t with next := t.next + n, bursts := t.bursts ++ [b] } }

def State.cutBursts (s : State) (m : Nat) : Nat → State
  | 0 => s
  | n + 1 => (s.cutBurst m).cutBursts m n

/-- Output of a stream that has been formed and not issued, as bursts that only write, cut as R236 says; DRY parts of the
stream are passed over (R170). `out` is the whole output formed so far, `q` how much of it is issued, `num` the next burst's
number. Answers the bursts, and how much is issued then. -/
def State.outBursts (s : State) (ch : Chan) (out : List Byte) (q num : Nat) : Nat → List Burst × Nat
  | 0 => ([], q)
  | fuel + 1 =>
    if out.length ≤ q then ([], q)
    else
      let (z, a, dry, left) := s.outAt ch q
      let k := max 1 (min (min left (out.length - q)) (blockLeft a))
      if dry then s.outBursts ch out (q + k) num fuel
      else
        let w := (List.range k).map (fun i => (a + i, (out[q + i]?).getD 0))
        let (l, n) := s.outBursts ch out (q + k) (num + 1) fuel
        ({ num := num, lo := q, hi := q, side := 0, stage := .writeWait, wz := z, wpos := q, out := w, credits := []
           data := [], issued := 0, link := none, ord := 0 } :: l, n)

/-- What the inline unit makes of the stream so far becomes bursts in the place of the burst whose data it took (R258): `pre` are
the bursts before it, `post` those after it, and `keep` the credits that it holds for its write. -/
def State.emitOut (s : State) (m c : Nat) (t : Transfer) (pre post : List Burst) (keep : List (Nat × Nat)) : State :=
  let ch := s.chan c
  let out := ch.output (s.keyOf c)
  let x := s.mover m
  let (l, sent) := s.outBursts ch out ch.stream.issued x.nextBurst (out.length + 1)
  let serves : Burst → Bool := fun b => match b.out with
    | (a, _) :: _ => b.wz = 0 && placeOf a = .store && (linesOf (b.out.map (·.1))).length ≤ needAt keep (segOf (s.phys a))
    | [] => false
  let (s, l) : State × List Burst := match keep, l with
    | [], l => (s, l)
    | k, b :: r => if serves b then (s, { b with credits := k } :: r) else (s.giveCredits k, b :: r)
    | k, [] => (s.giveCredits k, [])
  (s.setChan c { ch with stream := { ch.stream with issued := max ch.stream.issued sent } }).setMover m
    { x with nextBurst := x.nextBurst + l.length, active := some { t with bursts := pre ++ l ++ post } }

/-- Whether the ACTIVE transfer has ended (R228): all read, and every write issued. -/
def State.transferEnded (s : State) (t : Transfer) : Bool :=
  t.failed.isNone && (t.total ≤ t.next || t.canceled) && t.bursts.all (·.stage = .writing)
  && (match t.chan with
      | some c => t.kind ≠ .stream || !t.last || (s.chan c).stream.formed && (s.chan c).outTotal ≤ (s.chan c).stream.issued
      | none => true)

/-- SHADOW becomes ACTIVE when ACTIVE is empty (R228), but not while the mover is halted (R252). -/
def promote (x : Mover) : Mover :=
  if x.active.isNone && x.shadow.isSome && !x.halt then { x with active := x.shadow, shadow := none } else x

/-- A transfer that has ended passes to the tracker, if that is empty (R229). -/
def State.toTracker (s : State) (m : Nat) : State :=
  let x := s.mover m
  match x.active with
  | some t => if s.transferEnded t && x.tracker.isNone then s.setMover m (promote { x with tracker := some t, active := none }) else s
  | none => s.setMover m (promote x)

/-- A mover issues what it can: bursts are cut and move on, and transfers that end pass to the tracker. Nothing is issued in
Lockdown (R253), once a warm reset is due (R389), nor by a mover that is halted (R252). -/
def State.pump (s : State) (m : Nat) : State :=
  if s.locked ∨ (s.mover m).halt ∨ s.power.warmDue then s
  else
    let round := fun (s : State) => (((s.toTracker m).cutBursts m 8).tryBursts m 24).toTracker m
    round (round s)

/-! ### Failures -/

/-- MOV_ERR and MOV_ERR_ADDR (R249). -/
def State.latchMov (s : State) (m chan : Nat) (f : Failure) : State :=
  (s.setRg .movErr (chan * 2 ^ 32 + f.acode * 2 ^ 24 + f.zone * 2 ^ 16 + f.cause * 2 ^ 8 + b2n f.tbl * 8 + f.dir) m).setRg
    .movErrAddr (f.addr % 2 ^ 64) m

/-- The latch and the BUS_ERROR record of a failed transfer (R249, R253); a failed command read is the channel processor's. -/
def State.failRecord (s : State) (m : Nat) (t : Transfer) (f : Failure) : State :=
  let unit := t.chan.getD 0xFFF
  (if f.fetch then s else s.latchMov m unit f).fault (if f.fetch then cpDomain unit else 0x20 + m) 0x05 unit (busArg f f.fetch) f.addr
    (t.cause + 1) t.hop

/-- A failed transfer whose issued writes have all answered stops its work (R249 to R252): the channel goes HALTED and the
mover returns to the pool, or the mover halts. In direct mode a transfer that fails in the tracker is reported and is over where another
is ACTIVE, which goes on undisturbed (R250; log entry 90). -/
def State.finishFailure (s : State) (m : Nat) (t : Transfer) (f : Failure) (tracked : Bool) : State :=
  let s := s.failRecord m t f
  let at_ := s.lastStamp (if f.fetch then cpDomain (t.chan.getD 0xFFF) else 0x20 + m)
  let x := s.mover m
  match t.chan with
  | some c =>
    let drop := fun (o : Option Transfer) => match o with | some y => if y.chan = some c then none else some y | none => none
    let gone := (match x.active with | some y => if y.chan = some c then y.bursts else [] | none => [])
    let s := s.dropBursts m gone
    let y := { x with active := drop x.active, shadow := drop x.shadow, tracker := drop x.tracker
                      owner := if x.owner = some c then none else x.owner }
    ((s.setMover m (promote y)).haltStream c f f.fetch at_).pump m
  | none =>
    let s := ((s.setBit .movEvt 1 true m).ircCause (0x80 + m) at_).emit (0x40 + m) (at_ + 1) t.hop
    if tracked then
      match x.active with
      | none => s.setMover m { x with halt := true, tracker := none, active := some { t with bursts := [], failed := none } }
      | some _ => s.setMover m { x with tracker := none }
    else s.setMover m { x with halt := true }

/-- The failures of a mover that are ripe: nothing that still answers of the failed transfer, or of another member of its chain, is
outstanding. -/
def State.ripeFailures (s : State) (m : Nat) : State :=
  let quiet := fun (t : Transfer) => ((s.mover m).tracker.toList ++ (s.mover m).active.toList).all (fun y =>
    y.chan ≠ t.chan || y.bursts.isEmpty)
  let ripe := fun (o : Option Transfer) => match o with
    | some t => (match t.failed with
      | some f => if t.bursts.isEmpty && (t.chan.isNone || quiet t) then some (t, f) else none
      | none => none)
    | none => none
  let s := match ripe (s.mover m).tracker with
    | some (t, f) => s.finishFailure m t f true
    | none => s
  if (s.mover m).halt then s
  else match ripe (s.mover m).active with
    | some (t, f) => s.finishFailure m t f false
    | none => s

/-! ### Direct mode (R230 to R234, R252, R254) -/

/-- The transfer that the SHADOW registers describe, with its Pattern Table entry, none where GO's checks refuse it (R233). -/
def State.shadowTransfer (s : State) (m hop cause : Nat) : Option Transfer × State :=
  let xf := s.rg .movShXf m
  let op := fieldOf 7 0 xf
  let zs := fieldOf 27 24 xf
  let zd := fieldOf 31 28 xf
  let ps := fieldOf 23 22 xf
  let pidx := fieldOf 19 8 xf
  let n := s.fld .movShCount 31 0 m
  let src := s.rg .movShSrc m
  let dst := s.rg .movShDst m
  let plain := (op = 1 ∨ op = 8) ∧ (op = 8 ∨ zoneOk zs) ∧ zoneOk zd ∧ ps ≠ 3 ∧ ¬ (op = 8 ∧ ps = 1) ∧ (ps ≠ 0 ∨ pidx = 0)
    ∧ (op = 8 ∨ ps = 1 ∨ ¬ overflows src n) ∧ (ps = 2 ∨ ¬ overflows dst n)
  let mk := fun (p : Option Pattern) =>
    let total := match p with | some p => min p.span n | none => n
    ({ kind := if op = 1 then .copy else .fill, op := op, zs := zs, zd := zd, src := src, dst := dst, count := n
       total := total, pside := ps, pidx := pidx, pattern := p, fill := BitVec.ofNat 64 (s.rg .movShFill m)
       desc := op = 1 && ps = 0 && zs = zd && src < dst && dst < src + n
       dry := false, place := true, chan := none, base := 0, hop := hop, next := 0, last := true, bursts := [], carry := []
       words := [], failed := none
       canceled := false, cause := cause } : Transfer)
  if plain then
    if ps = 0 then (some (mk none), s)
    else if s.snima.layout.patCnt ≤ pidx then (none, s)
    else
      let a := s.snima.layout.pat + pidx * 64
      if !inStore a 64 ∨ s.underTest a then (none, s)
      else
        let (d, bad, t) := ((s.claim (s.rowReq m false (a / 512) 1)).setHop hop).storeRead m a 64
        let t := t.setHop s.log.hop
        if bad.isSome then (none, t)
        else match parsePattern d with
          | some p => (some (mk (some p)), t)
          | none => (none, t)
  else (none, s)

/-- A direct transfer completes (R234): DONE or CANC, MOV_LAST, and its Carillon source; after a COUNT of 0 at once. -/
def State.directDone (s : State) (m : Nat) (t : Transfer) : State :=
  let span := match t.pattern with | some p => p.span | none => t.count
  let done := if t.canceled then t.next else t.total
  let last := (t.count - done) % 2 ^ 32 * 2 ^ 32 + b2n (t.count < span) * 2 + b2n (span ≠ t.count)
  let at_ := s.stampTime (0x20 + m) s.time.now 0
  let s := (s.setRg .movLast last m).ircCause (0x80 + m) at_
  if t.canceled then s.setBit .movEvt 3 true m else (s.setBit .movEvt 0 true m).emit m (at_ + 1) t.hop

/-- A direct transfer in the tracker whose writes have all answered completes. -/
def State.reapDirect (s : State) (m : Nat) : State :=
  let x := s.mover m
  match x.tracker with
  | some t =>
    if t.chan.isNone && t.bursts = [] && t.failed.isNone then
      ((s.setMover m { x with tracker := none }).directDone m t).pump m
    else s
  | none => s

/-- Everything a mover can do on its own now. -/
def State.work (s : State) (m : Nat) : State := ((((s.pump m).ripeFailures m).reapDirect m).ripeFailures m).reapDirect m

/-- The movers that wait for a tag (R368); all of them where an access that a command makes itself waits, which may be the end of a
mover's work. -/
def State.tagWaiters (s : State) : List Nat :=
  if s.arb.resvs.any (fun r => r.ask.isSome && 64 ≤ r.req) then s.movers.map (·.1)
  else (s.movers.filter (fun e => match e.2.active with
    | some t => t.bursts.any (fun b => b.stage = .readWait && readZone t b ≠ 0)
    | none => false)).map (·.1)

/-- A command's own reservation that waits takes its credits where they are free, and its request is presented (R294). -/
def State.rowCommits (s : State) (r : Resv) (a : ArbReq) : State :=
  if r ∈ s.arb.resvs ∧ s.creditsFree (s.arb.resvs.takeWhile (· ≠ r)) r.needs then s.rowPresent a else s

/-- Credits may have been freed: the reservations that wait are tried in the order in which they registered (R294), then the movers that
wait for a tag. `go` is how a mover goes on. -/
def State.retryWith (s : State) (go : State → Nat → State) : State :=
  let t := s.arb.resvs.foldl (fun t r => match r.ask with | some a => t.rowCommits r a | none => go t r.req) s
  t.tagWaiters.foldl go t

/-- A mover gave credits back: those that waited for them try again, and it goes on. -/
def State.workAll (s : State) (m : Nat) : State := (s.retryWith State.work).work m

/-- MOV_CTL.GO (R233): in direct mode with SHADOW empty, SHADOW is checked and becomes valid. `hop` is that of the event the
transfer's own events carry (R305), `cause` the TIME that the transfer follows (R30). -/
def State.movGo (s : State) (m hop cause : Nat) : State :=
  let x := s.mover m
  if !x.direct || x.shadow.isSome then s
  else match s.shadowTransfer m hop cause with
    | (none, t) => t.setBit .movEvt 2 true m
    | (some tr, t) => (t.setMover m (promote { t.mover m with shadow := some tr })).work m

/-- MOV_CTL.CANCEL (R254): the ACTIVE direct transfer ends at the next burst boundary; an error stands, and a transfer whose last
write has been issued completes. -/
def State.movCancel (s : State) (m : Nat) : State :=
  let x := s.mover m
  match x.active with
  | some t =>
    if x.direct && !x.halt && t.failed.isNone && !s.transferEnded t then
      let keep := t.bursts.filter (·.stage = .writing)
      let gone := t.bursts.filter (·.stage ≠ .writing)
      let cut := if t.desc then ((gone.map (·.hi)).max?.map (t.total - ·)) else (gone.map (·.lo)).min?
      ((s.dropBursts m gone).setActive m { t with canceled := true, bursts := keep, next := cut.getD t.next }).workAll m
    else s
  | none => s

/-- MOV_CTL.DROP_SH: a valid SHADOW is discarded. -/
def State.movDropSh (s : State) (m : Nat) : State :=
  let x := s.mover m
  if x.direct then s.setMover m { x with shadow := none } else s

/-- MOV_CTL.REL RETRY (R252): HALT clears, and the ACTIVE transfer runs again from its start with its Pattern Table entry
read and checked again. -/
def State.movRetry (s : State) (m : Nat) : State :=
  let x := s.mover m
  if !(x.direct && x.halt) then s
  else match x.active with
    | none => (s.setMover m (promote { x with halt := false })).work m
    | some t =>
      let again := fun (s : State) (p : Option Pattern) =>
        (s.setMover m { s.mover m with halt := false
                                       active := some { t with pattern := p, next := 0, bursts := [], carry := [], words := []
                                                               failed := none, canceled := false
                                                               total := match p with | some p => min p.span t.count | none => t.count } }).work m
      let reject := fun (s : State) =>
        ((s.setMover m (promote { s.mover m with halt := false, active := none })).setBit .movEvt 2 true m).work m
      if t.pside = 0 then again s none
      else
        let a := s.snima.layout.pat + t.pidx * 64
        if s.snima.layout.patCnt ≤ t.pidx ∨ !inStore a 64 ∨ s.underTest a then reject s
        else
          let (d, bad, s') := ((s.claim (s.rowReq m false (a / 512) 1)).setHop t.hop).storeRead m a 64
          let s' := s'.setHop s.log.hop
          match bad, parsePattern d with
          | none, some p => again s' (some p)
          | _, _ => reject s'

/-- MOV_CTL.REL ABORT (R252): HALT clears and the transfer is discarded. -/
def State.movAbort (s : State) (m : Nat) : State :=
  let x := s.mover m
  if x.direct && x.halt then (s.setMover m (promote { x with halt := false, active := none })).work m else s

/-- MODE follows DIRECT once ACTIVE, SHADOW and the tracker are empty (R230); a chain on the mover runs to its end. -/
def State.modeChange (s : State) (m : Nat) : State :=
  let x := s.mover m
  if x.active.isNone && x.shadow.isNone && x.tracker.isNone && x.owner.isNone then
    s.setMover m { x with direct := s.bit .movCfg 0 m }
  else s

end Sys2Proof.Machine
end

