-- ==== Sys2Proof/Machine/ChanCtl.lean ====
section
/-! DEFINITION. What acts on a channel from outside its program: stop, resume and release (R183 to R187), the loop guard
(R189), the timers of R333 to R335, and the failure of the reads that a channel processor makes. -/

namespace Sys2Proof.Machine

/-! ### Stop and resume -/

/-- A stop that meets the end of a WAIT, in which no Time has passed, takes effect at the WAIT's own boundary (R220; log entry 94). -/
def State.stopAtWait (s : State) (c : Nat) (w : Member) (r : Option LogRecord) : State :=
  let ch := s.chan c
  (s.setChan c { ch with phase := .active, chain := [w], ending := ⟨0, 0, 0⟩, endRec := r, waited := none }).dispose c true
    (some 0x04) (s.rg .chnCur c) (some 0x04)

/-- A stop is requested (R183). -/
def State.chanStop (s : State) (c : Nat) : State :=
  let ch := s.chan c
  let pend := s.setChan c { ch with stop := true }
  match ch.phase with
  | .idle | .checked => s
  | .draining => if ch.outcome = some 3 then pend else s
  | .waitStart | .suspended => s.endProgram c 0x04
  | .waitEvent | .waitHold => s.endCmd c 0x04 0 0
  | .fetch => match ch.waited with
    | some (w, t, r) => if t = s.clock ∧ ch.chain = [] then s.stopAtWait c w r else pend
    | none => pend
  | .halted => pend
  | .active => if ch.stage = .loopGuard then pend.boundary c else pend

/-- A resume from CHN_CTL.RESUME or a resume slot (R184, R185). `cause` is the TIME that the resumed run follows (R30). -/
def State.chanResume (s : State) (c cause : Nat) : State :=
  let ch := s.chan c
  match ch.phase with
  | .idle | .checked => s
  | .draining => if ch.outcome = some 3 then s.setChan c { ch with resPend := true, resCause := max ch.resCause cause } else s
  | .suspended => (s.setChan c { ch with cause := max ch.cause cause }).resumeRun c none
  | _ => s.setChan c { ch with resPend := true, resCause := max ch.resCause cause }

/-! ### Transfers of a channel on its mover -/

/-- The channel's transfers leave a mover: nothing more is issued for them (R251, R335). -/
def State.dropOn (s : State) (c m : Nat) : State :=
  let x := s.mover m
  let mine : Option Transfer → Bool := fun o => match o with | some y => y.chan == some c | none => false
  if !(mine x.active || mine x.shadow || mine x.tracker || x.owner == some c) then s
  else
    let gone := match x.active with | some y => if mine x.active then y.bursts else [] | none => []
    let drop := fun (o : Option Transfer) => if mine o then none else o
    let t := (s.dropBursts m gone).withdraw (fun r => r.req = m)
    (t.setMover m (promote { x with active := drop x.active, shadow := drop x.shadow, tracker := drop x.tracker
                                    owner := if x.owner = some c then none else x.owner })).workAll m

/-- The channel's transfers leave every mover. -/
def State.dropMovers (s : State) (c : Nat) : State := (List.range 64).foldl (fun t m => t.dropOn c m) s

/-! ### The accesses that a channel processor makes itself (R162, R163, R212, R368, R375) -/

/-- Whether the second read of a chain's next member is due (R162, R231): its mover's SHADOW is empty. -/
def State.memberDue (s : State) (c : Nat) : Bool :=
  let ch := s.chan c
  ch.phase = .active && ch.stage = .member
    && (List.range 64).any (fun m => (s.mover m).owner = some c && (s.mover m).shadow.isNone)

/-- Whether the image of an NVME command is to be read, or its read is out (R212). -/
def State.imageDue (s : State) (c : Nat) : Bool :=
  let ch := s.chan c
  let h := ch.head.cmd
  ch.phase = .active && ch.stage = .run && !ch.ended && h.opc = 0x0A
    && (!ch.tags.isEmpty || (s.drive h.drive).attached && s.linkUp (h.drive + 2))

/-- Whether a channel waits for zero-length reads (R179). -/
def Chan.syncing (ch : Chan) : Bool := (ch.phase = .active || ch.phase = .checked) && ch.stage = .sync

/-- Whether a channel processor has a write outstanding. -/
def Chan.cpWrites (ch : Chan) : Bool := ch.phase = .active && ch.stage = .cpWrite

/-- The zone and the address that a channel processor has to read itself: a command, the last one of a chain for SKIP_ON, the next member
of a chain, or an NVMe command image. -/
def State.ownRead (s : State) (c : Nat) : Option (Nat × Nat) :=
  let ch := s.chan c
  let z := s.progZone c
  if ch.phase = .fetch then some (z, s.rg .chnCur c)
  else if ch.phase = .halted && ch.skipAt.isSome then some (z, ch.final.addr)
  else if s.memberDue c then some (z, ((ch.chain[ch.pos + 1]?).map (·.addr)).getD 0)
  else if s.imageDue c then some (ch.head.cmd.zs, ch.head.cmd.src)
  else none

/-- The link of a channel processor's read: that on which it was issued, else where it would go now (R375). -/
def State.onLink (s : State) (c z a : Nat) : Option Nat := ((s.chan c).tags.head?).or (s.linkOf z a)

/-- The CAUSE with which the read fails whatever it would bring. -/
def State.causeOn (s : State) (c z a : Nat) : Option Nat :=
  match s.onLink c z a with
  | none => some 1
  | some k => if s.linkUp k then none else some 7

/-- Whether a read or zero-length read on a link is out: it has its tag, or finds one now (R368). One on a link that is down needs none. -/
def State.tagged (s : State) (c k : Nat) : Bool := decide (k ∈ (s.chan c).tags) || !s.linkUp k || s.tagFree 1 (some k)

/-- Whether the channel processor's read from an address is out. -/
def State.readOut (s : State) (c z a : Nat) : Bool :=
  match s.onLink c z a with
  | some k => s.tagged c k
  | none => true

/-- Since when that read may have been outstanding. -/
def State.readSince (s : State) (c : Nat) : Nat :=
  let ch := s.chan c
  if ch.tags = [] then ch.progress else ch.readAt

/-- The link on which a channel processor's write was issued (R375). -/
def State.writeLink (s : State) (c : Nat) : Option Nat :=
  let ch := s.chan c
  match ch.pin with
  | some o => o
  | none => s.linkOf ch.head.cmd.zd ch.head.cmd.dst

/-- The reads and zero-length reads of a channel processor go out as far as their links have tags (R368). -/
def State.issueRead (s : State) (c : Nat) : State :=
  let ch := s.chan c
  let want := match s.ownRead c with
    | some r => if ch.tags = [] then (s.linkOf r.1 r.2).toList else []
    | none => if ch.syncing then ch.syncs.filter (fun k => decide (k ∉ ch.tags)) else []
  want.foldl (fun t k =>
    if t.linkUp k && t.tagFree 1 (some k) then t.setChan c { t.chan c with tags := (t.chan c).tags ++ [k], readAt := t.clock } else t) s

def State.issueReads (s : State) : State := (s.chans.map (·.1)).foldl (fun t c => t.issueRead c) s

/-- The links on which a channel processor has an access of its own outstanding, with the address and whether it writes. -/
def State.ownOut (s : State) (c : Nat) : List (Nat × Nat × Bool) :=
  let ch := s.chan c
  if ch.cpWrites then ((s.writeLink c).map (fun k => (k, ch.head.cmd.dst, true))).toList
  else ch.tags.map (fun k => (k, ((s.ownRead c).map (·.2)).getD 0, false))

/-! ### Release (R187) -/

/-- Whether a channel is HALTED, with no SKIP_ON under way. -/
def Chan.releasable (ch : Chan) : Bool := ch.phase = .halted && ch.skipAt.isNone

/-- REL RETRY: after a failed read at a command's start the command, or its chain from the head, is read again; else it runs
again from its head, its session context read afresh. -/
def State.relRetry (s : State) (c : Nat) : State :=
  let ch := s.chan c
  if !ch.releasable then s
  else
  let s := s.releaseUnits c
  if ch.fetchHalt then
    let addr := if ch.chain = [] then s.rg .chnCur c else ch.head.addr
    s.goFetch c addr
  else
    ((s.setChan c { ch with syncs := [], wb := none, outcome := none, endRec := none, graceUsed := 0, retrySince := none
                            drv := none }).progressed c).startExec c

/-- The second read of the next member of a chain fails (R162, R186): nothing more of the chain is issued, and once the writes
already issued have answered the channel halts. -/
def State.memberFails (s : State) (c addr : Nat) (f : Failure) : State :=
  let f := { f with fetch := true }
  let t := s.setRg .chnCur addr c
  let t := t.setChan c { t.chan c with stage := .moving }
  match (List.range 64).find? (fun m => (t.mover m).owner = some c) with
  | none => t.cpError c f true
  | some m =>
    let x := t.mover m
    let mine := fun (o : Option Transfer) => (o.bind (·.chan)) = some c
    if mine x.active then (t.failNow m f).work m
    else match x.tracker with
      | some tr =>
        if tr.chan = some c then
          (t.setMover m { x with tracker := some { tr with failed := some (firstFailure tr.failed { f with ord := x.nextOrd }) } }).work m
        else ((t.setMover m { x with owner := none }).cpError c f true)
      | none => (t.setMover m { x with owner := none }).cpError c f true

/-- The failing command stands as ended with ACODE (R187, R249): RESID and DETAIL from the failing beat. -/
def State.failedEnd (s : State) (c : Nat) : State :=
  let ch := s.chan c
  let err := s.rg .chnErr c
  let detail := fieldOf 15 8 err + fieldOf 19 16 err * 2 ^ 8
  let ch := { ch with pos := if ch.head.cmd.opc ≤ 9 then memberAt ch.chain ch.failOff else ch.pos }
  (s.setChan c ch).ended c (fieldOf 31 24 err) detail (ch.total - ch.failOff)

/-- REL ABORT: the program ends with ACODE. The bus error cancelled CHN_TMO (R336): the count begins anew. -/
def State.relAbort (s : State) (c : Nat) : State :=
  if !(s.chan c).releasable then s
  else
  let s := s.progressed c
  let ch := s.chan c
  if ch.fetchHalt then ((s.releaseUnits c).setChan c { ch with phase := .active, endRec := none }).dispose c false (some (s.fld .chnErr 31 24 c)) 0 none
  else (s.failedEnd c).dispose c true (some (s.fld .chnErr 31 24 c)) 0 none

/-- The 64 bytes of a command read again (R162, R187): from zone 0 by the channel processor, from a link zone as `rd` brings
them. -/
def State.rereadCmd (s : State) (c addr : Nat) (rd : ReadResult) : Except Failure (List Byte) × State :=
  let z := s.progZone c
  if z = 0 then s.startRead addr 64
  else
    let f := fun cause => failWith cause 0x20 z 1 (addr / 64 * 64) 0
    let t := (s.linkAnswers (s.onLink c z addr)).readOver c
    match s.causeOn c z addr, rd with
    | some cause, _ => (.error (f cause), t)
    | none, .ok d => (.ok (fitBytes 64 d), t)
    | none, .fail cause _ => (.error (f cause.toNat), t)

/-- REL SKIP_ON: the failing command is written back with ACODE, and the program goes on as after an end of the OK class
under the NEXT of its last member, read but not executed; after a failed read at a command's start it goes on at
CHN_CUR + 0x40 with nothing written back. A pending stop and the loop guard act at once. `rd` is the read of a chain's last
member over a link: where the read is not out yet, or its Completion Timeout has not passed, it stays outstanding, and the command comes
again (R367, R368). -/
def State.relSkip (s : State) (c : Nat) (rd : ReadResult) : State :=
  let ch := s.chan c
  let z := s.progZone c
  let a := ch.final.addr
  if ch.phase ≠ .halted then s
  else if !ch.fetchHalt && !ch.stop && 2 ≤ ch.chain.length && z ≠ 0 && (s.causeOn c z a).isNone
      && (!s.readOut c z a || s.tooEarly z (if ch.skipAt.isSome then s.readSince c else s.clock) rd) then
    (if ch.skipAt.isSome then s else (s.progressed c).setChan c { (s.progressed c).chan c with skipAt := some s.clock })
  else
  let s := s.setChan c { ch with skipAt := none }
  let s := s.progressed c
  let ch := s.chan c
  if ch.fetchHalt then
    let next := s.rg .chnCur c + 0x40
    let t := (s.releaseUnits c).setChan c { ch with phase := .active, endRec := none, wb := none, wrote := true }
    if ch.stop then t.dispose c false (some 0x04) next none
    else if s.guardSpent c then
      (t.setChan c { t.chan c with ending := ⟨0x20, 0, 0⟩ }).guardStop c next
    else t.goFetch c next
  else
    let t := s.failedEnd c
    let ch := t.chan c
    if ch.stop || ch.chain.length ≤ 1 then t.boundary c
    else match t.rereadCmd c ch.final.addr rd with
      | (.ok b, t) =>
        let x := parseCmd b
        let last := { ch.final with cmd := { ch.final.cmd with flg := x.flg } }
        (t.setChan c { t.chan c with chain := ch.chain.dropLast ++ [last] }).boundary c
      | (.error f, t) => (t.fault (cpDomain c) 0x05 c (busArg f true) f.addr).dispose c true (some ch.ending.code) 0 none

/-- The read of a chain's last member where the release comes with no read of its own, as a register write: over a link,
the command as it was read before (log entry 16). -/
def State.heldRead (s : State) (c : Nat) : ReadResult :=
  let f := (s.chan c).final.cmd
  .ok (natLe 8 (f.opc + f.flg * 2 ^ 8))

/-- A write of CHN_CTL.REL. -/
def State.chanRelease (s : State) (c rel : Nat) : State :=
  if rel = 1 then s.relRetry c
  else if rel = 2 then s.relSkip c (s.heldRead c)
  else if rel = 3 then s.relAbort c
  else s

/-! ### Loop guard (R189) -/

/-- The loop guard ends the program at the boundary that it has reached. -/
def State.loopEnd (s : State) (c : Nat) : State :=
  let ch := s.chan c
  if ch.phase = .active ∧ ch.stage = .loopGuard then
    s.dispose c true (some 0x16) ch.nextAt (if haltCode ch.ending.code then none else some 0x16)
  else s

/-! ### Timers (R197, R333 to R336) -/

/-- Whether CHN_TMO runs: in FETCH or ACTIVE, but not while a drive works (R197), the loop guard has run out, or once COMMAND_TIMEOUT has
ended the command. -/
def Chan.timed (ch : Chan) : Bool :=
  (ch.phase = .fetch || ch.phase = .active) && ch.stage ≠ .loopGuard && ch.stage ≠ .drvRun && ch.outcome ≠ some 0x41

/-- The time without forward progress, held time left out (R333, R334). -/
def State.idleTime (s : State) (c : Nat) : Nat :=
  let ch := s.chan c
  s.clock - ch.progress - ch.heldRun - ch.heldNow s.grace s.clock

/-- CHN_TMO.TMO as it acts. -/
def State.tmoUs (s : State) (c : Nat) : Nat :=
  let t := s.fld .chnTmo 31 0 c
  if t = 0 then 2000000 else t

/-- A channel retries, on a link that has entered Recovery (R334). -/
def State.retryBegins (s : State) (c : Nat) : State :=
  let ch := s.chan c
  if ch.retrySince.isSome then s else s.setChan c { ch with retrySince := some s.clock }

/-- The channel retries no longer: what was held stays held. -/
def State.retryEnds (s : State) (c : Nat) : State :=
  let ch := s.chan c
  let h := ch.heldNow s.grace s.clock
  s.setChan c { ch with retrySince := none, heldRun := ch.heldRun + h, graceUsed := ch.graceUsed + h }

/-- The grace is used up: the count runs on though the channel still retries (R334). -/
def State.graceEnds (s : State) (c : Nat) : State :=
  let ch := s.chan c
  match ch.retrySince with
  | some t =>
    if s.grace ≤ ch.graceUsed + (s.clock - t) then
      s.setChan c { ch with retrySince := some s.clock, heldRun := ch.heldRun + ch.heldNow s.grace s.clock
                            graceUsed := s.grace }
    else s
  | none => s

/-- The transfers of a channel on a mover, oldest first. -/
def Mover.transfersOf (x : Mover) (c : Nat) : List Transfer :=
  (x.tracker.toList ++ x.active.toList ++ x.shadow.toList).filter (fun t => t.chan = some c)

/-- Whether an access of a channel's transfer has failed: the report has come first, and the timer is cancelled (R336). -/
def State.reported (s : State) (c : Nat) : Bool :=
  s.movers.any (fun e => (e.2.transfersOf c).any (·.failed.isSome))

/-- The timeout is due. -/
def State.tmoDue (s : State) (c : Nat) : Bool :=
  (s.chan c).timed && !s.reported c && s.tmoUs c * second ≤ s.idleTime c * 1000000

/-- The links on which a channel has an access outstanding (R334). -/
def State.linksOf (s : State) (c : Nat) : List Nat :=
  let ch := s.chan c
  let bursts := (List.range 64).flatMap (fun m => ((s.mover m).transfersOf c).flatMap (fun t => t.bursts.filterMap (·.on)))
  let own := (s.ownOut c).map (·.1)
  let drv := if ch.phase = .active ∧ ch.stage = .drvRun then (ch.drv.map (fun d => 2 + d.1)).toList else []
  (bursts ++ own ++ drv).eraseDups

/-- The stamp DOMAIN of the port of a link (R23). -/
def linkDomain (k : Nat) : Nat := if k < 2 then 0x70 + k else if k < 10 then 0x74 + (k - 2) / 2 else 0x78 + (k - 10)

/-- The link accesses of a channel that a timeout or Lockdown abandons. -/
def State.abandonedOf (s : State) (c : Nat) : List Abandoned :=
  let mk := fun (k adr : Nat) (w : Bool) => (⟨k, linkDomain k, c, adr, w⟩ : Abandoned)
  let bursts := (List.range 64).flatMap (fun m => ((s.mover m).transfersOf c).flatMap (fun t =>
    t.bursts.filterMap (fun b => b.on.map (fun k =>
      if b.stage = .reading then mk k ((s.burstReads t b).headD 0 / 64 * 64) false else mk k ((b.out.map (·.1)).headD 0) true))))
  bursts ++ (s.ownOut c).map (fun e => mk e.1 e.2.1 e.2.2)

/-- The zone in which a link lies. -/
def linkZone (k : Nat) : Nat := if k < 2 then 1 + k else 4 + (k - 2) / 2

/-- The stream bytes of completed bursts (R335): what the transfers before it carried and what this one has issued, less the
bytes of bursts still at work; for output that does not keep the stream's places, the source bytes that have passed; between two members
of a chain, and once its data have all passed, what its members have carried. -/
def State.doneBytes (s : State) (c : Nat) : Nat :=
  let ch := s.chan c
  let ts := (List.range 64).flatMap (fun m => (s.mover m).transfersOf c)
  if ch.head.cmd.opc = 2 ∧ ch.head.cmd.alg ≠ 4 then
    ch.stream.issued - ((ts.flatMap (·.bursts)).map (fun b => b.out.length)).sum
  else if 2 ≤ ch.head.cmd.opc ∧ ch.head.cmd.opc ≤ 7 then ch.stream.input.length
  else if ts = [] then
    (if ch.ended || ch.stage = .member then ((ch.chain.take (ch.pos + 1)).map (·.carried)).sum else 0)
  else
    let base := (ts.head?.map (·.base)).getD 0
    base + (ts.map (fun t => t.next - (t.bursts.map (fun b => max (b.hi - b.lo) b.out.length)).sum)).sum

/-- COMMAND_TIMEOUT (R335), once the zone-0 accesses already issued have completed: link accesses are abandoned, the record
is written, and the command ends. Where its end was decided and only zero-length reads were awaited, the code replaces its own (log
entry 93). -/
def State.timeoutEnd (s : State) (c : Nat) : State :=
  let ch := s.chan c
  let gone := s.abandonedOf c
  let cut := ch.retrySince.isSome
  let zone := ((gone.map (fun a => linkZone a.link)).min?).getD 0
  let detail := zone * 16 + b2n (gone.any (·.write)) * 4 + b2n cut * 2 + b2n (!gone.isEmpty)
  let resid := ch.total - s.doneBytes c
  let t := { s with stale := s.stale ++ gone }
  let t := t.dropMovers c
  let t := (t.addFld .fltTmoCnt 31 0 1).addFld .fltTmoCnt 63 32 (b2n cut)
  let t := t.fault (cpDomain c) 0x0C c detail (t.rg .chnCur c) (ch.cause + 1)
  let t := (t.setChan c { t.chan c with syncs := [] }).readOver c
  if ch.phase = .fetch ∧ (ch.chain = [] ∨ ch.condNext) then
    ((t.releaseUnits c).setChan c { t.chan c with phase := .active }).dispose c false (some 0x41) 0 none
  else if ch.ended then
    (t.setChan c { t.chan c with ending := ⟨0x41, detail, resid⟩, wb := none }).dispose c true (some 0x41) 0 none
  else t.endCmd c 0x41 detail resid

/-- Whether a channel is retrying (R334), set by the state of the links that its accesses are on. -/
def State.retryCheck (s : State) (c : Nat) : State :=
  let on := (s.linksOf c).any (fun k => (s.link k).recovering.isSome || (s.link k).replaying)
  if on then s.retryBegins c else if (s.chan c).retrySince.isSome then s.retryEnds c else s

/-- Every channel's retrying is set anew after a command. -/
def State.retrySync (s : State) : State :=
  if s.links.any (fun e => e.2.recovering.isSome || e.2.replaying) || s.chans.any (fun e => e.2.retrySince.isSome) then
    (s.chans.map (·.1)).foldl (fun t c => t.retryCheck c) s
  else s

/-- A read of a command fails (R167, R186): the channel halts, but where the read was only to see whether a BRANCH follows, the
program ends with the condition code, and the record has ACODE 0x20 whatever the failure. -/
def State.fetchFails (s : State) (c : Nat) (f : Failure) : State :=
  let ch := s.chan c
  if ch.condNext then
    let t := s.fault (cpDomain c) 0x05 c (busArg { f with acode := 0x20 } true) f.addr
    (t.setChan c { ch with phase := .active }).dispose c true (some ch.ending.code) 0 none
  else s.cpError c f true

end Sys2Proof.Machine
end

