-- ==== Sys2Proof/Machine/Carillon.lean ====
section
/-! DEFINITION. Carillon (R298 to R309): firings, strikes and their merging, hops, and what each strike input does; and the
entry into Lockdown (R338 to R340). -/

namespace Sys2Proof.Machine

/-- An event that reaches a Carillon channel: its hop, what ARG0 tells of its origin (R307), and the least TIME of the
firing (R30). -/
structure Firing where
  chn : Nat
  hop : Nat
  arg0 : Nat
  after : Nat
  deriving DecidableEq, Repr

/-- An event at hop 8 is dropped (R305). -/
def State.carDrop (s : State) (f : Firing) : State :=
  let t := ((s.setBit .carLoop 8 true).setFld .carLoop 7 0 f.chn).addFld .carLoop 47 32 1
  let (x, t) := t.stamp 0x62 f.after
  (t.logAlways ⟨x, 0x0A, 8, f.chn, f.arg0, 0⟩).ircCause 0x100 x.time

/-- The sticky flag of a Carillon channel (R303). -/
def State.carFlag (s : State) (c : Nat) : Bool := s.bit .carFlag (c % 64) (c / 64)
def State.setCarFlag (s : State) (c : Nat) (v : Bool) : State := s.setBit .carFlag (c % 64) v (c / 64)

/-- The channels that wait on a Carillon channel (R219). -/
def State.waitersOn (s : State) (c : Nat) : List Nat :=
  (s.chans.filter (fun e => e.2.phase = .waitEvent && e.2.head.cmd.param % 256 = c)).map (·.1)

/-- A WAIT ends OK on a firing, as one of its targets (R30, R219). -/
def State.waitFired (s : State) (c time : Nat) : State :=
  let ch := s.chan c
  let u := (s.setChan c { ch with cause := max ch.cause time, endRec := none }).ended c 0 0 0
  let t := u.boundary c
  let x := t.chan c
  if x.phase = .fetch then t.setChan c { x with waited := some (ch.head, t.clock, (u.chan c).endRec) } else t

/-- A firing (R298): the Stamp, the record and the flag, which a WAIT on the channel may clear. -/
def State.carFire (s : State) (f : Firing) : Stamp × State :=
  let (x, t) := s.stamp 0x62 f.after
  let t := t.logClass 7 ⟨x, 0x09, f.hop, f.chn, f.arg0, 0⟩
  (x, t.setCarFlag f.chn (!(t.waitersOn f.chn).any (fun c => (t.chan c).head.cmd.param.testBit 8)))

/-- The WAITs that firings of one handshake end, each with the TIME of its firing: the lower channel first (R159). -/
def State.waitsFired (s : State) (l : List (Nat × Nat)) : State :=
  (byChan l).foldl (fun t e => t.waitFired e.1 e.2) s

/-- The strike inputs of a channel's valid targets (R302). -/
def State.carTargets (s : State) (c : Nat) : List Nat :=
  (List.range 4).filterMap (fun i =>
    if s.bit .carTgt (11 + 12 * i) c then some (s.fld .carTgt (10 + 12 * i) (12 * i) c) else none)

/-- A strike input that a strike affects (R301). -/
def inputKnown (i : Nat) : Bool := i < 0x590 + 16 || (0x5A0 ≤ i && i < 0x5A4)

def isRelay (i : Nat) : Bool := 0x400 ≤ i && i < 0x500

/-- Events fire their channels, or are dropped: the strikes they make, and the WAITs on those channels. -/
def State.fireEach (s : State) : List Firing → List Strike × List (Nat × Nat) × State
  | [] => ([], [], s)
  | f :: r =>
    if 8 ≤ f.hop then (s.carDrop f).fireEach r
    else
      let (x, t) := s.carFire f
      let l := ((t.carTargets f.chn).filter inputKnown).map (fun i => (⟨i, x, f.hop, f.chn⟩ : Strike))
      let (rest, w, u) := t.fireEach r
      (l ++ rest, (t.waitersOn f.chn).map (fun c => (c, x.time)) ++ w, u)

/-- The events of one handshake fire their channels, and every WAIT on one of those ends: the strikes they make. -/
def State.fireAll (s : State) (l : List Firing) : List Strike × State :=
  let (strikes, w, t) := s.fireEach l
  (strikes, t.waitsFired w)

/-- The strike whose Stamp is the earliest (R306). -/
def earliest : List Strike → Option Strike
  | [] => none
  | a :: r => match earliest r with
    | none => some a
    | some b => if b.stamp.before a.stamp then some b else some a

/-- A strike input accepts the events presented to it as one strike (R306) and acts (R301); a relay answers with the event
it emits. In Lockdown channels and movers do nothing with a strike (R309, R339); the input of MC n wakes the core (R320). -/
def State.strikeInput (s : State) (i : Nat) (l : List Strike) : Option Firing × State :=
  match earliest l with
  | none => (none, s)
  | some e =>
    let hop := l.foldl (fun h x => max h x.hop) 0
    let t := if 1 < l.length then (s.addFld .carMergeCnt 31 0 (l.length - 1)).setFld .carMergeCnt 42 32 i else s
    if i < 0x400 then
      (none, if t.bit .carRslot 15 i && !t.locked then t.chanResume (t.fld .carRslot 11 0 i) e.stamp.time else t)
    else if i < 0x500 then (some ⟨i - 0x400, hop + 1, 0x3000 + e.source, e.stamp.time + 1⟩, t)
    else if i < 0x540 then (none, if t.locked then t else t.movGo (i - 0x500) (hop + 1) e.stamp.time)
    else if i < 0x580 then (none, (t.setBit .carIrq (i - 0x540) true).ircCause (0xC0 + (i - 0x540)) e.stamp.time)
    else if i < 0x590 then
      (none, (t.setRg .carCapLo e.stamp.lo (i - 0x580)).setRg .carCapHi e.stamp.hi (i - 0x580))
    else if i < 0x5A0 then
      (none, if t.bit .gpioCfg 0 (i - 0x590) then t.setBit .gpioCfg 1 (!t.bit .gpioCfg 1 (i - 0x590)) (i - 0x590) else t)
    else
      let n := i - 0x5A0
      (none, (t.setBit .carMcev n true).setCore n { t.core n with asleep := false })

/-- Strike inputs accept one after another; the events that relays emit, in order. -/
def State.strikeAll (s : State) (l : List Strike) : List Nat → List Firing × State
  | [] => ([], s)
  | i :: r =>
    let (f, t) := s.strikeInput i (l.filter (·.input = i))
    let (rest, t) := t.strikeAll l r
    (f.toList ++ rest, t)

/-- A cascade, handshake by handshake, until no relay emits an event: at most nine, by the hop count (R305). A strike of an
input, other than a relay, that has accepted in this cascade waits for the input's next handshake (R306). -/
def State.cascade (s : State) (done : List Nat) (l : List Firing) : Nat → State
  | 0 => s
  | n + 1 =>
    if l.isEmpty then s
    else
      let (strikes, t) := s.fireAll l
      let late := strikes.filter (fun (x : Strike) => x.input ∈ done && !isRelay x.input)
      let now := strikes.filter (fun (x : Strike) => !(x.input ∈ done && !isRelay x.input))
      let inputs := (now.map (·.input)).eraseDups
      let waiting := t.strikes.filter (fun (x : Strike) => x.input ∈ inputs)
      let t := { t with strikes := t.strikes.filter (fun (x : Strike) => !(x.input ∈ inputs)) ++ late }
      let (next, t) := t.strikeAll (now ++ waiting) inputs
      t.cascade (done ++ inputs) next n

/-- Events reach Carillon, unless the part is in Lockdown (R308). -/
def State.ring (s : State) (l : List Firing) : State := if s.locked then s else s.cascade [] l 10

/-- An event of a source fires every enabled channel that names it (R300). -/
def State.sourceEvent (s : State) (src time hop : Nat) : State :=
  s.ring (((List.range 256).filter (fun c => s.bit .carCh 16 c && s.fld .carCh 10 0 c == src)).map
    (fun c => (⟨c, hop, src, time⟩ : Firing)))

/-- The sources that R299 lists. -/
def sourceKnown (n : Nat) : Bool :=
  n ≤ 0x1C2 || (0x1D0 ≤ n && n ≤ 0x1DF) || (0x1E0 ≤ n && n ≤ 0x1EB) || n = 0x1F0

/-- The oldest strike that waits is accepted, with every other that waits for its input (R306); in Lockdown what it relays fires
nothing (R308). -/
def State.deferredStrike (s : State) : State :=
  match s.strikes with
  | [] => s
  | x :: _ =>
    let l := s.strikes.filter (·.input = x.input)
    let t := { s with strikes := s.strikes.filter (·.input ≠ x.input) }
    let (f, t) := t.strikeInput x.input l
    if t.locked then t else t.cascade [x.input] f.toList 10

/-! ### Lockdown (R338 to R340) -/

/-- Whether a warm reset is still before step 5 of R389, which the model takes at its earliest, 5 µs after the request. -/
def State.warmRuns (s : State) : Bool := s.power.warmAt.any (fun t => !usPassed t s.clock 5)

/-- What of a stream is no key material and belongs to writes already issued (R339): a channel processor's Stamp or record, and parts of
register words. -/
def Chan.zeroised (ch : Chan) : Stream :=
  { stream0 with carry := ch.stream.carry, result := if ch.cpWrites then ch.stream.result else [] }

/-- A cause of Lockdown is met: the first describes it, a later one is counted; each writes its record. A warm reset under way ends the
Lockdown (R345, R390). GCTL_BOOT keeps the STATE that it showed (R105). -/
def State.lockdown (s : State) (dom cause info : Nat) : State :=
  let first := !s.locked
  let s := if s.verifying then s.setFld .gctlBoot 2 0 2 else s
  let (x, t) := s.stamp dom 0
  let r : LogRecord := ⟨x, 0x0B, 0x10, cause, info, 0⟩
  let t := ((t.errPush r).logAlways r).addFld .gctlLock 47 32 1
  if first then
    let t := (((t.setFld .gctlLock 1 0 (if s.warmRuns then 0 else 1)).setBit .gctlLock 3 true).setFld .gctlLock 11 8 cause)
    let t := ((t.setRg .gctlLockInfo info).setRg .gctlLockTime (x.time % 2 ^ 64)).ircCause 0x1A5 x.time
    t.zeroiseCache.chans.foldl (fun t e => t.setChan e.1 { e.2 with stream := e.2.zeroised }) t.zeroiseCache
  else t

end Sys2Proof.Machine
end

