-- ==== Sys2Proof/Machine/QueueCtl.lean ====
section
/-! DEFINITION. What registers and doorbells do to queues (R129, R136 to R139, R145, R153, R156, R157), and what the queue
registers show. -/

namespace Sys2Proof.Machine

/-- A read of a ring or an index word as it is issued now: when, and on which link (R375). -/
def State.ringIssue (s : State) (cfg a : Nat) : Nat × Option Nat := (s.clock, s.linkOf (ringZone cfg) a)

/-- CHM_SQ (R138, R145): WAKE, or a read of the tail word; a doorbell during a window is kept. It cancels the re-poll timer. -/
def State.ringSq (s : State) (q : Nat) : State :=
  let x := s.sq q
  if !(x.exists_ && x.en) then s
  else if indexMode x.conf.cfg then 
    s.setSq q { x with tailReads := x.tailReads ++ [s.ringIssue x.conf.cfg x.conf.taddr], repoll := none, cause := s.time.now }
  else s.setSq q { x with wake := true, repoll := none, cause := s.time.now
                          window := x.window.map (fun w => { w with rung := true }) }

/-- A new CQ head is accepted, or refused with a FAULT record (R139). -/
def State.newHead (s : State) (q head : Nat) (ph : Bool) : State :=
  let x := s.cq q
  let cfg := x.conf.cfg
  let n := outstanding (indexMode cfg) (qSlots cfg) x.tail x.tailPh head ph
  if head < qSlots cfg ∧ 0 ≤ n ∧ n ≤ s.cqCount q then s.setCq q { x with head := head, headPh := ph }
  else s.fault 0x60 0x03 q (head + b2n ph * 2 ^ 16) 0

/-- CHM_CQ (R138): in phase mode the written head, in index mode a read of the head word. -/
def State.ringCq (s : State) (q : Nat) (acc : Acc) (data : Nat) : State :=
  let x := s.cq q
  if !x.exists_ || acc = .hi then s
  else if indexMode x.conf.cfg then s.setCq q { x with headReads := x.headReads ++ [s.ringIssue x.conf.cfg x.conf.haddr] }
  else s.newHead q (fieldOf 15 0 data) (data.testBit 16)

/-- SQ_CTL.EN written 1 (R140, R156). -/
def State.enableSq (s : State) (q : Nat) : State :=
  let x := s.sq q
  if x.exists_ && !x.en then s.setSq q { x with en := true, wake := true } else s

/-- SQ_CTL.EN written 0 (R156, R157). -/
def State.disableSq (s : State) (q : Nat) : State :=
  let x := s.sq q
  if x.exists_ && x.en then
    ((s.setSq q { x with en := false, repoll := none, window := x.window.map (fun w => { w with dropped := true }) }).closeBatches
      q .engine).2
  else s

/-- CQ_CTL.EN (R153). -/
def State.setCqEn (s : State) (q : Nat) (v : Bool) : State :=
  let x := s.cq q
  if x.exists_ then s.setCq q { x with en := v } else s

/-- Whether a channel is IDLE. -/
def State.chanIdle (s : State) (c : Nat) : Bool := (s.chan c).phase = .idle

/-- CQEs of an SQ that a channel or the queue engine holds (R154). -/
def State.heldOf (s : State) (q : Nat) : List (Holder × Cqe) :=
  (s.cq (s.cqOf q)).held.filter (fun e => e.2.sqId = q)

/-- Accepted START entries not yet dispatched. -/
def Sq.heldCount (x : Sq) : Nat := x.starts.length + (x.acts.filter (·.sop = 1)).length

/-- SQ_STAT.IDLE (R157). -/
def State.sqIdle (s : State) (q : Nat) : Bool :=
  let x := s.sq q
  x.window.isNone && x.heldCount = 0 && x.opens.all (·.code.isSome) && (s.setOf q).all s.chanIdle && (s.heldOf q).isEmpty

/-- SQ_STAT. -/
def State.viewSqStat (s : State) (q : Nat) : Nat :=
  let x := s.sq q
  if !x.exists_ then 0x1000000000001
  else b2n (s.sqIdle q) + b2n x.window.isSome * 2 + b2n x.wake * 4
    + ((s.setOf q).filter (fun c => !s.chanIdle c)).length * 2 ^ 8 + x.heldCount * 2 ^ 16 + x.head * 2 ^ 32 + b2n x.headPh * 2 ^ 48

/-- SQ_BATCH. -/
def State.viewSqBatch (s : State) (q : Nat) : Nat :=
  let x := s.sq q
  x.opens.length % 2 ^ 16 + (x.opens.filter (·.code.isNone)).length % 2 ^ 16 * 2 ^ 32 + x.credit * 2 ^ 48

/-- CQ_STAT. -/
def State.viewCqStat (s : State) (q : Nat) : Nat :=
  let x := s.cq q
  x.head + b2n x.headPh * 2 ^ 16 + x.balCount * 2 ^ 17 + x.tail * 2 ^ 32 + b2n x.tailPh * 2 ^ 48

/-- CQ_DRAIN. -/
def State.viewCqDrain (s : State) (q : Nat) : Nat :=
  let l := (s.cq q).held
  (l.filter (fun e => e.1 ≠ .engine)).length + b2n (l.any (fun e => e.1 = .engine)) * 2 ^ 16

/-! ### Reads of a ring that fail (R158) -/

/-- A window ends on a mismatch (R140, R145): WAKE clears and, in phase mode, the re-poll timer starts (R344), unless a doorbell came
meanwhile. After EN was cleared nothing more is due. -/
def State.windowMismatch (s : State) (q : Nat) : State :=
  let x := s.sq q
  match x.window with
  | none => s
  | some w =>
    if w.dropped || !x.en then s.setSq q { x with window := none }
    else if w.rung then s.setSq q { x with window := none, wake := true }
    else s.setSq q { x with window := none, wake := false, repoll := if indexMode x.conf.cfg then none else some s.clock }

/-- The address that a window reads. -/
def State.windowAddr (s : State) (q : Nat) : Nat := ((s.sq q).conf.base + (s.sq q).head * 64) % 2 ^ 64

/-- A tail read that failed ends as a window on a mismatch does (R145, R158); index mode, which alone reads a tail word, has no re-poll
timer (R344). -/
def Sq.tailFails (x : Sq) : Sq := { x with tailReads := x.tailReads.tail, wake := x.wake && !x.en }

/-- A window, tail or head read fails (R158). -/
def State.ringFail (s : State) (q : Nat) (kind : RingRead) (cause : Nat) : State :=
  match kind with
  | .window =>
    if (s.sq q).window.isSome then (s.windowMismatch q).fault 0x60 0x04 q (cause * 2 ^ 8) (s.windowAddr q) else s
  | .tail =>
    if (s.sq q).tailReads ≠ [] then
      (s.setSq q (s.sq q).tailFails).fault 0x60 0x04 q (1 + cause * 2 ^ 8) (s.sq q).conf.taddr
    else s
  | .head =>
    if (s.cq q).headReads ≠ [] then
      (s.setCq q { s.cq q with headReads := (s.cq q).headReads.tail }).fault 0x60 0x04 q (2 + cause * 2 ^ 8) (s.cq q).conf.haddr
    else s

/-- Every ring read outstanding on a link fails when it goes down (R375). -/
def State.ringsFail (s : State) (k : Nat) : State :=
  let on := fun (l : List (Nat × Option Nat)) => l.filter (fun r => r.2 = some k)
  let t := s.sqs.foldl (fun t e =>
    let t := if e.2.window.any (fun w => w.link = some k) then t.ringFail e.1 .window 7 else t
    (on e.2.tailReads).foldl (fun t _ => t.ringFail e.1 .tail 7) t) s
  s.cqs.foldl (fun t e => (on e.2.headReads).foldl (fun t _ => t.ringFail e.1 .head 7) t) t

end Sys2Proof.Machine
end

