-- ==== Sys2Proof/Machine/Mbx.lean ====
section
/-! DEFINITION. The mailboxes (R61 to R77): posts, pops, flushes, epochs and the read timeout. `out` says which FIFO of a
channel is meant, the outbound one or the inbound one. -/

namespace Sys2Proof.Machine

/-- The staging buffer of a FIFO (R67). -/
def State.staged (s : State) (c : Nat) (out : Bool) : List Byte :=
  (List.range 32).flatMap (fun j => natLe 8 (s.rg (if out then .mbxOutStg else .mbxInStg) c j))

/-- The header fields of a message (R64). -/
def msgCmd (b : List Byte) : Nat := leNat (b.take 2)
def msgSeq (b : List Byte) : Nat := leNat ((b.drop 2).take 2)
def msgLen (b : List Byte) : Nat := leNat ((b.drop 4).take 2)
def msgFlg (b : List Byte) : Nat := leNat ((b.drop 6).take 1)
def msgChn (b : List Byte) : Nat := leNat ((b.drop 7).take 1)
def msgEpoch (b : List Byte) : Nat := leNat ((b.drop 8).take 4)
def msgRsvd (b : List Byte) : Nat := leNat ((b.drop 12).take 4)
def msgPayload (b : List Byte) : List Byte := (b.drop 16).take (msgLen b)

/-- Whether a channel is secure (R61). -/
def secure (c : Nat) : Bool := 16 ≤ c

def Mailbox.fifo (b : Mailbox) (out : Bool) : List Msg := if out then b.outFifo else b.inFifo
def Mailbox.setFifo (b : Mailbox) (out : Bool) (l : List Msg) : Mailbox :=
  if out then { b with outFifo := l } else { b with inFifo := l }

/-- The current epoch of a FIFO's sending side (R68). -/
def State.epoch (s : State) (c : Nat) (out : Bool) : Nat := if out then s.fld .mbxEpoch 63 32 c else s.fld .mbxEpoch 31 0 c

/-- The outcome of a post (R67): the conditions in their order. -/
def State.postRes (s : State) (c : Nat) (out : Bool) (m : List Byte) : Nat :=
  if 64 ≤ ((s.box c).fifo out).length then 1
  else if 240 < msgLen m ∨ (secure c ∧ msgLen m < 32) then 2
  else if msgChn m ≠ c then 3
  else if msgRsvd m ≠ 0 then 4
  else if msgEpoch m ≠ s.epoch c out then 5
  else 0

/-- The read timeout of a channel in us (R73). -/
def State.rto (s : State) (c : Nat) : Nat := s.fld .mbxRto 23 0 c

/-- The outbound timer as it restarts: it runs while the FIFO holds messages and RTO is not 0 (R73). -/
def State.timerFrom (s : State) (c : Nat) (l : List Msg) : Option Nat :=
  if l.isEmpty || s.rto c = 0 then none else some s.clock

/-- ARG0 of a mailbox record (R39). -/
def msgArg (m : List Byte) : Nat := msgSeq m * 2 ^ 16 + msgCmd m

/-- A message is complete in its FIFO (R26, R67): MBX_ENQ, the Carillon source, the timer. -/
def State.enqueue (s : State) (c : Nat) (out : Bool) (m : List Byte) : State :=
  let (x, t) := s.stamp 0x64 0
  let m := m.take (16 + msgLen m)
  let t := t.logClass 6 ⟨x, 0x07, b2n out, c, msgArg m, 0⟩
  let b := t.box c
  let l := b.fifo out ++ [⟨m, x.time⟩]
  let b' := b.setFifo out l
  let b' := if out ∧ b.outFifo = [] then { b' with timer := t.timerFrom c l } else b'
  (t.setBox c b').emit (if out then 0x1A0 + c else 0x180 + c) (x.time + 1) 0

/-- A post (R67): the value that the post read returns, and the state. -/
def State.post (s : State) (c : Nat) (out : Bool) : Nat × State :=
  let m := s.staged c out
  let r := s.postRes c out m
  let t := if r = 0 then s.enqueue c out m else s
  (r + ((t.box c).fifo out).length * 2 ^ 16, t)

/-- POP (R70): the oldest message leaves, stamped MBX_DEQ. -/
def State.popMsg (s : State) (c : Nat) (out : Bool) : State :=
  let b := s.box c
  match b.fifo out with
  | [] => s
  | m :: r =>
    let (x, t) := s.stamp 0x64 (m.enq + 1)
    let t := t.logClass 6 ⟨x, 0x08, b2n out, c, msgArg m.bytes, 0⟩
    let b' := b.setFifo out r
    t.setBox c (if out then { b' with timer := t.timerFrom c r }
      else { b' with relayed := b.relayed.map (fun (x : Relayed) => { x with ahead := x.ahead - 1 }) })

/-- FLUSH (R72). -/
def State.flushMsgs (s : State) (c : Nat) (out : Bool) : State :=
  let b := s.box c
  let n := (b.fifo out).length
  let t := if out then s.setFld .mbxStat 38 32 n c else s.setFld .mbxStat 22 16 n c
  t.setBox c (if out then { b.setFifo out [] with timer := none }
    else { b.setFifo out [] with relayed := b.relayed.map (fun (x : Relayed) => { x with ahead := 0 }) })

/-- An epoch advances (R68). -/
def State.bump (s : State) (c : Nat) (out : Bool) : State :=
  if out then s.setFld .mbxEpoch 63 32 (s.epoch c out + 1) c else s.setFld .mbxEpoch 31 0 (s.epoch c out + 1) c

/-- Whether a mailbox's read timer has reached RTO, so that its expiry is due (R73). -/
def State.timerDue (s : State) (c : Nat) : Bool :=
  match (s.box c).timer with
  | some t => s.rto c ≠ 0 && usPassed t s.clock (s.rto c)
  | none => false

/-- STALE is cleared: the timer restarts where the FIFO holds messages (R73), but one that has run out is still to set STALE (R74). -/
def State.clearStale (s : State) (c : Nat) : State :=
  if s.bit .mbxStat 48 c then
    let b := s.box c
    (s.setBit .mbxStat 48 false c).setBox c { b with timer := if s.timerDue c then b.timer else s.timerFrom c b.outFifo }
  else s

/-- RTO is written (R73). -/
def State.newRto (s : State) (c v : Nat) : State :=
  let old := s.rto c
  let t := s.setFld .mbxRto 23 0 v c
  let b := t.box c
  if t.rto c = 0 then t.setBox c { b with timer := none }
  else if old = 0 then t.setBox c { b with timer := t.timerFrom c b.outFifo }
  else t

/-- The timer reaches RTO: STALE (R73). It has run out then, and no later RTO makes it expire again before its next restart (DESIGN CHOICE,
log entry 116). -/
def State.readTimeout (s : State) (c : Nat) : State :=
  let b := s.box c
  match b.timer with
  | some t => if s.rto c ≠ 0 ∧ usPassed t s.clock (s.rto c) then (s.setBit .mbxStat 48 true c).setBox c { b with timer := none } else s
  | none => s

/-- MBX_STAT. -/
def State.viewMbxStat (s : State) (c : Nat) : Nat :=
  let b := s.box c
  s.rg .mbxStat c / 2 ^ 16 * 2 ^ 16 + b.inFifo.length + b.outFifo.length * 2 ^ 8

/-- Word `i` of a HEAD window (R70). -/
def State.viewHead (s : State) (c : Nat) (out : Bool) (i : Nat) : Nat :=
  match (s.box c).fifo out with
  | [] => 0
  | m :: _ => leNat ((fitBytes 256 m.bytes).drop (8 * i) |>.take 8)

end Sys2Proof.Machine
end

