-- ==== Sys2Proof/Machine/Irc.lean ====
section
/-! DEFINITION. The interrupt controller (R311 to R327): sources as levels, delivery to the cores in two steps (the decision
and the commit point), host vectors and their MSI-X messages, and the Damper. -/

namespace Sys2Proof.Machine

/-! ### Sources (R311) -/

/-- Whether any of channels 64k to 64k + 63 is HALTED, by bits (IRC_HALT). -/
def State.haltBits (s : State) (k : Nat) : Nat :=
  (s.chans.filter (fun e => e.2.phase = .halted && e.1 / 64 = k)).foldl (fun n e => n + 2 ^ (e.1 % 64)) 0

/-- A source is asserted exactly while its condition holds (R311). -/
def State.asserted (s : State) (n : Nat) : Bool :=
  if n < 0x40 then s.rg .ircPost n ≠ 0
  else if n < 0x80 then s.chans.any (fun e => e.2.phase = .halted && e.1 / 64 = n - 0x40)
  else if n < 0xC0 then s.rg .movEvt (n - 0x80) ≠ 0 && s.bit .movCfg 1 (n - 0x80)
  else if n < 0x100 then s.bit .carIrq (n - 0xC0)
  else if n = 0x100 then s.bit .carLoop 8
  else if 0x120 ≤ n ∧ n < 0x140 then !(s.box (n - 0x120)).inFifo.isEmpty
  else if 0x140 ≤ n ∧ n < 0x160 then !(s.box (n - 0x140)).outFifo.isEmpty
  else if 0x160 ≤ n ∧ n < 0x180 then s.bit .mbxStat 48 (n - 0x160)
  else if 0x180 ≤ n ∧ n < 0x18A then s.fld .lnkEvt 7 0 (n - 0x180) ≠ 0
  else if n = 0x18A then s.bit .fnzPort 1 0
  else if n = 0x18B then s.bit .fnzPort 1 1
  else if n = 0x1A0 then !s.errFifo.isEmpty
  else if n = 0x1A1 then s.bit .ircTevt 0
  else if n = 0x1A2 then s.fld .anaSalarm 12 0 ≠ 0
  else if n = 0x1A3 then s.bit .pwrPaceWin 40
  else if n = 0x1A4 then s.rg .anaTampEvt ≠ 0
  else if n = 0x1A5 then s.locked
  else false

/-- Fields of IRC_SRC. -/
def State.srcEn (s : State) (n : Nat) : Bool := s.bit .ircSrc 0 n && s.fld .ircSrc 26 24 n ≤ 5
def State.srcTgt (s : State) (n : Nat) : Nat := s.fld .ircSrc 26 24 n
def State.srcLevel (s : State) (n : Nat) : Nat := s.fld .ircSrc 3 1 n
def State.srcPrio (s : State) (n : Nat) : Nat := s.fld .ircSrc 15 8 n
def State.srcVec (s : State) (n : Nat) : Nat := s.fld .ircSrc 44 32 n

/-- IRC_SRC of a source as the delivery decision that has it in service, or entered, found it (R324). -/
def State.srcDecided (s : State) (n : Nat) : Nat := (tabGet none s.irc.decided n).getD (s.rg .ircSrc n)

/-- A source in service at some core. -/
def State.inServiceCore (s : State) (n : Nat) : Bool := (List.range 4).any (fun c => n ∈ (s.core c).stack)

/-- A source that the outstanding message of a host vector other than `but` reported (R324). -/
def State.servedAt (s : State) (n but : Nat) : Bool := s.irc.served.any (fun e => e.1 ≠ but && e.1 ∈ s.irc.inService && n ∈ e.2)

/-- A source is pending (R313): in service at no target. -/
def State.srcPending (s : State) (n : Nat) : Bool :=
  s.asserted n && s.srcEn n && !s.inServiceCore n && !s.servedAt n 0x10000

/-- A source that some core other than `but` is entering: its delivery is decided (R324). -/
def State.entered (s : State) (n but : Nat) : Bool := (List.range 4).any (fun c => c ≠ but && (s.core c).entry = some n)

/-- The least TIME of a source's delivery (R30): after the message, the error record or the other stamped event that asserts it. -/
def State.srcAfter (s : State) (n : Nat) : Nat :=
  max (tabGet 0 s.irc.cause n)
    (if 0x120 ≤ n ∧ n < 0x140 then ((s.box (n - 0x120)).inFifo.head?.map (·.enq + 1)).getD 0
     else if 0x140 ≤ n ∧ n < 0x160 then ((s.box (n - 0x140)).outFifo.head?.map (·.enq + 1)).getD 0
     else if n = 0x1A0 then (s.errFifo.head?.map (·.stamp.time + 1)).getD 0
     else 0)

/-! ### Damper (R323) -/

/-- Whether a group's interval has ended: 10 ns units from its last delivery. -/
def State.damperFree (s : State) (g : Nat) : Bool :=
  match tabGet none s.irc.lastDelivery g with
  | none => true
  | some t => nsPassed t s.clock (10 * s.fld .ircDamp 19 0 g)

/-- An interrupt is held back by its group's interval and counted once in it (R323). `id` is the source, or
0x10000 + 8,192 x port + vector. -/
def State.damperHold (s : State) (g id : Nat) : State :=
  if (g, id) ∈ s.irc.dampHeld then s
  else { (s.addFld .ircDamp 47 32 1 g) with irc := { s.irc with dampHeld := s.irc.dampHeld ++ [(g, id)] } }

/-! ### Cores (R315 to R320) -/

/-- Whether source `a` comes before source `b` (R315). -/
def State.srcBefore (s : State) (a b : Nat) : Bool :=
  let la := s.srcLevel a; let lb := s.srcLevel b
  let pa := s.srcPrio a; let pb := s.srcPrio b
  la < lb || (la = lb && (pa < pb || (pa = pb && a < b)))

/-- Whether a source may pre-empt a core whose in-service stack is `stack` (R316). -/
def State.preempts (s : State) (core : Nat) (stack : List Nat) (n : Nat) : Bool :=
  stack.length < 8 && !s.bit .ircMcGate (8 * core + s.srcLevel n)
  && (match stack with | [] => true | t :: _ => s.srcLevel n < fieldOf 3 1 (s.srcDecided t))

/-- The sources that R311 lists. -/
def sourceNumbers : List Nat := (List.range 0x101) ++ ((List.range 0xA6).map (0x120 + ·))

/-- The pending sources that may pre-empt a core (R316). -/
def State.candidates (s : State) (core : Nat) : List Nat :=
  sourceNumbers.filter (fun n => s.srcTgt n = core && s.srcPending n && !s.entered n core && s.preempts core (s.core core).stack n)

/-- The first of a list by R315. -/
def State.firstSrc (s : State) : List Nat → Option Nat
  | [] => none
  | a :: r => match s.firstSrc r with
    | none => some a
    | some b => if s.srcBefore b a then some b else some a

/-- A core begins to enter a source, under IRC_SRC as it is now (R316, R324). -/
def State.enterSource (s : State) (core n : Nat) : State :=
  let t := s.setCore core { s.core core with entry := some n }
  { t with irc := { t.irc with decided := tabSet none t.irc.decided n (some (s.rg .ircSrc n)) } }

/-- The delivery decision of a core (R315, R316, R323): sources whose group is held are counted, and the first of the others
is entered. A core that has an entry in progress decides nothing. -/
def State.decideEntryMc (s : State) (core : Nat) : State :=
  if s.locked ∨ (s.core core).entry.isSome then s
  else
    let l := s.candidates core
    let held := l.filter (fun n => !s.damperFree (s.fld .ircSrc 21 16 n))
    let s := held.foldl (fun t n => t.damperHold (t.fld .ircSrc 21 16 n) n) s
    match s.firstSrc (l.filter (fun n => s.damperFree (s.fld .ircSrc 21 16 n))) with
    | none => s
    | some n => s.enterSource core n

/-- A handler returns (R318): a pending source that pre-empts the context returned to is entered by a hand-on. In thread mode with
nothing to enter the core sleeps or goes on, as its firmware has it (log entry 88), but not while CAR_MCEV wakes it. -/
def State.handlerReturns (s : State) (core : Nat) : State :=
  let t := s.decideEntryMc core
  let x := t.core core
  if t.locked ∨ x.entry.isSome ∨ x.stack ≠ [] ∨ t.bit .carMcev core then t
  else t.setCore core { x with asleep := Config.mcSleeps core t.clock }

/-- A late arrival takes the entry over (R317): the first pending source of a strictly lower LEVEL. -/
def State.lateArrival (s : State) (core : Nat) : State :=
  let x := s.core core
  match x.entry with
  | none => s
  | some n =>
    if s.locked then s
    else match s.firstSrc ((s.candidates core).filter (fun a =>
        s.srcLevel a < fieldOf 3 1 (s.srcDecided n) && s.damperFree (s.fld .ircSrc 21 16 a))) with
      | some a => s.enterSource core a
      | none => s

/-- A write of IRC_MC_EOI (R319). -/
def State.eoi (s : State) (core n : Nat) : State :=
  let x := s.core core
  s.setCore core { x with stack := x.stack.filter (· ≠ n) }

/-- IRC_MC_CUR. -/
def State.viewMcCur (s : State) (core : Nat) : Nat :=
  let st := (s.core core).stack
  match st with
  | [] => 0
  | n :: _ => n + fieldOf 15 8 (s.srcDecided n) * 2 ^ 32 + st.length * 2 ^ 48

/-! ### Host vectors (R312, R314, R321, R322) -/

/-- The enabled asserted sources routed to a vector. -/
def State.vecRouted (s : State) (port v : Nat) : List Nat :=
  sourceNumbers.filter (fun n => s.asserted n && s.srcEn n && s.srcTgt n = 4 + port && s.srcVec n = v)

/-- Those of them that no other target has in service or is to deliver (R324). -/
def State.vecSources (s : State) (port v : Nat) : List Nat :=
  (s.vecRouted port v).filter (fun n => !s.inServiceCore n && !s.entered n 4 && !s.servedAt n (8192 * port + v))

/-- The interrupt condition of a CQ (R151). -/
def State.cqCond (s : State) (q : Nat) : Bool :=
  let x := s.cq q
  x.exists_ && x.conf.cfg.testBit 32 && (0 < s.cqCount q || 0 < x.balCount)

/-- Whether a CQ condition names the vector. -/
def State.vecCqs (s : State) (port v : Nat) : Bool :=
  s.cqs.any (fun e => s.cqCond e.1 && b2n (e.2.conf.cfg.testBit 33) = port && fieldOf 60 48 e.2.conf.cfg = v)

/-- The condition of a host vector (R314). -/
def State.vecCond (s : State) (port v : Nat) : Bool := !(s.vecSources port v).isEmpty || s.vecCqs port v

def State.vecInService (s : State) (port v : Nat) : Bool := (8192 * port + v) ∈ s.irc.inService

/-- PENDING: the condition is true and no message is outstanding (R321). -/
def State.vecPending (s : State) (port v : Nat) : Bool := s.vecCond port v && !s.vecInService port v

/-- Whether R322 holds the vector's message. -/
def State.vecHeld (s : State) (port v : Nat) : Bool :=
  let p := s.port port
  !p.msixEnable || p.functionMask || (s.msix port v).masked || !p.busMaster || p.d3hot

/-- Whether a vector that R322 holds is PENDING: not where a host reset left it IDLE (R325). -/
def State.vecHeldPending (s : State) (port v : Nat) : Bool :=
  s.vecPending port v && s.vecHeld port v && !s.irc.idled.contains (8192 * port + v)

/-- What a host reset left IDLE is PENDING again once R322 allows, or once its condition has fallen and rises again, and stays so if R322
holds it anew (R321, R325). -/
def State.idledNow (s : State) : State :=
  { s with irc := { s.irc with idled := s.irc.idled.filter (fun x => s.vecHeld (x / 8192) (x % 8192) && s.vecCond (x / 8192) (x % 8192)) } }

/-- The vectors of a port that have a source or a CQ. -/
def State.vecsOf (s : State) (port : Nat) : List Nat :=
  ((sourceNumbers.filter (fun n => s.asserted n && s.srcEn n && s.srcTgt n = 4 + port)).map s.srcVec
    ++ (s.cqs.filter (fun e => s.cqCond e.1 && b2n (e.2.conf.cfg.testBit 33) = port)).map (fun e => fieldOf 60 48 e.2.conf.cfg)).eraseDups

/-- LEVEL and PRIO of a vector (R315). -/
def State.vecRank (s : State) (port v : Nat) : Nat × Nat :=
  match s.firstSrc (s.vecSources port v) with
  | some n => (s.srcLevel n, s.srcPrio n)
  | none => (s.fld .ircVcfg 18 16 port v, s.fld .ircVcfg 15 8 port v)

def State.vecGrp (s : State) (port v : Nat) : Nat := s.fld .ircVcfg 5 0 port v

/-- Whether vector `a` comes before vector `b` (R315). -/
def State.vecBefore (s : State) (port a b : Nat) : Bool :=
  let x := s.vecRank port a
  let y := s.vecRank port b
  x.1 < y.1 || (x.1 = y.1 && (x.2 < y.2 || (x.2 = y.2 && a < b)))

def State.firstVec (s : State) (port : Nat) : List Nat → Option Nat
  | [] => none
  | a :: r => match s.firstVec port r with
    | none => some a
    | some b => if s.vecBefore port b a then some b else some a

/-- The least TIME of a vector's message (R30). -/
def State.vecAfter (s : State) (port v : Nat) : Nat :=
  let q := (s.cqs.filter (fun e => s.cqCond e.1 && b2n (e.2.conf.cfg.testBit 33) = port && fieldOf 60 48 e.2.conf.cfg = v)).map (0x1000 + ·.1)
  max ((s.vecSources port v).foldl (fun m n => max m (s.srcAfter n)) 0) (q.foldl (fun m n => max m (tabGet 0 s.irc.cause n)) 0)

/-- Whether an interrupt that a Damper group held is still due; `id` as in `damperHold`. -/
def State.stillDue (s : State) (id : Nat) : Bool :=
  if id < 0x10000 then s.srcPending id
  else s.vecPending ((id - 0x10000) / 8192) (id % 8192) && !s.vecHeld ((id - 0x10000) / 8192) (id % 8192)

/-- A delivery of a group: the interrupts that it held besides are held back by the new interval, and counted in it (R323). -/
def State.damperMark (s : State) (g id : Nat) : State :=
  let rest := s.irc.dampHeld.filter (fun e => decide (e.1 ≠ g) || (decide (e.2 ≠ id) && s.stillDue e.2))
  let t := { s with irc := { s.irc with lastDelivery := tabSet none s.irc.lastDelivery g (some s.clock), dampHeld := rest } }
  t.addFld .ircDamp 47 32 (rest.filter (fun e => e.1 = g)).length g

/-- The commit point of an entry (R316): the source goes in service, is stamped IRQ and starts its Damper interval, and the core is
awake (R320). A source that deasserts or is rerouted after the decision is delivered all the same (R324, R327). Where a delivery or
message of the Damper group came between, the entry does not complete and the source stays pending (R323). -/
def State.commitEntry (s : State) (core : Nat) : State :=
  let x := s.core core
  match x.entry with
  | none => s
  | some n =>
    let g := fieldOf 21 16 (s.srcDecided n)
    if s.locked then s
    else if !s.damperFree g then (s.damperHold g n).setCore core { x with entry := none }
    else
      let (y, t) := s.stamp 0x63 (s.srcAfter n)
      let t := t.logClass 5 ⟨y, 0x06, core, n, 0, 0⟩
      (t.setCore core { x with entry := none, stack := n :: x.stack, asleep := false }).damperMark g n

/-- The MSI-X message of a vector (R321): the Memory Write on the port, the IRQ record, IN_SERVICE, the Damper. -/
def State.sendMessage (s : State) (port v : Nat) : State :=
  let src := (s.vecRouted port v).head?.getD 0xFFF
  let (y, t) := s.stamp 0x63 (s.vecAfter port v)
  let t := t.logClass 5 ⟨y, 0x06, 4 + port, src, v, 0⟩
  let e := t.msix port v
  let t := if t.linkUp port then t.extWrite (1 + port) (atAddr e.addr.toNat (natLe 4 e.data.toNat)) else t
  ({ t with irc := { t.irc with inService := t.irc.inService ++ [8192 * port + v]
                                served := tabSet [] t.irc.served (8192 * port + v) (s.vecSources port v) } }).damperMark
        (t.vecGrp port v) (0x10000 + 8192 * port + v)

/-- The next message of a port (R315, R321 to R323). -/
def State.nextMessage (s : State) (port : Nat) : State :=
  let l := (s.vecsOf port).filter (fun v => s.vecPending port v && !s.vecHeld port v)
  let held := l.filter (fun v => !s.damperFree (s.vecGrp port v))
  let s := held.foldl (fun t v => t.damperHold (t.vecGrp port v) (0x10000 + 8192 * port + v)) s
  match s.firstVec port (l.filter (fun v => s.damperFree (s.vecGrp port v))) with
  | none => s
  | some v => s.sendMessage port v

/-- A write of IRC_VCOMP (R321). -/
def State.vcomp (s : State) (port v : Nat) : State :=
  { s with irc := { s.irc with inService := s.irc.inService.filter (· ≠ 8192 * port + v)
                               served := tabSet [] s.irc.served (8192 * port + v) [] } }

/-- Every vector of a port goes to IDLE (R325, R366); those whose condition is true are PENDING again once R322 allows. -/
def State.idleVectors (s : State) (port : Nat) : State :=
  let t := { s with irc := { s.irc with inService := s.irc.inService.filter (fun x => x / 8192 ≠ port)
                                        served := s.irc.served.filter (fun e => e.1 / 8192 ≠ port) } }
  { t with irc := { t.irc with idled := t.irc.idled.filter (fun x => x / 8192 ≠ port) ++ (t.vecsOf port).map (8192 * port + ·) } }

/-- IRC_VSTAT. -/
def State.viewVstat (s : State) (port v : Nat) : Nat :=
  if s.vecInService port v then 2
  else if s.vecCond port v then (if s.vecHeld port v then (if s.vecHeldPending port v then 5 else 0) else 1)
  else 0

/-- A word of the Pending Bit Array (R322). -/
def State.viewPba (s : State) (port k : Nat) : Nat :=
  ((s.vecsOf port).filter (fun v => v / 64 = k && s.vecHeldPending port v)).foldl (fun n v => n + 2 ^ (v % 64)) 0

/-- A word of a bit view over sources. -/
def srcBits (k : Nat) (p : Nat → Bool) : Nat :=
  ((sourceNumbers.filter (fun n => n / 64 = k)).filter p).foldl (fun a n => a + 2 ^ (n % 64)) 0

/-- Whether an interrupt that a Damper group held can be delivered now; `id` as in `damperHold`. -/
def State.dampReady (s : State) (id : Nat) : Bool :=
  if id < 0x10000 then decide (s.srcTgt id < 4) && (s.core (s.srcTgt id)).entry.isNone && (s.candidates (s.srcTgt id)).contains id
  else s.stillDue id

/-- LEVEL, PRIO and number of an interrupt that a group held, vectors after sources, as one number in the order of R315. -/
def State.dampRank (s : State) (id : Nat) : Nat :=
  let (l, p) := if id < 0x10000 then (s.srcLevel id, s.srcPrio id) else s.vecRank ((id - 0x10000) / 8192) (id % 8192)
  (l * 2 ^ 8 + p) * 2 ^ 20 + id

/-- The first of some held interrupts in the order of R315. -/
def State.firstHeld (s : State) : List Nat → Option Nat
  | [] => none
  | a :: r => match s.firstHeld r with
    | none => some a
    | some b => if s.dampRank b < s.dampRank a then some b else some a

/-- The interval of a group ends (R323): the first of the interrupts that it held, in the order of R315, is delivered, as far as its
target can take it; the delivery starts the next interval. -/
def State.damperEnd (s : State) (g : Nat) : State :=
  if s.damperFree g then
    let s := { s with irc := { s.irc with dampHeld := s.irc.dampHeld.filter (fun e => decide (e.1 ≠ g) || s.stillDue e.2) } }
    match s.firstHeld (((s.irc.dampHeld.filter (fun e => e.1 = g)).map (·.2)).filter s.dampReady) with
    | none => s
    | some id => if id < 0x10000 then s.decideEntryMc (s.srcTgt id) else s.sendMessage ((id - 0x10000) / 8192) (id % 8192)
  else s

end Sys2Proof.Machine
end

