-- ==== Sys2Proof/Machine/Links.lean ====
section
/-! DEFINITION. Links (R362 to R380): their events, going down and coming up, Recovery, what becomes of the accesses on a link
that fails, drives that lose their link, fault windows of links (R330 to R332), and what waits on zero-length reads (R179). -/

namespace Sys2Proof.Machine

/-! ### Events -/

/-- A link event (R373): its bit is set and the link's Carillon source fires in the same handshake. A Fenuz port latches its
event in FNZ_PORT.LCHG. -/
def State.linkEvent (s : State) (k bit : Nat) : State :=
  let t := if k < 10 then s.setBit .lnkEvt bit true k else s.setBit .fnzPort 1 true (k - 10)
  t.emit (0x1E0 + k) (t.time.now + 1) 0

/-- Whether the registers of a link are its own: link 1 of a port that is not bifurcated has none (R362). -/
def State.linkPresent (s : State) (k : Nat) : Bool := k < 2 || k % 2 = 0 || 10 ≤ k || s.bifurcated ((k - 2) / 2)

/-- The registers of link 1 of an x8 port hold their reset values (R362); its BKP_PERST_N stays as it is (R422). -/
def State.clearLink (s : State) (k : Nat) : State :=
  ((((s.setRg .lnkStat (Reg.reset ⟨.lnkStat, k, 0⟩) k).setRg .lnkEvt (Reg.reset ⟨.lnkEvt, k, 0⟩) k).setRg .lnkCtl
    (Reg.reset ⟨.lnkCtl, k, 0⟩) k).setRg .bkpWin (Reg.reset ⟨.bkpWin, k, 0⟩) k).setLink k
    { link0 with perstAt := (s.link k).perstAt, present := (s.link k).present }

/-! ### What waits on zero-length reads (R179, R221, R225) -/

/-- A SIGNAL fires its channel and ends (R221, R307). -/
def State.signalFires (s : State) (c : Nat) : State :=
  let ch := s.chan c
  let t := s.setChan c { ch with dirty := [] }
  (t.ring [⟨ch.head.cmd.param % 256, 0, 0x2000 + c, ch.cause + 1⟩]).endCmd c 0 0 0

/-- The record of a POST (R224): the words at +0x08 to +0x1F and the word at +0x00. -/
def postRecord (e : Ending) (user : Nat) (x : Stamp) : List Byte :=
  natLe 8 (wbWordOf e.resid e.detail e.code + 1) ++ natLe 8 user ++ x.bytes

/-- A POST takes its Stamp and goes on to its writes (R225). -/
def State.postWrites (s : State) (c : Nat) : State :=
  let ch := s.chan c
  let (x, t) := s.stamp (cpDomain c) (ch.cause + 1)
  t.setChan c { t.chan c with stage := .cpWrite, cpStep := 0, dirty := [], cause := x.time
                              pin := some (t.linkOf ch.head.cmd.zd ch.head.cmd.dst)
                              stream := { ch.stream with result := postRecord ch.report ch.head.cmd.param x } }

/-- Every zero-length read has ended: what waited goes on. -/
def State.afterSync (s : State) (c : Nat) : State :=
  match (s.chan c).after with
  | .finish => s.finishCmd c
  | .signal => s.signalFires c
  | .post => s.postWrites c

/-- A zero-length read on link `k` ends, whatever its status (R179). -/
def State.syncDone (s : State) (c k : Nat) : State :=
  let ch := s.chan c
  if ch.syncing ∧ k ∈ ch.syncs then
    let l := ch.syncs.filter (· ≠ k)
    let t := s.setChan c { ch with syncs := l, dirty := ch.dirty.filter (· ≠ k), tags := ch.tags.filter (· ≠ k) }
    if l = [] then t.afterSync c else t
  else s

/-! ### Accesses on a link that fails -/

/-- The transfer that holds a burst outstanding on a link, with whether it is in the tracker. -/
def State.burstOn (s : State) (m k : Nat) : Option (Bool × Transfer × Burst) :=
  let x := s.mover m
  let pick := fun (w : Bool) (o : Option Transfer) => o.bind (fun t =>
    (t.bursts.find? (fun b => b.on = some k)).map (fun b => (w, t, b)))
  (pick true x.tracker).or (pick false x.active)

/-- The failure of a burst's link access. -/
def State.linkFailure (s : State) (t : Transfer) (b : Burst) (cause : Nat) : Failure :=
  if b.stage = .reading then
    failWith cause 0x20 (readZone t b) 1 ((s.burstReads t b).headD 0 / 64 * 64) (t.offOf b.lo)
  else failWith cause 0x21 b.wz 2 ((b.out.map (·.1)).headD 0) (t.outOff b)

/-- Every access of a mover outstanding on a link fails (R248, R249, R375). -/
def State.moverLinkFails (s : State) (m k : Nat) : Nat → State
  | 0 => s
  | n + 1 =>
    match s.burstOn m k with
    | none => s.work m
    | some (tracked, t, b) => (s.burstFails m tracked b (s.linkFailure t b 7)).moverLinkFails m k n

/-- The accesses that a channel processor makes itself on a link fail (R186, R375), each on the link on which it was issued. -/
def State.chanLinkFails (s : State) (c k : Nat) : State :=
  let ch := s.chan c
  let h := ch.head.cmd
  if ch.cpWrites then
    if h.zd ≠ 0 ∧ s.writeLink c = some k then s.cpError c (failWith 7 0x21 h.zd 2 h.dst 0) false else s
  else if ch.syncing then s.syncDone c k
  else match s.ownRead c with
  | none => s
  | some (z, a) =>
    let f := failWith 7 0x20 z 1 (a / 64 * 64) 0
    if s.onLink c z a ≠ some k then s
    else if ch.phase = .fetch then (s.readOver c).fetchFails c f
    else if ch.phase = .halted then s.relSkip c (.fail 7 0)
    else if s.memberDue c then (s.readOver c).memberFails c a f
    else (s.readOver c).cpError c f false

/-- The drive behind a link is detached, and its NVME commands end LINK_DOWN (R213, R376). -/
def State.detachDrive (s : State) (d : Nat) : State :=
  let t := s.setDrive d drive0
  if t.locked then t
  else t.chans.foldl (fun t e =>
    let ch := t.chan e.1
    if ch.phase = .active ∧ (ch.stage = .drvRun ∨ ch.stage = .drvSlot) ∧ (ch.drv.map (·.1)) = some d then
      t.endCmd e.1 0x52 0x0002 ch.total
    else t) t

/-- What a link's failure does to the accesses outstanding on it. Late results of abandoned ones are stale (R337). -/
def State.accessesFail (s : State) (k : Nat) : State :=
  let old := s.stale.filter (fun a => a.link = k)
  let t := { s with stale := s.stale.filter (fun a => a.link ≠ k) }
  let t := old.foldl (fun t a => t.staleRecord a.domain 2 a.unit (k + 7 * 2 ^ 8) a.addr) t
  if t.locked then t
  else
    let t := (List.range 64).foldl (fun t m => t.moverLinkFails m k 32) t
    let t := (t.chans.map (·.1)).foldl (fun t c => t.chanLinkFails c k) t
    t.ringsFail k

/-- The SerDes lanes of a link, by first lane and number (R398). -/
def State.lanesOf (s : State) (k : Nat) : Nat × Nat :=
  if k < 2 then (16 * k, 16)
  else if 10 ≤ k then (54 + k, 1)
  else
    let p := (k - 2) / 2
    if s.bifurcated p then (32 + 8 * p + 4 * (k % 2), 4) else (32 + 8 * p, 8)

/-- The lanes of a link that goes down are adapted no longer (R398). -/
def State.lanesDown (s : State) (k : Nat) : State :=
  let (a, n) := s.lanesOf k
  (List.range n).foldl (fun t i => t.setBit .anaLane ((a + i) % 64) false ((a + i) / 64)) s

/-- A link goes down (R373, R375, R376). -/
def State.linkFalls (s : State) (k : Nat) : State :=
  if 10 ≤ k then
    let p := k - 10
    if s.bit .fnzPort 0 p then
      let t := { s with fenuz := { s.fenuz with txWait := s.fenuz.txWait.filter (·.1 ≠ p), calUntil := tabSet 0 s.fenuz.calUntil p 0 } }
      ((t.lanesDown k).setBit .fnzPort 0 false p).linkEvent k 1
    else s
  else if !s.linkUp k then s
  else
    let st := s.rg .lnkStat k
    let t := (s.lanesDown k).setRg .lnkStat (st % 4 / 2 * 2) k
    let t := t.setLink k { t.link k with recovering := none, replaying := false }
    let t := (t.linkEvent k 1).accessesFail k
    if 2 ≤ k then t.detachDrive (k - 2) else t

/-- LNK_STAT shows whether a drive stands at a link that is there (R372, R422). -/
def State.showPresent (s : State) (k : Nat) : State := if s.linkPresent k then s.setBit .lnkStat 1 (s.link k).present k else s

/-- A port trains from Detect and takes BIF, unless its link is disabled (R370). The second link of a port that becomes x8 has gone down
by then. -/
def State.portTrains (s : State) (p : Nat) : State :=
  let k := 2 + 2 * p
  if s.bit .lnkCtl 9 k then s
  else
    let two := s.bit .lnkCtl 8 k
    let t := if two then s else s.linkFalls (k + 1)
    let t := t.setLink k { t.link k with twoLinks := two }
    ((if two then t else t.clearLink (k + 1)).showPresent k).showPresent (k + 1)

/-- A link reports DL_Down, and its port trains again (R370, R373). -/
def State.linkDown (s : State) (k : Nat) : State :=
  if 2 ≤ k ∧ k < 10 ∧ s.linkUp k then (s.linkFalls k).portTrains ((k - 2) / 2) else s.linkFalls k

/-- Whether a link may come up: enabled, powered, out of its reset, and there; a host's once the store is zeroed (R384). -/
def State.mayTrain (s : State) (k : Nat) : Bool :=
  if k < 2 then s.bit .lnkStat 1 k && !s.store.zeroing
  else if k < 10 then
    s.linkPresent k && !s.bit .lnkCtl 9 k && !s.bit .pwrLane k && (s.link k).perstAt.isNone
  else s.bit .fnzCfg (k - 10) && !s.bit .pwrLane k

/-- LNK_CTL.MAXSPD as it acts. -/
def State.maxSpeed (s : State) (k : Nat) : Nat :=
  let v := s.fld .lnkCtl 2 0 k
  if v = 0 ∨ v = 7 then 6 else v

/-- The greatest width of a link (R362). -/
def State.maxWidth (s : State) (k : Nat) : Nat := if k < 2 then 16 else if s.bifurcated ((k - 2) / 2) then 4 else 8

/-! ### What a Fenuz port sends (R355, R400) -/

/-- Whether a port may send: its link is up, and no duplicate of the NODE has been heard (R355). -/
def State.fnzMaySend (s : State) (p : Nat) : Bool := s.bit .fnzPort 0 p && !s.bit .fnzStat 56

/-- The time that a loopback measurement takes, at most 4 us (R400, log entry 113). -/
def calLength : Nat := 4 * second / 1000000

/-- Whether a Time lies inside a port's loopback measurement, by the clock. -/
def State.inMeasure (s : State) (p t : Nat) : Bool :=
  let c := ((t : Int) - s.time.stepped).toNat
  let e := tabGet 0 s.fenuz.calUntil p
  e ≤ c + calLength && c < e

/-- Whether a port measures its delays now, and so transmits nothing. -/
def State.measuring (s : State) (p : Nat) : Bool := s.clock < tabGet 0 s.fenuz.calUntil p

/-- The transmit and the receive delay that a port measured last, which correct its stamp points. -/
def State.txDelay (s : State) (p : Nat) : Nat := (tabGet (0, 0) s.fenuz.delays p).1
def State.rxDelay (s : State) (p : Nat) : Nat := (tabGet (0, 0) s.fenuz.delays p).2

/-- The frames that a port kept queued while it measured go out after it, in their order (R400). -/
def State.fnzDrain (s : State) : State :=
  let goes := fun (e : Nat × List Byte) => s.fnzMaySend e.1 && !s.measuring e.1
  if s.fenuz.txWait.any goes then
    { s with fenuz := { s.fenuz with tx := s.fenuz.tx ++ s.fenuz.txWait.filter goes, txWait := s.fenuz.txWait.filter (fun e => !goes e) } }
  else s

/-- A frame leaves a port, or waits there for the end of its measurement. -/
def State.fnzPut (s : State) (p : Nat) (b : List Byte) : State :=
  let t := s.fnzDrain
  if !t.fnzMaySend p then t
  else if t.measuring p then { t with fenuz := { t.fenuz with txWait := t.fenuz.txWait ++ [(p, b)] } }
  else { t with fenuz := { t.fenuz with tx := t.fenuz.tx ++ [(p, b)] } }

/-- A link reports DL_Up (R364, R373). At 64 GT/s it is in FLIT mode (R363). -/
def State.linkComesUp (s : State) (k speed width : Nat) (flit : Bool) : State :=
  if !s.mayTrain k then s
  else if 10 ≤ k then
    let p := k - 10
    if s.bit .fnzPort 0 p then s
    else (({ s with fenuz := { s.fenuz with calDue := s.fenuz.calDue.filter (· ≠ p) ++ [p] } }).setBit .fnzPort 0 true p).linkEvent k 0
  else if s.linkUp k || speed = 0 then s
  else
    let st := s.rg .lnkStat k
    let v := 1 + st % 4 / 2 * 2 + b2n (flit || min speed (s.maxSpeed k) = 6) * 4
      + min speed (s.maxSpeed k) * 2 ^ 4 + min width (s.maxWidth k) * 2 ^ 8 + 3 * 2 ^ 16
    (s.setRg .lnkStat v k).linkEvent k 0

/-- A link enters Recovery (R374). -/
def State.enterRecovery (s : State) (k : Nat) : State :=
  if s.linkUp k && (s.link k).recovering.isNone then
    ((s.setFld .lnkStat 19 16 4 k).addFld .lnkEvt 63 48 1 k).setLink k
      { s.link k with recovering := some s.clock, replaying := false }
  else s

/-- A link returns to L0 (R374). -/
def State.leaveRecovery (s : State) (k : Nat) : State :=
  if (s.link k).recovering.isSome then
    (s.setFld .lnkStat 19 16 3 k).setLink k { s.link k with recovering := none }
  else s

/-- LNK_CTL.DISABLE takes effect (R364). -/
def State.linkDisable (s : State) (k : Nat) : State :=
  if s.bit .lnkCtl 9 k then (s.linkDown k).setFld .lnkStat 19 16 6 k
  else if s.fld .lnkStat 19 16 k = 6 then (s.setFld .lnkStat 19 16 0 k).portTrains ((k - 2) / 2)
  else s

/-- LNK_CTL.BIF of link 0 of a port has changed (R370): both links go through Detect at once, unless DISABLE is 1. -/
def State.bifChange (s : State) (p : Nat) : State :=
  let k := 2 + 2 * p
  if s.bit .lnkCtl 9 k then s else (((s.linkFalls k).linkFalls (k + 1)).portTrains p)

/-- PWR_LANE takes effect on link `k` (R397). -/
def State.laneChange (s : State) (k : Nat) : State := if s.bit .pwrLane k then s.linkDown k else s

/-- BKP_IRQ: a write scans a completion queue of the link's drive (R379). -/
def State.scanRequest (s : State) (k qid : Nat) : State :=
  let d := s.drive (k - 2)
  if d.attached && qid ≤ 256 && !(qid ∈ d.scanDue) then s.setDrive (k - 2) { d with scanDue := d.scanDue ++ [qid] } else s

/-! ### Fault windows of links (R330 to R332) -/

/-- FLT_LWIN and FLT_LTHR as they act. -/
def State.lwin (s : State) : Nat := clampTo 1000 60000000 (s.fld .fltLwin 31 0)

/-- FLT_LINK[k].WCNT: 0 once the window has closed. -/
def State.linkWcnt (s : State) (k : Nat) : Nat :=
  match (s.link k).window with
  | some t => if usPassed t s.clock s.lwin then 0 else s.fld .fltLink 23 16 k
  | none => 0

/-- A correctable error of a link (R330 to R332). With a Replay Timer Timeout the data link layer replays its TLPs (R334; log entry 97). -/
def State.linkCeEvent (s : State) (k kind : Nat) : State :=
  let n := s.linkWcnt k
  let cnt := min 255 (n + 1)
  let t := if n = 0 then s.setLink k { s.link k with window := some s.clock } else s
  let t := (t.setFld .fltLink 23 16 cnt k).addFld .fltLink 63 32 1 k
  let t := t.fault (linkDomain k) 0x0A k (kind + cnt * 2 ^ 16) 0
  let t := if kind = 4 && k < 10 && t.linkUp k && (t.link k).recovering.isNone then t.setLink k { t.link k with replaying := true } else t
  if max 1 (t.fld .fltLthr 7 0) ≤ n + 1 ∧ ¬ t.bit .fltLink 0 k then
    (t.setBit .fltLink 0 true k).fault (linkDomain k) 0x0B k (cnt * 2 ^ 16) 0
  else t

/-- Writing LASTING with 1 clears it and closes the link's window. -/
def State.clearLasting (s : State) (k : Nat) : State :=
  ((s.setBit .fltLink 0 false k).setFld .fltLink 23 16 0 k).setLink k { s.link k with window := none }

/-! ### Host ports (R366, R377, R388) -/

/-- The endpoint's configuration space and MSI-X Table take their reset values, and its vectors go to IDLE (R366). -/
def State.functionReset (s : State) (p : Nat) : State :=
  let t := s.setPort p port0
  ({ t with irc := { t.irc with table := t.irc.table.filter (fun e => e.1 / 8192 ≠ p) } }).idleVectors p

end Sys2Proof.Machine
end

