-- ==== Sys2Proof/Machine/TimeOps.lean ====
section
/-! DEFINITION. The time core and the stamp-log writer (R20 to R46): references, PPS, steps, the status record, and the drain FIFO's
way into the ring. -/

namespace Sys2Proof.Machine

/-! ### References and steps -/

/-- TIME_CTL.REF_SEL as it acts. -/
def State.refSel (s : State) : Nat := let v := s.fld .timeCtl 5 4; if v = 3 then 0 else v

/-- The DOMAINs that R23 lists, each with a stamp point. -/
def domainUsed (d : Nat) : Bool :=
  d ≤ 0x10 || (0x20 ≤ d && d ≤ 0x64) || (0x68 ≤ d && d ≤ 0x6B) || d = 0x70 || d = 0x71 || (0x74 ≤ d && d ≤ 0x79) || d = 0x7F

/-- The range of rail r at the die, in mV (R381). -/
def railRange (r : Nat) : Nat × Nat :=
  match r with
  | 0 => (620, 880) | 1 => (776, 824) | 2 => (825, 875) | 3 => (1164, 1236) | _ => (1710, 1890)

/-- Whether a rail's reading is in its range. -/
def railOk (r mv : Nat) : Bool := (railRange r).1 ≤ mv && mv ≤ (railRange r).2

/-- Whether stamp-point calibration is current (R399): both converters of every stamp point have completed a calibration within
10 ms, and the last reading of VDDA, if there is one, is in range. -/
def State.tdcCurrent (s : State) : Bool :=
  (!s.ana.vddaRead || railOk 2 (s.rg .anaVolt 2))
  && (List.range 128).all (fun d => !domainUsed d || [2 * d, 2 * d + 1].all (fun k => match tabGet none s.ana.tdcCal k with
    | some t => (s.clock - t) * 1000000 ≤ 10000 * second
    | none => false))

/-- TIME_UNC.ALIGN: 44 LSB more while stamp-point calibration is not current (R399). -/
def State.alignNow (s : State) : Nat :=
  satAdd 0xFFFFFFFF (s.fld .timeUnc 63 32) (if s.tdcCurrent then 0 else 44)

/-- TIME_UNC.UNC (R31). -/
def State.unc (s : State) : Nat :=
  let a := s.alignNow
  let b := if s.vault.member then (if s.fenuz.falignSeen then s.fld .fnzGm 63 32 else 0xFFFFFFFF) else 0
  if a = 0xFFFFFFFF ∨ b = 0xFFFFFFFF ∨ 0xFFFFFFFF ≤ a + b then 0xFFFFFFFF else a + b

/-- TIME_CTL takes a new value (R32): a change of REF_SEL sets STATE to ACQUIRING; PPS_OUT is held low while its enable is 0;
while PPS_IN is ignored PPS_IN_OK reads 0. -/
def State.timeCtlActs (s : State) (old : Nat) : State :=
  let v := s.rg .timeCtl
  let eff := fun (w : Nat) => let r := fieldOf 5 4 w; if r = 3 then 0 else r
  let t := if eff old ≠ eff v then
      let u := (s.setTimeState 1).setBit .timeStat 4 false
      { u with time := { u.time with lockRun := 0, fastSlew := true } }
    else s
  let t := if !v.testBit 0 then { t with time := { t.time with ppsOut := false } }
    else if !old.testBit 0 then { t with time := { t.time with ppsMark := t.time.now } } else t
  if !v.testBit 1 then ({ t with time := { t.time with ppsInLast := none } }).setBit .timeStat 5 false else t

/-- Time steps (R29, R40): the step is counted and its record is stamped after it; `sub` says which step. Whole seconds that it passes over
or lands on get no TIME_STATUS record (DESIGN CHOICE, log entry 115). -/
def State.timeStep (s : State) (sub : Nat) (dest : Nat) : State :=
  let old := s.time.now
  let m := { s.time with now := dest, lastSecond := dest / second, ppsMark := dest, stepped := s.time.stepped + dest - old }
  let t := { s with time := m }
  let t := t.addFld .timeStat 63 48 1
  let (x, t) := t.logLost.stamp 0 0
  t.logAlways ⟨x, 0x0E, sub, 0, 0, old % 2 ^ 64⟩

/-- The status record of the next whole second that Time has reached (R40): stamped at that second. -/
def State.statusSecond (s : State) (now : Nat) : State :=
  if now / second ≤ s.time.lastSecond then s
  else
    let k := s.time.lastSecond + 1
    let t := { s with time := { s.time with lastSecond := k } }
    let (x, t) := t.logLost.stampAt 0 (k * second) 0
    (t.logAlways ⟨x, 0x0F, t.timeState, 0, t.unc, t.alignNow⟩).emit 0x1C2 (x.time + 1) 0

/-- How far a Time is from the nearest whole second: positive where it is past it. -/
def fromSecond (t : Nat) : Int :=
  let f : Int := ((t % second : Nat) : Int)
  if f * 2 < (second : Int) then f else f - (second : Int)

/-- An edge of PPS_IN (R32). The 1 s of PPS_IN_OK is measured between the Stamps' TIMEs, so a step of Time between two edges counts
(DESIGN CHOICE, log entry 86). -/
def State.ppsEdge (s : State) (rising : Bool) : State :=
  if s.bit .timeCtl 1 && rising != s.bit .timeCtl 2 then
    let (x, t) := s.logLost.stamp 0 0
    let ok := match s.time.ppsInLast with
      | some p => decide (p + second - second / 1000 ≤ x.time ∧ x.time ≤ p + second + second / 1000)
      | none => false
    let t := (t.setRg .timePpsIn (x.time % 2 ^ 64)).setBit .timeStat 5 ok
    let t := { t with time := { t.time with ppsInLast := some x.time
                                            slew := if t.bit .timeStat 8 then - fromSecond x.time else t.time.slew } }
    (t.logAlways ⟨x, 0x0D, 0, 0, 0, 0⟩).emit 0x1C0 (x.time + 1) 0
  else s

/-- TIME_PPS.OFS modulo 1 s. -/
def State.ppsOfs (s : State) : Nat :=
  let v := s.fld .timePps 63 32
  if v.testBit 31 then second - (2 ^ 32 - v) else v

/-- PPS_OUT rises when the fraction of Time crosses OFS since Time began, PPS_OUT was enabled, rose or Time stepped (R35). -/
def State.ppsRises (s : State) : State :=
  let o := second - s.ppsOfs
  if s.bit .timeCtl 0 && !s.time.ppsOut && (s.time.ppsMark + o) / second < (s.time.now + o) / second then
    ({ s with time := { s.time with ppsOut := true, ppsMark := s.time.now, ppsRise := s.clock } }).emit 0x1C1 (s.time.now + 1) 0
  else s

/-- PPS_OUT falls WID us after it rose, whatever steps Time made meanwhile (R35). -/
def State.ppsFalls (s : State) : State :=
  if s.time.ppsOut && usPassed s.time.ppsRise s.clock (clampTo 1 200000 (s.fld .timePps 17 0)) then
    { s with time := { s.time with ppsOut := false } }
  else s

/-- The chosen source is lost (R33). -/
def State.refLost (s : State) : State :=
  if s.refSel = 0 ∨ s.timeState = 3 then s
  else
    let t := (s.setTimeState 3).setBit .timeStat 4 false
    { t with time := { t.time with lockRun := 0 } }

/-- The chosen source returns (R33). -/
def State.refReturns (s : State) : State :=
  if s.refSel = 0 ∨ s.bit .timeStat 4 then s
  else
    let t := (s.setTimeState 1).setBit .timeStat 4 true
    { t with time := { t.time with lockRun := 0, fastSlew := true } }

/-- STATE becomes LOCKED (R33, R353): a Fenuz source needs 16 exchanges within 2 us. ALIGN keeps the value that holdover gave it, which
nothing but an exchange sets anew (DESIGN CHOICE, log entry 87). -/
def State.refLocks (s : State) : State :=
  if s.timeState = 1 ∧ s.bit .timeStat 4 ∧ (s.refSel = 1 ∨ (s.refSel = 2 ∧ 16 ≤ s.time.lockRun)) then
    let t := s.setTimeState 2
    { t with time := { t.time with fastSlew := false } }
  else s

/-! ### The stamp-log writer (R43 to R46) -/

/-- Records of the ring (LOG_CNT). -/
def State.logSize (s : State) : Nat :=
  let n := s.fld .logCnt 4 0
  2 ^ (if 12 ≤ n ∧ n ≤ 22 then n else 21)

/-- A record's slot in the ring. -/
def State.logSlot (s : State) (idx : Nat) : Nat := s.fld .logBase 29 12 * 4096 + idx % s.logSize * 32

/-- The records that the ring has room for under LOG_CTL.MODE (R45). -/
def State.logRoom (s : State) : Nat :=
  if s.bit .logCtl 1 then s.logSize - (s.fld .logWr 31 0 + 2 ^ 32 - s.fld .logRd 31 0) % 2 ^ 32 else 512

/-- One record goes into the ring, by requester 70; outside the store nothing is written (R56), nor in a segment under test
(R102). -/
def State.logWriteOne (s : State) (r : LogRecord) : State :=
  let a := s.logSlot (s.fld .logWr 31 0)
  let t := if ¬ inStore a 32 then s.fault 0x00 0x01 0 2 a
    else if s.underTest a then s else s.put 70 a r.bytes
  t.setFld .logWr 31 0 (t.fld .logWr 31 0 + 1)

/-- Whether a record has to wait in the FIFO for a CMD_END of its DOMAIN that was stamped before it, and of which it is not yet known
whether class CMD logs it: records of one DOMAIN reach the ring in SEQ order (R40, R41). -/
def State.logBehind (s : State) (r : LogRecord) : Bool :=
  let first := fun (o : Option LogRecord) => match o with
    | some x => x.stamp.domain = r.stamp.domain && x.stamp.node = r.stamp.node && x.stamp.time < r.stamp.time
    | none => false
  s.chans.any (fun e => first e.2.endRec || (match e.2.waited with
    | some (_, t, o) => t = s.clock && first o
    | none => false))

/-- The writer takes up to `n` records from the FIFO (R43, R45). -/
def State.logTake (s : State) (n : Nat) : State :=
  if !s.bit .logCtl 0 || s.log.hold then s
  else
    let l := (s.log.fifo.filter (!s.logBehind ·)).take (min n s.logRoom)
    if l = [] then s
    else
      let rest := s.log.fifo.filter (fun r => decide (r ∉ l))
      let t := { s with log := { s.log with fifo := rest, since := if rest = [] then none else some s.clock } }
      l.foldl (fun t r => t.logWriteOne r) t

/-- A batch of 16, or with TMO 0 every record as soon as it is whole (R43). -/
def State.logBatch (s : State) : State :=
  if 16 ≤ s.log.fifo.length then s.logTake 16
  else if s.fld .logTmo 23 0 = 0 then s.logTake 512
  else s

/-- The FIFO has held records for TMO us without the writer taking any (R43). -/
def State.logTimeout (s : State) : State :=
  match s.log.since with
  | some t => if usPassed t s.clock (s.fld .logTmo 23 0) then s.logTake 512 else s
  | none => s

/-- FLUSH (R44): `cut` says that of the newest record the second half had not arrived. That record is not a whole one, and its second
half comes to nothing (log entry 78). -/
def State.logFlushAll (s : State) (cut : Bool) : State :=
  let half := cut && !s.log.fifo.isEmpty
  let n := s.log.fifo.length - b2n half
  let t := (s.setFld .logStat 41 32 n).setBit .logStat 16 half
  let t := { t with log := { t.log with fifo := [], since := none } }
  let (x, t) := t.logLost.stamp 0 0
  t.logAlways ⟨x, 0x10, b2n half, 0, n, 0⟩

end Sys2Proof.Machine
end

