-- ==== Sys2Proof/Machine/Access.lean ====
section
/-! DEFINITION. Register accesses (R6, R54 to R60): what every register shows, what reading and writing it does, the stored
values of Lockdown (R342), the regulator bus behind PWR_VREQ and PWR_VRM (R394), and the Chime window (R138). The warm reset
that GCTL_RST.WARM starts stands in Power.lean. -/

namespace Sys2Proof.Machine

/-! ### The vault's words (R413, R414) -/

/-- The first word of the wear reserve, which lies behind the other regions of R412, and the words of the vault in all. -/
def vaultReserve : Nat := 0x82A00
def vaultEnd : Nat := 0x100000

/-- The physical word that holds a logical one: its own place, or the reserve word that it has moved to (R414). -/
def State.vaultAt (s : State) (w : Nat) : Nat := (tabGet none s.vault.map w).getD w

/-- A word of the vault is written (R414): one that has had 5 x 10^7 writes moves to the lowest free reserve word; a write that would pass
10^8 is refused. A word written anew is good. -/
def State.vaultWrite (s : State) (w : Nat) : Option State :=
  let v := s.vault
  let p := s.vaultAt w
  let n := tabGet 0 v.wear p
  let q := vaultReserve + v.moved
  let good := v.badWords.filter (· ≠ w)
  if 50000000 ≤ n ∧ v.moved < 513536 then
    some { s with vault := { v with wear := tabSet 0 v.wear q 1, map := tabSet none v.map w (some q), moved := v.moved + 1
                                    writes := v.writes + 1, badWords := good } }
  else if 100000000 ≤ n then none
  else some { s with vault := { v with wear := tabSet 0 v.wear p (n + 1), writes := v.writes + 1, badWords := good } }

/-- Several words of the vault are written, none where one of them is worn out (R414). -/
def State.vaultWrites (s : State) : List Nat → Option State
  | [] => some s
  | w :: r => match s.vaultWrite w with
    | none => none
    | some t => t.vaultWrites r

/-- Words that the part writes by itself, with what they then hold (R125, R286, R408, R413): where a write is refused, the old contents
stay. -/
def State.vaultPut (s : State) (l : List Nat) (f : Vault → Vault) : State :=
  match s.vaultWrites l with
  | some t => { t with vault := f t.vault }
  | none => s

/-- The words of FLEET_ID and NODE; FRK lies in an erase row outside the 8 MiB, which is none of these words (R412; log entry 8). -/
def fleetWords : List Nat := [vaultKeys + 9, vaultKeys + 10]

/-- The two words of an entry of the tamper log. -/
def tamperWords (i : Nat) : List Nat := [vaultTamper + 2 * (i % 256), vaultTamper + 2 * (i % 256) + 1]

/-- Whether a physical word is in use: a reserve word that a logical word has moved to last, any other that none has moved from. -/
def State.vaultUses (s : State) (p : Nat) : Bool :=
  if p < vaultReserve then (tabGet none s.vault.map p).isNone else s.vault.map.any (fun e => e.2 = some p)

/-- VLT_WEAR. -/
def State.viewWear (s : State) : Nat :=
  min 0xFFFFFFFF (s.vault.writes / 2 ^ 20) * 2 ^ 32 + ((s.vault.wear.filter (fun e => s.vaultUses e.1)).foldl (fun m e => max m e.2) 0) / 256

/-! ### Pins (R422, R427) -/

/-- What the part itself drives on a pin after cold reset, none where the pin floats or is an input: of those pins whose level the state
tells (R35, R422 to R424). -/
def State.partDrives (s : State) : Pin → Option Bool
  | .ppsOut => some s.time.ppsOut
  | .bkpPerst k => some (!s.power.coldReset && (s.link (k + 2)).perstAt.isNone && !s.bit .lnkCtl 9 (k + 2))
  | .gpio k => if !s.power.coldReset && s.bit .gpioCfg 0 k then some (s.bit .gpioCfg 1 k) else none
  | _ => none

/-- What is driven on a pin, by the part or by its cell of the boundary-scan register. -/
def State.pinDriven (s : State) (p : Pin) : Option Bool :=
  match s.side.pins with
  | .part => s.partDrives p
  | .boundary => ((s.side.boundary.find? (fun e => e.1 = p)).map (·.2)).or (s.partDrives p)
  | .nothing => none

/-- The level at the ball of a GPIO pin. -/
def State.gpioLevel (s : State) (k : Nat) : Bool := (s.pinDriven (.gpio (Fin.ofNat 16 k))).getD (s.ana.gpioIn.testBit k)

/-- VLT_STAT. -/
def State.viewVlt (s : State) : Nat :=
  let v := s.vault
  s.rg .vltStat + b2n v.tampered * 2 + b2n v.erased * 4 + b2n v.drkNew * 8 + (513536 - v.moved) * 2 ^ 20 + v.lastSrc % 16 * 2 ^ 52
    + min 255 v.tampCnt * 2 ^ 56

/-! ### What registers show -/

/-- DEV_INFO's word at +0x08 (R1, R90): part code, grade and stepping. -/
def devWord : Nat := 0x09840000 + (1 + b2n Config.gradeP2) + 0xA1 * 2 ^ 32

/-- Bits listed by number. -/
def bitsOf (l : List Nat) (k : Nat) : Nat := ((l.filter (· / 64 = k)).eraseDups).foldl (fun n x => n + 2 ^ (x % 64)) 0

/-- CHN_STATE (R181). -/
def phaseCode (ch : Chan) : Nat :=
  match ch.phase with
  | .idle => 0
  | .fetch => if ch.stop then 8 else 1
  | .active => if ch.stop then 8 else 2
  | .waitStart | .waitEvent | .waitHold => 3
  | .suspended => 4
  | .halted => 5
  | .checked => 6
  | .draining => 7

def State.viewChanState (s : State) (c : Nat) : Nat :=
  let ch := s.chan c
  phaseCode ch + b2n ch.stop * 2 ^ 8 + b2n ch.resPend * 2 ^ 9

/-- MOV_STAT, which the scrub of R202 leaves alone (R235). -/
def State.viewMovStat (s : State) (m : Nat) : Nat :=
  let x := s.mover m
  let shown := fun (o : Option Transfer) => o.filter (fun t => t.kind ≠ .scrub)
  let x := { x with active := shown x.active, shadow := shown x.shadow, tracker := shown x.tracker }
  b2n x.direct + b2n x.active.isSome * 2 + b2n x.shadow.isSome * 4 + b2n ((x.active.map (·.desc)).getD false) * 8
    + b2n x.tracker.isSome * 16 + b2n (s.bit .movCfg 0 m != x.direct) * 32 + b2n x.halt * 256
    + ((x.active.bind (·.chan)).getD 0xFFF) * 2 ^ 32

/-- Whether a burst's read is still to be issued, and whether its write is. -/
def Burst.unread (b : Burst) : Bool :=
  b.lo < b.hi && (b.stage = .readWait || b.stage = .readHeld || b.stage = .readCredit || b.stage = .readReq)
def Burst.unwritten (b : Burst) : Bool := b.stage ≠ .writing

/-- The place of the next source byte to be issued. -/
def Transfer.readAt (t : Transfer) : Nat :=
  match t.bursts.find? (·.unread) with
  | some b => if t.desc then t.total - b.hi else b.lo
  | none => t.next

/-- The place of the next destination byte to be issued. -/
def State.writeAt (s : State) (t : Transfer) : Nat :=
  match t.bursts.find? (·.unwritten) with
  | some b => if t.kind = .stream then (if b.out = [] then (t.chan.map (fun c => (s.chan c).stream.issued)).getD b.wpos else b.wpos)
      else if t.desc then t.total - b.hi else b.wpos
  | none => if t.kind = .stream then (t.chan.map (fun c => (s.chan c).stream.issued)).getD t.next else t.next

/-- The bytes of the object that a SEAL, or an XFORM that wraps by KWP, writes (R200, R205). -/
def Chan.object (ch : Chan) : Option Nat :=
  let h := ch.head.cmd
  if h.opc = 3 then some (h.count + 32)
  else if h.opc = 2 ∧ h.alg = 4 ∧ ¬ h.decrypt then some (roundUp h.count 8 + 8)
  else none

/-- The registers of the ACTIVE set (R235), which a scrub leaves alone. -/
def State.viewActive (s : State) (m : Nat) (k : RegKind) : Nat :=
  match (s.mover m).active.filter (fun t => t.kind ≠ .scrub) with
  | none => 0
  | some t =>
    match k with
    | .movActXf =>
      t.op + t.pidx * 2 ^ 8 + t.pside * 2 ^ 22 + t.zs * 2 ^ 24 + t.zd * 2 ^ 28 + (t.chan.getD 0xFFF) * 2 ^ 32 + b2n t.desc * 2 ^ 48
    | .movActCount =>
      match t.chan.bind (fun c => (s.chan c).object) with
      | some n => n - s.writeAt t
      | none => if t.cutsDst then t.total - min t.total (s.writeAt t - (if t.kind = .stream then t.base else 0)) else t.total - t.readAt
    | .movActSrc => if t.desc then (t.src + t.total - 1 - t.readAt) % 2 ^ 64 else if t.kind = .fill then t.src else s.srcAddr t t.readAt
    | .movActDst =>
      if t.desc then (t.dst + t.total - 1 - s.writeAt t) % 2 ^ 64
      else if t.kind = .stream then (t.chan.map (fun c => (s.outAt (s.chan c) (s.writeAt t)).2.1)).getD t.dst
      else s.dstAddr t (s.writeAt t)
    | _ => t.fill.toNat

/-- ARB_SEG. -/
def State.viewArbSeg (s : State) (g : Nat) : Nat :=
  (512 - s.usedAt g) + ((s.arb.resvs.filter (fun r => needAt r.needs g ≠ 0)).length) % 1024 * 2 ^ 16
    + (s.arb.presented.filter (·.seg = g)).length * 2 ^ 32
    + (match tabGet none s.arb.holder g with | some r => r.req | none => 0xFF) * 2 ^ 48

/-- CST_SEG. -/
def State.viewCstSeg (s : State) (g : Nat) : Nat :=
  let v := s.rg .cstSeg g
  let st := v % 4
  v / 4 * 4 + (if st = 0 ∧ 64 - s.snima.layout.spare ≤ g then 3 else st)
    + (s.store.remap.filter (fun e => match e.2 with | some p => p / 4096 = g | none => false)).length * 2 ^ 16

/-- The word of an MSI-X Table (R365). -/
def State.viewMsix (s : State) (p j : Nat) : Nat :=
  let e := s.msix p (j / 2)
  if j % 2 = 0 then e.addr.toNat else e.data.toNat + b2n e.masked * 2 ^ 32

/-- CHN_TMO.IDLE (R333, R344): the time without forward progress in us. Where the timeout does not run it shows 0 (DESIGN CHOICE, log
entry 114). -/
def State.idleShown (s : State) (c : Nat) : Nat :=
  if (s.chan c).timed then min (2 ^ 32 - 1) (s.idleTime c * 1000000 / second) else 0

/-- What the fields of a register show, before what Lockdown has only stored (R342). -/
def State.viewLive (s : State) (r : Reg) : Nat :=
  let i := r.i
  let raw := s.rg r.kind i r.j
  match r.kind with
  | .timeUnc => s.alignNow * 2 ^ 32 + s.unc
  | .logStat => raw + s.log.fifo.length
  | .lckPeek => s.rg .lckSem i
  | .lckMap => bitsOf ((List.range 256).filter (fun n => s.bit .lckSem 8 n)) i
  | .mbxStat => s.viewMbxStat i
  | .mbxInHead => s.viewHead i false r.j
  | .mbxOutHead => s.viewHead i true r.j
  | .sqCtl => b2n (s.sq i).en + b2n (s.sq i).exists_ * 2
  | .sqStat => s.viewSqStat i
  | .sqBatch => s.viewSqBatch i
  | .cqCtl => b2n (s.cq i).en + b2n (s.cq i).exists_ * 2
  | .cqStat => s.viewCqStat i
  | .cqDrain => s.viewCqDrain i
  | .chnState => s.viewChanState i
  | .movStat => s.viewMovStat i
  | .movActXf | .movActCount | .movActSrc | .movActDst | .movActFill => s.viewActive i r.kind
  | .arbSeg => s.viewArbSeg i
  | .cstStat => raw + s.store.remap.length * 2 ^ 32
  | .cstSpare => (s.spares - s.store.remap.length) % 2 ^ 15 + s.store.unret.length % 2 ^ 16 * 2 ^ 32
  | .cstSeg => s.viewCstSeg i
  | .cstRemap => match tabGet none s.store.remap i with | some p => 2 ^ 63 + p | none => 0
  | .ircAssert => srcBits i s.asserted
  | .ircPend => srcBits i s.srcPending
  | .ircInsvc => srcBits i s.inServiceCore
  | .ircHalt => s.haltBits i
  | .ircMcCur => s.viewMcCur i
  | .ircVstat => s.viewVstat i r.j
  | .fltErrHead => match s.errFifo with | x :: _ => bytesAt x.bytes (8 * i) 8 | [] => 0
  | .fltErrStat => s.errFifo.length
  | .fltLink => putField 23 16 (s.linkWcnt i) raw
  | .chnTmo => raw % 2 ^ 32 + s.idleShown i * 2 ^ 32
  | .fnzStat => raw + s.vault.node + b2n s.vault.member * 2 ^ 18
  | .fnzPort =>
    raw + b2n (match tabGet none s.fenuz.lastCal i with | some t => !usPassed t s.clock 20000000 | none => false) * 4
      + min 64 (s.fenuz.childs.filter (fun e => e.1 = i)).length * 8
  | .gctlBoot => if s.verifying then putField 2 0 2 raw else raw
  | .pwrAon => raw + Config.vaonReading s.clock % 1024 * 2 ^ 32
  | .anaTampCfg => s.vault.armWord
  | .anaTampSeen => raw + s.ana.detecting % 2 ^ 16 * 2 ^ 16
  | .anaCal => raw + b2n s.tdcCurrent
  | .vltStat => s.viewVlt
  | .vltWear => s.viewWear
  | .gpioCfg => raw + b2n (s.gpioLevel i) * 2 ^ 8
  | .lnkStat => if i < 2 && fieldOf 19 16 raw = 3 && (s.port i).aspmL1 && Config.linkSleeps i s.clock then putField 19 16 5 raw else raw
  | .msixTable => s.viewMsix i r.j
  | .msixPba => s.viewPba i r.j
  | _ => raw

/-- The bits of a register that are RW or RWS where it stands: host endpoints have neither BIF nor DISABLE, and only link 0 of a
port has BIF. -/
def Reg.rwMask (r : Reg) : Nat :=
  match r.kind with
  | .lnkCtl => if r.i < 2 then 0x7 else if r.i % 2 = 0 then 0x307 else 0x207
  | k => k.info.rw

/-- What a register shows: in Lockdown, the values written since (R342). -/
def State.view (s : State) (r : Reg) : Nat :=
  let v := s.viewLive r
  match tabGet none s.latent r.offset with
  | some w => (v &&& (2 ^ 64 - 1 - r.rwMask)) ||| (w.toNat &&& r.rwMask)
  | none => v

/-! ### Halves -/

/-- The bits that an access covers (R55). -/
def accMask (acc : Acc) : Nat :=
  match acc with
  | .lo => 2 ^ 32 - 1
  | .hi => 2 ^ 64 - 2 ^ 32
  | .full => 2 ^ 64 - 1

/-- The bytes of a value that an access covers. -/
def accBytes (acc : Acc) (v : Nat) : List Byte :=
  match acc with
  | .lo => natLe 4 v
  | .hi => natLe 4 (v / 2 ^ 32)
  | .full => natLe 8 v

/-- The value, in its place in the register, of the bytes that an access writes. -/
def accValue (acc : Acc) (d : List Byte) : Nat :=
  match acc with
  | .hi => leNat (d.take 4) * 2 ^ 32
  | .lo => leNat (d.take 4)
  | .full => leNat (d.take 8)

/-! ### Reads -/

/-- A read of a register by a master (R6, R36, R58, R67): the value of the bits covered, and what the read does. -/
def State.readReg (s : State) (m : Nat) (r : Reg) (acc : Acc) : Nat × State :=
  let lo := acc ≠ .hi
  match r.kind with
  | .timeNowLo =>
    let snap := if lo then s.time.now else tabGet 0 s.time.snaps m
    (snap % 2 ^ 64, { s with time := { s.time with snaps := tabSet 0 s.time.snaps m snap } })
  | .timeNowHi => (tabGet 0 s.time.snaps m / 2 ^ 64 % 2 ^ 16, s)
  | .lckSem =>
    if acc = .hi then (0, s)
    else if s.bit .lckSem 8 r.i then (0x100 + s.fld .lckSem 7 0 r.i, s)
    else (0, s.setRg .lckSem (0x100 + m % 256) r.i)
  | .mbxInPost => if lo then s.post r.i false else (0, s)
  | .mbxOutPost => if lo then s.post r.i true else (0, s)
  | _ =>
    let v := s.view r
    let gone := r.kind.info.rc &&& accMask acc
    (v, if gone = 0 then s else s.setRg r.kind (s.rg r.kind r.i r.j &&& (2 ^ 64 - 1 - gone)) r.i r.j)

/-! ### The regulator (R394, R426) -/

/-- The target that PWR_VREQ holds, clamped. -/
def State.vreq (s : State) : Nat := clampTo 620 880 (s.fld .pwrVreq 9 0)

/-- The least mantissa m with m x 2^e volts not below a target in mV (R394). -/
def mantissa (e : Int) (mv : Nat) : Nat :=
  if e < 0 then (mv * 2 ^ (-e).toNat + 999) / 1000 else (mv + 1000 * 2 ^ e.toNat - 1) / (1000 * 2 ^ e.toNat)

/-- The PEC of SMBus over bytes: CRC-8 with the polynomial x^8 + x^2 + x + 1 (PRESUMED, log entry 9). -/
def smbusPec (l : List Byte) : Nat :=
  l.foldl (fun c b => (List.range 8).foldl (fun x _ => if 128 ≤ x then (2 * x) % 256 ^^^ 7 else 2 * x) (c ^^^ b.toNat)) 0

/-- The bytes that the part sends in a transaction with the regulator (R394): the address, the command, and the mantissa, low byte first,
with a PEC where PWR_VRM asks for one; or the address, the command and the address of the read. -/
def State.pmbusBytes (s : State) (x : PmbusTxn) : List Byte :=
  let a := s.fld .pwrVrm 6 0 * 2
  match x with
  | .readMode => natLe 1 a ++ natLe 1 0x20 ++ natLe 1 (a + 1)
  | .send m =>
    let l := natLe 1 a ++ natLe 1 0x21 ++ natLe 2 m
    if s.bit .pwrVrm 8 then l ++ natLe 1 (smbusPec l) else l

/-- The next transaction begins, where one is due and none is in progress. -/
def State.pmbusNext (s : State) : State :=
  let p := s.power
  if p.txn.isSome || !s.bit .pwrVrm 7 || p.modeBad then s
  else match p.exponent, p.queued with
    | none, _ => ({ s with power := { p with txn := some .readMode, wire := s.pmbusBytes .readMode } }).setBit .pwrVrm 16 true
    | some e, some mv =>
      let m := mantissa e mv % 2 ^ 16
      (({ s with power := { p with txn := some (.send m), queued := none, wire := s.pmbusBytes (.send m) } }).setBit .pwrVrm 16 true).setFld .pwrVreq 47 32 m
    | some _, none => s

/-- PWR_VREQ is written. -/
def State.vreqWritten (s : State) : State :=
  if s.bit .pwrVrm 7 && !s.power.modeBad then ({ s with power := { s.power with queued := some s.vreq } }).pmbusNext else s

/-- PWR_VRM is written: `was` is EN before. With EN 0 nothing more is issued, and a transaction that lost arbitration is not sent again. -/
def State.vrmWritten (s : State) (was : Bool) : State :=
  let p := s.power
  if !s.bit .pwrVrm 7 then
    let t := { s with power := { p with queued := none } }
    if p.lostArb then ({ t with power := { t.power with txn := none, lostArb := false } }).setBit .pwrVrm 16 false else t
  else if !was || p.modeBad then ({ s with power := { p with exponent := none, modeBad := false, queued := none } }).pmbusNext
  else s

/-- A transaction of the regulator ends (R394, R426). A mode that could not be read stops the part as one that is not linear
does. -/
def State.pmbusDone (s : State) (ans : PmbusAnswer) : State :=
  let p := s.power
  let done := fun (s : State) => ({ s with power := { s.power with txn := none } }).setBit .pwrVrm 16 false
  if p.lostArb then s
  else match p.txn, ans with
    | none, _ => s
    | some _, .arbitrationLost => { s with power := { p with lostArb := true } }
    | some .readMode, .voutMode v =>
      let t := done s
      if v.toNat / 32 = 0 then ({ t with power := { t.power with exponent := some (sext 5 (v.toNat % 32)) } }).pmbusNext
      else ({ t with power := { t.power with modeBad := true, queued := none } }).setBit .pwrVrm 18 true
    | some .readMode, .nak =>
      let t := (done s).setBit .pwrVrm 17 true
      { t with power := { t.power with modeBad := true, queued := none } }
    | some (.send _), .nak => ((done s).setBit .pwrVrm 17 true).pmbusNext
    | some (.send _), .sent => (done s).pmbusNext
    | some _, _ => s

/-! ### Writes -/

/-- A channel's keys at a mailbox go when an epoch of it advances (R88, R118). -/
def State.dropKey (s : State) (c : Nat) : State := s.setBox c { s.box c with key := none, authRun := 0 }

/-- An epoch of a mailbox advances (R68). -/
def State.bumpEpoch (s : State) (c : Nat) (out : Bool) : State := (s.bump c out).dropKey c

/-- A commit of the shadow priorities (R291): the new set reaches every arbiter at once. -/
def State.arbCommit (s : State) : State :=
  let t := (List.range 72).foldl (fun t n => t.setRg .arbPrio (t.rg .arbPrioSh n) n) s
  t.setFld .arbStat 63 32 (t.fld .arbStat 63 32 + 1)

/-- GCTL_LOCK.FORCE (R338). -/
def State.forceLock (s : State) (m : Nat) : State := s.lockdown m 2 m

/-- FLT_ERR_POP. -/
def State.errPop (s : State) : State := { s with errFifo := s.errFifo.tail }

/-- The registers of a queue that R130 lists. -/
def RegKind.isSqCfg (k : RegKind) : Bool := k = .sqCfg || k = .sqBase || k = .sqChan || k = .sqTaddr || k = .sqHaddr
def RegKind.isCqCfg (k : RegKind) : Bool := k = .cqCfg || k = .cqBase || k = .cqTaddr || k = .cqHaddr

/-- The SHADOW set of a mover. -/
def RegKind.isShadow (k : RegKind) : Bool :=
  k = .movShXf || k = .movShCount || k = .movShSrc || k = .movShDst || k = .movShFill

/-- Registers whose writes are ignored as the part stands (R129, R232, R233, R362). -/
def State.ignoresWrite (s : State) (r : Reg) : Bool :=
  (r.kind.isSqCfg && !(s.sq r.i).exists_) || (r.kind.isCqCfg && !(s.cq r.i).exists_)
    || (r.kind = .sqCtl && !(s.sq r.i).exists_) || (r.kind = .cqCtl && !(s.cq r.i).exists_)
    || (r.kind.isShadow && (!(s.mover r.i).direct || (s.mover r.i).shadow.isSome))
    || (r.kind = .movCtl && !(s.mover r.i).direct)
    || (r.kind.isLink && !s.linkPresent r.i)

/-- Registers whose writes act in Lockdown too: the lock registers (R60), the staging buffers behind posts (R341) and the MSI-X
Table (R342). -/
def RegKind.actsLocked (k : RegKind) : Bool := k = .lckSem || k = .mbxInStg || k = .mbxOutStg || k = .msixTable

/-- What a changed RW field of a register does at once: `old` is the register before. -/
def State.rwActs (s : State) (r : Reg) (old : Nat) : State :=
  let i := r.i
  match r.kind with
  | .timeCtl => s.timeCtlActs old
  | .timePps => { s with time := { s.time with ppsMark := s.time.now } }
  | .sqCtl => s
  | .cstCtl =>
    let s := s.stayInPlace
    if s.bit .cstCtl 0 && !old.testBit 0 then
      { s with store := { s.store with scrubStart := (List.range 64).foldl (fun t g => tabSet 0 t g s.clock) s.store.scrubStart } }
    else s
  | .pwrVreq => s.vreqWritten
  | .pwrVrm => s.vrmWritten (old.testBit 7)
  | .pwrLane => (List.range 10).foldl (fun t n =>
      let k := n + 2
      if t.bit .pwrLane k != old.testBit k then
        (if t.bit .pwrLane k then t.laneChange k else if k < 10 then t.portTrains ((k - 2) / 2) else t)
      else t) s
  | .lnkCtl =>
    let v := s.rg .lnkCtl i
    let t := if 2 ≤ i ∧ v.testBit 9 != old.testBit 9 then s.linkDisable i else s
    if 2 ≤ i ∧ i % 2 = 0 ∧ v.testBit 8 != old.testBit 8 then t.bifChange ((i - 2) / 2) else t
  | .fnzCfg =>
    let t := if s.bit .fnzCfg 0 then s else s.linkDown 10
    if t.bit .fnzCfg 1 then t else t.linkDown 11
  | _ => s

/-- While a masked monitor reads below LOW, BELOW is set, where it is 0 (R395). -/
def State.paceBelow (s : State) : State :=
  if s.bit .pwrPaceWin 40 then s
  else match (List.range 16).find? (fun i => s.bit .pwrPaceWin (16 + i) && s.fld .anaPace 10 0 i < s.fld .pwrPaceWin 10 0) with
    | some i => (s.setBit .pwrPaceWin 40 true).setFld .pwrPaceWin 35 32 i
    | none => s

/-- What the WO fields of a register do with the bits `d` that a write covers (R6). `lock` says that the part is in Lockdown,
where only those that R342 names act. A write of PWR_PACE_WIN judges the readings anew (R395). -/
def State.woActs (s : State) (m : Nat) (r : Reg) (acc : Acc) (d : Nat) (lock : Bool) : State :=
  let i := r.i
  let on := fun (b : Nat) (f : State → State) (s : State) => if d.testBit b then f s else s
  match r.kind with
  | .logCtl => on 8 (·.logFlushAll false) s
  | .mbxInPop => on 0 (·.popMsg i false) s
  | .mbxOutPop => on 0 (·.popMsg i true) s
  | .mbxCtl =>
    on 9 (·.bumpEpoch i true) (on 8 (·.bumpEpoch i false) (on 1 (·.flushMsgs i true) (on 0 (·.flushMsgs i false) s)))
  | .fltErrPop => on 0 (·.errPop) s
  | .gctlLock => on 2 (·.forceLock m) s
  | .ircVcomp => s.vcomp i r.j
  | .pwrPaceWin => s.paceBelow
  | k =>
    if lock then s
    else match k with
      | .chnCtl => (on 1 (·.chanResume i 0) (on 0 (·.chanStop i) s)).chanRelease i (fieldOf 5 4 d)
      | .movCtl =>
        let t := on 1 (·.movCancel i) (on 2 (·.movDropSh i) s)
        let rel := fieldOf 5 4 d
        on 0 (·.movGo i 0 0) (if rel = 1 then t.movRetry i else if rel = 3 then t.movAbort i else t)
      | .arbCommit => on 0 (·.arbCommit) s
      | .carFire => if acc = .hi then s else s.ring [⟨d % 256, 0, 0x1000 + m, 0⟩]
      | .ircMcEoi => if acc = .hi then s else s.eoi i (d % 1024)
      | .lnkCtl => if 2 ≤ i then on 4 (·.enterRecovery i) s else s
      | .bkpIrq => if acc = .hi then s else s.scanRequest i (d % 512)
      | _ => s

/-- A word of the MSI-X Table is written (R365). -/
def State.msixWrite (s : State) (p j v : Nat) : State :=
  let e := s.msix p (j / 2)
  s.setMsix p (j / 2)
    (if j % 2 = 0 then { e with addr := BitVec.ofNat 64 (v / 4 * 4) } else { e with data := BitVec.ofNat 32 v, masked := v.testBit 32 })

/-- A register write, but for GCTL_RST (R6, R55): RW fields take the bits covered, W1C bits written 1 clear, WO fields act. In
Lockdown RW fields are stored only (R342). -/
def State.writePlain (s : State) (m : Nat) (r : Reg) (acc : Acc) (d : Nat) : State :=
  if s.ignoresWrite r then s
  else
    let cover := accMask acc
    let d := d &&& cover
    let rw := r.rwMask &&& cover
    let w1c := r.kind.info.w1c &&& d
    let lock := s.locked
    let i := r.i
    let t := if w1c = 0 then s
      else if r.kind = .mbxStat then s.clearStale i
      else if r.kind = .fltLink then s.clearLasting i
      else s.setRg r.kind (s.rg r.kind i r.j &&& (2 ^ 64 - 1 - w1c)) i r.j
    let t := if rw = 0 then t
      else if lock && !r.kind.actsLocked then
        let v := t.view r
        { t with latent := tabSet none t.latent r.offset
                    (some (BitVec.ofNat 64 (((v &&& (2 ^ 64 - 1 - rw)) ||| (d &&& rw)) &&& r.rwMask))) }
      else if r.kind = .msixTable then (t.msixWrite i r.j ((t.viewMsix i r.j &&& (2 ^ 64 - 1 - cover)) ||| d)).idledNow
      else if r.kind = .sqCtl then (if acc = .hi then t else if d.testBit 0 then t.enableSq i else t.disableSq i)
      else if r.kind = .cqCtl then (if acc = .hi then t else t.setCqEn i (d.testBit 0))
      else if r.kind = .mbxRto then (if acc = .hi then t else t.newRto i (fieldOf 23 0 d))
      else
        let old := t.rg r.kind i r.j
        (t.setRg r.kind ((old &&& (2 ^ 64 - 1 - rw)) ||| (d &&& rw)) i r.j).rwActs r old
    t.woActs m r acc d lock

/-- What Lockdown stored acts once it has ended (R342). -/
def State.latentActs (s : State) : State :=
  let t := { s with latent := [] }
  s.latent.foldl (fun t e => match e.2, regAt? e.1 with
    | some w, some r => t.writePlain 0 r .full ((t.viewLive r &&& (2 ^ 64 - 1 - r.rwMask - r.kind.info.w1c)) ||| (w.toNat &&& r.rwMask))
    | _, _ => t) t

/-! ### The Chime window (R138) -/

/-- The register of a Chime page at an offset of the window: the queue, and whether it is CHM_CQ. -/
def chimeAt? (off : Nat) : Option (Nat × Bool) :=
  if off % 0x1000 = 0 then some (off / 0x1000, false)
  else if off % 0x1000 = 8 then some (off / 0x1000, true)
  else none

/-- A write to a Chime page; WO fields are ignored in Lockdown (R342). -/
def State.chimeWrite (s : State) (q : Nat) (cq : Bool) (acc : Acc) (d : Nat) : State :=
  if s.locked then s else if cq then s.ringCq q acc d else s.ringSq q

/-! ### Accesses by address (R54 to R56) -/

/-- The half that an access of `n` bytes at an offset covers, none where R54 refuses it. -/
def accOf (off n : Nat) : Option Acc :=
  if n = 8 ∧ off % 8 = 0 then some .full
  else if n = 4 ∧ off % 8 = 0 then some .lo
  else if n = 4 ∧ off % 8 = 4 then some .hi
  else none

/-- An UNMAPPED record (R56, R328): the master, the direction and the address. -/
def State.unmapped (s : State) (m a : Nat) (write : Bool) : State := s.fault m 0x01 m (if write then 2 else 1) a

/-- A read that R54 allows, of the register space or the Chime window. -/
def State.spaceRead (s : State) (m a : Nat) (acc : Acc) : List Byte × State :=
  let base := a / 8 * 8
  let hole := (ones (accBytes acc 0).length, s.unmapped m a false)
  match placeOf base with
  | .regs off => match regAt? off with
    | some r => let (v, t) := s.readReg m r acc; (accBytes acc v, t)
    | none => hole
  | .chime off => match chimeAt? off with
    | some _ => (accBytes acc 0, s)
    | none => hole
  | _ => hole

/-- A write that R54 allows, but for GCTL_RST. -/
def State.spacePlain (s : State) (m a : Nat) (acc : Acc) (v : Nat) : State :=
  match placeOf (a / 8 * 8) with
  | .regs off => match regAt? off with
    | some r => s.writePlain m r acc v
    | none => s.unmapped m a true
  | .chime off => match chimeAt? off with
    | some (q, cq) => s.chimeWrite q cq acc v
    | none => s.unmapped m a true
  | _ => s.unmapped m a true

end Sys2Proof.Machine
end

