-- ==== Sys2Proof/Machine/Burst.lean ====
section
/-! DEFINITION. What the answers to a burst's accesses do (R26, R229, R239, R258): read data become its write or pass the inline unit,
and a write that is accepted ends it with its BURST Stamp. -/

namespace Sys2Proof.Machine

/-! ### BURST records (R26, R39) -/

/-- A burst is stamped: ZS and ZD 0xF where it reads or writes nothing. -/
def State.burstStamp (s : State) (m : Nat) (t : Transfer) (zs zd n a : Nat) : State :=
  let (x, u) := s.stamp (0x20 + m) (t.cause + 1)
  let u := u.logClass 3 ⟨x, 0x04, zd % 16 * 16 + zs % 16, t.chan.getD 0xFFF, n, a % 2 ^ 64⟩
  match t.chan with
  | some c => u.setChan c { u.chan c with cause := max (u.chan c).cause x.time }
  | none => u

/-! ### Streams -/

/-- The first burst whose read data have come, with none before it still to read, passes the inline unit (R258). -/
def State.consumeOne (s : State) (m : Nat) : State :=
  match (s.mover m).active with
  | none => s
  | some t =>
    let out := fun (b : Burst) => decide (b.hi ≤ b.lo)
    match t.chan, t.bursts.dropWhile out with
    | some c, b :: post =>
      if b.stage = .readDone then
        let ch := s.chan c
        let x := ch.stream
        let x := if t.op = 7 ∧ t.count ≤ b.lo then { x with other := x.other ++ b.data } else { x with input := x.input ++ b.data }
        let u := (s.giveCredits (b.credits.take 1)).setChan c { ch with stream := x }
        let u := if !ch.head.cmd.inPlace || t.dry then u.burstStamp m t t.zs 0xF b.data.length (s.srcAddr t b.lo) else u
        u.emitOut m c t (t.bursts.takeWhile out) post (b.credits.drop 1)
      else s
    | _, _ => s

def State.consume (s : State) (m : Nat) : Nat → State
  | 0 => s
  | n + 1 => (s.consumeOne m).consume m n

/-! ### Read data and writes -/

/-- The grant that a burst holds ends with it (R289). -/
def State.endGrant (s : State) (m : Nat) (b : Burst) : State :=
  { s with arb := { s.arb with holder := s.arb.holder.filter (fun e =>
      match e.2 with | some r => r.row || !(r.req = m && r.burst = b.num) | none => true) } }

/-- The place of the first byte that two reads differ in. -/
def diffAt (d e : List Byte) : Option Nat := (List.range d.length).find? (fun i => d[i]? ≠ e[i]?)

/-- The lesser of two places, where there are any. -/
def firstOf : Option Nat → Option Nat → Option Nat
  | some a, some b => some (min a b)
  | some a, none => some a
  | none, b => b

/-- Read data of a burst return: a copy's become its write, a COMPARE's are compared once both sides are there, a stream's pass the
inline unit in order. Those of a transfer that has failed are discarded (R249). -/
def State.readArrives (s : State) (m : Nat) (b : Burst) (d : List Byte) : State :=
  match (s.mover m).active with
  | none => s
  | some t =>
    let s := match t.chan with | some c => s.progressed c | none => s
    let gone := t.bursts.filter (·.num ≠ b.num)
    if t.failed.isSome then (s.giveCredits b.credits).setActive m { t with bursts := gone }
    else match t.kind with
    | .compare =>
      if b.side = 0 then
        (s.giveCredits (b.credits.take 1)).setActive m
          { t with bursts := setBurst t.bursts { b with data := d, side := 1, stage := .readWait, credits := b.credits.drop 1, link := none } }
      else
        let s := match t.chan with
          | some c =>
            let ch := s.chan c
            s.setChan c { ch with stream := { ch.stream with
              diff := firstOf ch.stream.diff ((diffAt b.data d).map (fun i => t.offOf (b.lo + i))) } }
          | none => s
        ((s.giveCredits b.credits).setActive m { t with bursts := gone }).burstStamp m t t.zs 0xF d.length (s.srcAddr t b.lo)
    | .stream => (s.setActive m { t with bursts := setBurst t.bursts { b with data := d, stage := .readDone } }).consume m 9
    | _ =>
      if t.dry then
        ((s.giveCredits b.credits).setActive m { t with bursts := gone }).burstStamp m t t.zs 0xF d.length (s.srcAddr t b.lo)
      else
        let w := (List.range d.length).map (fun i => (s.dstAddr t (b.lo + i), (d[i]?).getD 0))
        (s.giveCredits (b.credits.take 1)).setActive m
          { t with bursts := setBurst t.bursts { b with out := w, stage := .writeWait, credits := b.credits.drop 1, link := none } }

/-- A burst's write is accepted or acknowledged (R26, R229). `tracked` says where its transfer stands. -/
def State.writeDone (s : State) (m : Nat) (tracked : Bool) (num : Nat) : State :=
  let x := s.mover m
  match (if tracked then x.tracker else x.active) with
  | none => s
  | some t =>
    match t.bursts.find? (·.num = num) with
    | none => s
    | some b =>
      let t' := { t with bursts := t.bursts.filter (·.num ≠ num) }
      let u := (s.endGrant m b).giveCredits b.credits
      let u := u.setMover m (if tracked then { u.mover m with tracker := some t' } else { u.mover m with active := some t' })
      let a := (b.out.map (·.1)).headD 0
      let reads := t.kind = .copy || (t.kind = .stream && t.place)
      let u := u.burstStamp m t (if reads then t.zs else 0xF) b.wz b.out.length a
      match t.chan with
      | none => u
      | some c =>
        let u := u.progressed c
        match b.link with
        | some k => u.setChan c { u.chan c with dirty := ((u.chan c).dirty ++ [k]).eraseDups }
        | none => u

end Sys2Proof.Machine
end

