-- ==== Sys2Proof/Machine/Power.lean ====
section
/-! DEFINITION. Zone-0 accesses of movers and channel processors (R56, R198, R237, R238, R248), the quiet that Lockdown and a warm
reset make (R253, R339, R389), resets (R381 to R390), the boot (R105, R107, R126), and the always-on domain (R386). -/

namespace Sys2Proof.Machine

/-! ### Accesses by a mover or a channel processor -/

/-- What an access fails with: CAUSE, ACODE and the place of the failing beat's first byte. -/
abbrev Beat := Nat × Nat × Nat

/-- The lowest address of an access that starts at `a` in the line that holds `x`. -/
def beatFrom (a x : Nat) : Nat := max a (x / 64 * 64) - a

/-- Words of the register space or the Chime window, read one after another (R198): a word used in part is refused, and nothing
is read from it. -/
def State.readWords (s : State) (m a n : Nat) : List Nat → Except Beat (List Byte) × State
  | [] => (.ok [], s)
  | w :: r =>
    if a ≤ w ∧ w + 8 ≤ a + n then
      let (d, t) := s.spaceRead m w .full
      match t.readWords m a n r with
      | (.ok e, u) => (.ok (d ++ e), u)
      | (.error x, u) => (.error x, u)
    else (.error (5, 0x20, beatFrom a w), s)

/-- The addresses of the bytes of a word. -/
def wordAddrs (w : Nat) : List Nat := (List.range 8).map (w + ·)

/-- The words that bytes `a` to `a + n - 1` lie in. -/
def wordList (a n : Nat) : List Nat := (List.range ((a + n - 1) / 8 + 1 - a / 8)).map (fun i => (a / 8 + i) * 8)

/-- A read in zone 0 by a mover or channel processor (R248), within one 512-byte block. -/
def State.engineRead (s : State) (m who a n : Nat) : Except Beat (List Byte) × State :=
  match placeOf a with
  | .store =>
    if s.underTest a then (.error (8, 0x20, 0), s)
    else
      let (d, bad, t) := s.storeRead who a n
      match bad with
      | some x => (.error (6, 0x22, beatFrom a x), t)
      | none => (.ok d, t)
  | .outside => (.error (5, 0x20, 0), s)
  | _ => s.readWords m a n (wordList a n)

/-- A word of the register space or the Chime window written by a mover or a channel processor; of GCTL_RST.WARM it is told that the
warm reset is due, which follows the access (R387). -/
def wordPlain (s : State) (m a v : Nat) : State :=
  let t := s.spacePlain m a .full v
  if placeOf a = .regs (Reg.offset ⟨.gctlRst, 0, 0⟩) ∧ v.testBit 0 then { t with power := { t.power with warmDue := true } } else t

/-- Words of the register space or the Chime window, written one after another (R198): a word that is not there whole is refused. -/
def State.writeWords (s : State) (m : Nat) (w : List (Nat × Byte)) : List Nat → Option Beat × State
  | [] => (none, s)
  | x :: r =>
    let l := w.filter (fun e => e.1 / 8 * 8 = x)
    if l.length = 8 then (wordPlain s m x (leNat (l.map (·.2)))).writeWords m w r
    else
      let a := (w.map (·.1)).headD 0
      (some (5, 0x21, beatFrom a x), s)

/-- A write in zone 0 by a mover or channel processor (R238, R248), within one 512-byte block. -/
def State.engineWrite (s : State) (m who : Nat) (w : List (Nat × Byte)) : Option Beat × State :=
  match w with
  | [] => (none, s)
  | (a, _) :: _ =>
    match placeOf a with
    | .store => if s.underTest a then (some (8, 0x21, 0), s) else (none, s.storeWrite who w)
    | .outside => (some (5, 0x21, 0), s)
    | _ => s.writeWords m w (wordList a w.length)

/-! ### Bursts in the register space and the Chime window (R198; log entry 89) -/

/-- Whether one side of a transfer, of `n` bytes from `base`, uses the byte at an address. -/
def State.sideUses (s : State) (p : Option Pattern) (on : Bool) (base n x : Nat) : Bool :=
  match p, on with
  | some p, true => (List.range ((n + p.elem - 1) / p.elem)).any (fun e =>
      let b := s.sideAddr (some p) true base (e * p.elem)
      decide (b ≤ x) && decide (x < b + min p.elem (n - e * p.elem)))
  | _, _ => decide (base ≤ x) && decide (x < base + n)

/-- Whether a transfer's command uses a byte that the transfer reads on a side; a VERIFY's signature is one with its message (R208). -/
def State.readUses (s : State) (t : Transfer) (side x : Nat) : Bool :=
  if t.op = 7 then s.sideUses none false t.src t.count x || s.sideUses none false t.fill.toNat 132 x
  else s.sideUses t.pattern (t.pside = side + 1) (if side = 1 then t.dst else t.src) t.total x

/-- The member of a stream in which output byte `q` lies, with the place of its first byte. -/
def memberOf : List Member → Nat → Nat → Option (Member × Nat)
  | [], _, _ => none
  | m :: r, base, q => if q < base + m.carried then some (m, base) else memberOf r (base + m.carried) q

/-- Whether the command that a burst writes for uses the byte at an address. -/
def State.writeUses (s : State) (t : Transfer) (b : Burst) (x : Nat) : Bool :=
  match t.kind, t.chan with
  | .stream, some c =>
    let ch := s.chan c
    match (if ch.head.cmd.inPlace then memberOf ch.chain 0 b.wpos else none) with
    | some (m, base) => s.sideUses m.pattern (m.cmd.pside = 2) m.cmd.dst (min m.carried (ch.outTotal - base)) x
    | none => s.sideUses none false ch.final.cmd.dst ch.outTotal x
  | _, _ => s.sideUses t.pattern (t.pside = 2) t.dst t.total x

/-- The bytes of some addresses among others that are held, none where one is missing. -/
def takeBytes {α : Type} [DecidableEq α] (l : List (α × Byte)) : List α → Option (List Byte)
  | [] => some []
  | k :: r => match l.find? (fun e => e.1 = k), takeBytes l r with
    | some e, some d => some (e.2 :: d)
    | _, _ => none

/-- Words read for a burst, bytes `a` to `a + n - 1` of a side: what an earlier burst left of a word is taken first; of a word that the
command uses whole the rest is left for a later burst; no other word is read. -/
def State.readShared (s : State) (m : Nat) (t : Transfer) (side a n : Nat) : List Nat → Except Beat (List Byte) × List ((Nat × Nat) × Byte) × State
  | [] => (.ok [], t.words, s)
  | w :: r =>
    let mine := (wordAddrs w).filter (fun x => decide (a ≤ x) && decide (x < a + n))
    let keys := mine.map (fun x => (side, x))
    match takeBytes t.words keys with
    | some d =>
      match s.readShared m { t with words := t.words.filter (fun e => decide (e.1 ∉ keys)) } side a n r with
      | (.ok e, l, u) => (.ok (d ++ e), l, u)
      | x => x
    | none =>
      if (wordAddrs w).all (s.readUses t side) then
        let (d, v) := s.spaceRead m w .full
        let got := ((wordAddrs w).map (fun x => (side, x))).zip d
        let old := t.words.filter (fun e => e.1.1 ≠ side || e.1.2 / 8 * 8 ≠ w)
        match v.readShared m { t with words := old ++ got.filter (fun e => decide (e.1 ∉ keys)) } side a n r with
        | (.ok e, l, u) => (.ok ((got.filter (fun e => decide (e.1 ∈ keys))).map (·.2) ++ e), l, u)
        | x => x
      else (.error (5, 0x20, beatFrom a w), t.words, s)

/-- A burst of the ACTIVE transfer reads in zone 0 (R248). What the read does is the work of the strike that started the transfer, if one
did (R305). -/
def State.burstRead (s : State) (m : Nat) (t : Transfer) (b : Burst) : Except Beat (List Byte) × State :=
  let a := (s.burstReads t b).headD 0
  let n := b.hi - b.lo
  let v := s.setHop t.hop
  if inWords 0 a then
    let (d, l, u) := v.readShared (0x20 + m) t b.side a n (wordList a n)
    let x := u.mover m
    (d, (u.setMover m { x with active := x.active.map (fun y => { y with words := l }) }).setHop s.log.hop)
  else
    let (d, u) := v.engineRead (0x20 + m) m a n
    (d, u.setHop s.log.hop)

/-- Words written for a burst: one that is not whole with what earlier bursts have left of it waits for a later burst of its command, or is
refused. Answers what waits then. -/
def State.writeShared (s : State) (m : Nat) (t : Transfer) (b : Burst) (carry : List (Nat × Byte)) : List Nat → Option Beat × List (Nat × Byte) × State
  | [] => (none, carry, s)
  | w :: r =>
    let mine := b.out.filter (fun e => e.1 / 8 * 8 = w)
    let rest := carry.filter (fun e => e.1 / 8 * 8 ≠ w)
    match takeBytes (mine ++ carry) (wordAddrs w) with
    | some d => (wordPlain s m w (leNat d)).writeShared m t b rest r
    | none =>
      if (wordAddrs w).all (s.writeUses t b) then s.writeShared m t b (carry ++ mine) r
      else (some (5, 0x21, beatFrom ((b.out.map (·.1)).headD 0) w), carry, s)

/-- The bytes of shared words that a transfer's earlier bursts have left: a channel's command holds them in its stream. -/
def State.carryOf (s : State) (t : Transfer) : List (Nat × Byte) :=
  match t.chan with
  | some c => (s.chan c).stream.carry
  | none => t.carry

def State.setCarry (s : State) (m : Nat) (tracked : Bool) (t : Transfer) (l : List (Nat × Byte)) : State :=
  match t.chan with
  | some c => s.setChan c { s.chan c with stream := { (s.chan c).stream with carry := l } }
  | none =>
    let x := s.mover m
    let put := fun (o : Option Transfer) => o.map (fun y => { y with carry := l })
    s.setMover m (if tracked then { x with tracker := put x.tracker } else { x with active := put x.active })

/-- A burst of a transfer writes in zone 0 (R238, R248, R305). -/
def State.burstStore (s : State) (m : Nat) (tracked : Bool) (t : Transfer) (b : Burst) : Option Beat × State :=
  let a := (b.out.map (·.1)).headD 0
  let v := s.setHop t.hop
  if inWords 0 a then
    let (bad, l, u) := v.writeShared (0x20 + m) t b (s.carryOf t) (wordList a b.out.length)
    (bad, (u.setCarry m tracked t l).setHop s.log.hop)
  else
    let (bad, u) := v.engineWrite (0x20 + m) m b.out
    (bad, u.setHop s.log.hop)

/-! ### The writes of STAMP and POST -/

/-- The bytes that the channel processor's write in progress carries (R215, R225): STAMP's 16, or POST's words at +0x08 and
then the word at +0x00. -/
def State.cpBytes (s : State) (c : Nat) : List (Nat × Byte) :=
  let ch := s.chan c
  let d := ch.head.cmd.dst
  if ch.head.cmd.opc = 0x0B then atAddr d ch.stream.result
  else if ch.cpStep = 0 then atAddr (d + 8) (ch.stream.result.drop 8)
  else atAddr d (ch.stream.result.take 8)

/-- That write where it goes to zone 0. The one 16-byte write of a STAMP is no access that the register space or the Chime window takes
(R54, R215). -/
def State.cpStore (s : State) (c : Nat) : Option Beat × State :=
  let h := (s.chan c).head.cmd
  if h.opc = 0x0B ∧ inWords h.zd h.dst then (some (5, 0x21, 0), s) else s.engineWrite (cpDomain c) reqCp (s.cpBytes c)

/-! ### Work in flight comes to rest -/

/-- Whether a burst of a transfer has been issued: presented, read, or on its way; the writes of a stream that keeps its places belong
to the bursts that were read. -/
def Transfer.issued (t : Transfer) (b : Burst) : Bool :=
  match b.stage with
  | .readWait | .readHeld => b.side = 1
  | .readCredit | .writeWait | .writeHeld => (b.lo < b.hi && b.out ≠ []) || (t.kind = .stream && t.place)
  | _ => true

/-- What a burst's write in zone 0, or on a link that is up, fails with. -/
def State.storeFails (t : Transfer) (b : Burst) (y : Beat) : Failure :=
  failWith y.1 y.2.1 0 2 ((b.out.map (·.1)).headD 0 + y.2.2) (t.outOff b + y.2.2)

/-- What a burst's read in zone 0 fails with. -/
def State.loadFails (s : State) (t : Transfer) (b : Burst) (x : Beat) : Failure :=
  failWith x.1 x.2.1 0 1 (((s.burstReads t b).headD 0 + x.2.2) / 64 * 64) (t.offOf (b.lo + x.2.2))

/-- A burst that has been issued completes (R253, R389): what it has still to read in zone 0 is read, and its write is made, but for a
stream whose keys are zeroised. A link read is abandoned. -/
def State.finishBurst (s : State) (m : Nat) (tracked : Bool) (num : Nat) : Nat → State
  | 0 => s
  | n + 1 =>
    let x := s.mover m
    match (if tracked then x.tracker else x.active) with
    | none => s
    | some t => match t.bursts.find? (·.num = num) with
      | none => s
      | some b =>
        if b.out ≠ [] then
          if b.wz = 0 then
            match s.burstStore m tracked t b with
            | (none, u) => u.writeDone m tracked num
            | (some y, u) => u.burstFails m tracked b (State.storeFails t b y)
          else match b.link with
            | some k => if s.linkUp k then (s.extWrite b.wz b.out).writeDone m tracked num else s
            | none => s
        else if b.stage ≠ .readDone ∧ b.stage ≠ .writing ∧ readZone t b = 0 then
          match s.burstRead m t b with
          | (.ok d, u) => if t.kind = .stream then u else (u.readArrives m b d).finishBurst m tracked num n
          | (.error x, u) => u.burstFails m tracked b (s.loadFails t b x)
        else s

/-- The link reads of a mover that are abandoned. -/
def State.moverReads (s : State) (m : Nat) : List Abandoned :=
  let x := s.mover m
  (x.tracker.toList ++ x.active.toList).flatMap (fun t => t.bursts.filterMap (fun b =>
    if b.stage = .reading then b.on.map (fun k =>
      ⟨k, linkDomain k, t.chan.getD 0xFFF, (s.burstReads t b).headD 0 / 64 * 64, false⟩)
    else none))

/-- A mover completes the bursts already issued and discards its transfers (R253). One that fails is latched and recorded (R249); no event
fires, and no channel changes its state. -/
def State.quietMover (s : State) (m : Nat) : State :=
  let x := s.mover m
  let gone := s.moverReads m
  let all := fun (tracked : Bool) (o : Option Transfer) (s : State) => match o with
    | some t => (t.bursts.filter t.issued).foldl (fun s b => s.finishBurst m tracked b.num 3) s
    | none => s
  let t := all false x.active (all true x.tracker s)
  let t := ((t.mover m).tracker.toList ++ (t.mover m).active.toList).foldl (fun t y => match y.failed with
    | some f => t.failRecord m y f
    | none => t) t
  let t := { t with stale := t.stale ++ gone }
  t.setMover m { t.mover m with active := none, shadow := none, tracker := none, owner := none }

/-- The link reads that a channel processor has outstanding are abandoned, and the write that it has issued completes. -/
def State.quietChan (s : State) (c : Nat) : State :=
  let ch := s.chan c
  let gone := ((s.ownOut c).filter (fun e => !e.2.2)).map (fun e => (⟨e.1, linkDomain e.1, c, e.2.1, false⟩ : Abandoned))
  let t := if ch.cpWrites then
      (if ch.head.cmd.zd = 0 then (s.cpStore c).2
       else match s.writeLink c with
         | some k => if s.linkUp k then s.extWrite ch.head.cmd.zd (s.cpBytes c) else s
         | none => s)
    else s
  let t := { t with stale := t.stale ++ gone }
  t.setChan c { t.chan c with tags := [] }

/-- Ring reads on links are abandoned. -/
def State.quietRings (s : State) : State :=
  let one := fun (q a : Nat) (o : Option Nat) => (o.map (fun k => (⟨k, linkDomain k, q, a, false⟩ : Abandoned))).toList
  let gone := s.sqs.flatMap (fun e =>
      e.2.window.toList.flatMap (fun w => one e.1 (s.windowAddr e.1) w.link)
        ++ e.2.tailReads.flatMap (fun r => one e.1 e.2.conf.taddr r.2))
    ++ s.cqs.flatMap (fun e => e.2.headReads.flatMap (fun r => one e.1 e.2.conf.haddr r.2))
  { s with stale := s.stale ++ gone
           sqs := s.sqs.map (fun e => (e.1, { e.2 with window := none, tailReads := [] }))
           cqs := s.cqs.map (fun e => (e.1, { e.2 with headReads := [] })) }

/-- Everything issued comes to rest (R339 step 4, R389 step 3); the stamp-log writer and the links keep their requests and grants, with the
credits of those (R296, R341). -/
def State.quiet (s : State) : State :=
  let t := (s.movers.map (·.1)).foldl (fun t m => t.quietMover m) s
  let t := (t.chans.map (·.1)).foldl (fun t c => t.quietChan c) t
  let t := t.quietRings
  let stays := fun (r : ArbReq) => r.row && 70 ≤ r.req
  let shown := t.arb.presented.filter stays
  let held := t.arb.holder.filter (fun e => e.2.any stays)
  ({ t with arb := { t.arb with presented := shown, used := [], resvs := t.arb.resvs.filter (fun r => r.ask.any stays), holder := held
                                made := t.arb.made.filter stays, blocked := s.arb.blocked } }).takeCredits
    ((shown ++ held.filterMap (fun (e : Nat × Option ArbReq) => e.2)).map (fun (r : ArbReq) => (r.seg, r.lines)))

/-! ### Boot (R104 to R107, R125, R126) -/

/-- The fields of an image's header (R104). -/
def imgVersion (b : List Byte) : Nat := bytesAt b 8 4
def imgSvn (b : List Byte) : Nat := bytesAt b 0xC 4

/-- The part of an image that its signature covers. -/
def imgSigned (b : List Byte) : List Byte := b.take 0x80 ++ (b.drop 512).take (imgBody b)

/-- MIN_SVN and the other fields of the boot record (R125). -/
def minSvn (r : Nat) : Nat := fieldOf 63 32 r
def recTrial (r : Nat) : Bool := r.testBit 1
def recActive (r : Nat) : Bool := r.testBit 0
def recLeft (r : Nat) : Nat := fieldOf 4 2 r

/-- Whether a signature over bytes verifies under a point (R89, R105, R208). -/
def sigGood (point m sig : List Byte) : Bool :=
  !Algo.sigOutOfRange (sig.take 66) && !Algo.sigOutOfRange (sig.drop 66) && Algo.ecdsaHolds point (Algo.hash 3 m) sig

/-- The root public key, fused at manufacture (R105, R108). -/
def rootPoint : List Byte := Config.install "ROOT" 0 67

/-- The verification of an image, with the codes of GCTL_BOOT.FAIL_A: 0 good (R105). -/
def State.imageCheck (s : State) (b : List Byte) : Nat :=
  if bytesAt b 0 4 ≠ 0x414D4E53 then 1
  else if bytesAt b 4 4 ≠ 1 then 6
  else if !bodyOk (imgBody b) then 2
  else if !sigGood rootPoint (imgSigned b) ((b.drop 0x80).take 132) then 3
  else if imgSvn b < minSvn s.vault.bootRecord then 4
  else 0

/-- Snima starts from an image (R105): `src` as GCTL_BOOT.SRC. -/
def State.snimaStart (s : State) (version svn : Nat) (meas : List Byte) (src : Nat) : State :=
  let t := ((s.setFld .gctlBoot 2 0 4).setFld .gctlBoot 11 8 src).setFld .gctlBoot 63 32 version
  { t with snima := { t.snima with version := version, svn := svn, bootSlots := [], meas := meas } }

/-- What an image is measured as (R123). -/
def imgMeas (b : List Byte) : List Byte := Algo.hash 3 (imgSigned b)

def State.snimaStarts (s : State) (img : List Byte) (src : Nat) : State :=
  s.snimaStart (imgVersion img) (imgSvn img) (imgMeas img) src

/-- Whether Snima runs: booted, not about to restart, and not in Lockdown (R86, R341). -/
def State.snimaUp (s : State) : Bool := s.fld .gctlBoot 2 0 = 4 && !s.locked

/-- A slot's image is whole in management-core memory, or could not be read: it starts, or the next source is tried. -/
def State.imageLoaded (s : State) (readOk : Bool) : State :=
  if s.locked ∨ s.fld .gctlBoot 2 0 ≠ 1 then s
  else match s.snima.bootSlots with
    | [] => s
    | b :: rest =>
      let img := s.slotImage b
      let r := if readOk then s.imageCheck img else 5
      if r = 0 then s.snimaStarts img (if b then 2 else 1)
      else
        let t := if b then s.setFld .gctlBoot 19 16 r else s.setFld .gctlBoot 23 20 r
        { (t.setFld .gctlBoot 2 0 (if rest = [] then 3 else 1)) with snima := { t.snima with bootSlots := rest, loadAt := t.clock } }

/-- The ROM chooses the slot and writes the boot record (R126). -/
def State.slotChoice (s : State) : Bool × State :=
  let r := s.vault.bootRecord
  let a := recActive r
  if recTrial r ∧ 0 < recLeft r then
    (!a, s.vaultPut [vaultBoot] (fun v => { v with bootRecord := putField 4 2 (recLeft r - 1) r }))
  else if recTrial r then (a, s.vaultPut [vaultBoot] (fun v => { v with bootRecord := putField 1 1 0 r }))
  else (a, s)

/-- The management cores stop: what Snima was doing is gone, channel keys with it (R88, R128), and no image runs. -/
def State.coresStop (s : State) : State :=
  let t := (s.setRg .gctlBoot 0)
  let t := (List.range 32).foldl (fun t c =>
    t.setBox c { t.box c with relayed := [], busy := none, respWait := none, key := none, nonce := none, authRun := 0 }) t
  { (t.withdraw (fun r => r.req < 68 && 64 ≤ r.req)) with
           irc := { t.irc with cores := [], decided := [] }
           fenuz := { t.fenuz with join := none, sponsoring := [], notes := [], relays := t.fenuz.relays.map (fun (r : Relay) => { r with dead := true }) }
           snima := { t.snima with bootSlots := [], version := 0, svn := 0, meas := []
                                   kats := t.snima.kats.map (fun k => (k.1, k.2.1, none)) } }

/-- MC0 starts from ROM (R105, R126): the cores have stopped, and but at a cold reset OUT_EP advances (R68); once for a restart of the
cores that a warm reset meets (R390; log entry 111). -/
def State.romStart (s : State) (cold : Bool) : State :=
  let (slot, t) := s.coresStop.slotChoice
  let t := t.setRg .gctlBoot 1
  let again := t.power.romAt.any (fun r => !usPassed r t.clock 5)
  let t := if cold ∨ again then t else (List.range 32).foldl (fun t c => t.bumpEpoch c true) t
  { t with power := { t.power with romDue := false, romAt := if cold then none else some t.clock }
           snima := { t.snima with bootSlots := [slot, !slot], loadAt := t.clock } }

/-- After a reset of the part MC0 starts from ROM, once an erased DRK has been drawn anew (R409). Until then no management core runs. -/
def State.romAfterReset (s : State) (cold : Bool) : State :=
  if s.vault.erased then { s.coresStop with power := { s.coresStop.power with romDue := true } } else s.romStart cold

/-- The entropy source and the DRBG after a reset of the part (R271, R403, R404): the start-up test runs again. -/
def State.entropyRestart (s : State) : State :=
  let t := ((s.setBit .anaCal 4 false).setBit .anaCal 5 false).setFld .anaCal 47 40 0
  { t with ana := { t.ana with startupRuns := true }
           crypto := { t.crypto with drbg := (t.crypto.drbg.map (fun e => (e.1, { e.2 with seeded := false, requests := 0
                                                                                           seedTime := 0 }))).filter (fun e => e.2 ≠ drbg0) } }

/-! ### Warm reset (R387 to R389) -/

/-- The registers from `lo` up to `hi` take their reset values, whatever writes in Lockdown have stored (R343, R388). -/
def State.resetRegs (s : State) (lo hi : Nat) : State :=
  { s with regs := s.regs.filter (fun e => e.1 < lo || hi ≤ e.1)
           latent := s.latent.filter (fun e => e.1 < lo || hi ≤ e.1) }

/-- A warm reset; `last` is GCTL_RST.LAST. A request before step 5 of another is one with it (R390). -/
def State.warmReset (s : State) (last : Nat) : State :=
  if s.warmRuns then { s with power := { s.power with warmDue := false } }
  else
  let t := { s with power := { s.power with warmAt := some s.clock } }.quiet.zeroiseCache
  let t := { t with power := { t.power with warmDue := false } }
  let t := { t with chans := [], movers := [], moverWait := [], sqs := [], cqs := [], fetch := ⟨4095, 4095, true⟩ }
  let t := (List.range 8).foldl (fun t k => t.linkDown (k + 2)) t
  let t := (List.range 8).foldl (fun t k => t.setLink (k + 2)
    { t.link (k + 2) with perstAt := some (max ((t.link (k + 2)).perstAt.getD 0) (t.clock + second / 1000)) }) t
  let t := ((((((t.resetRegs 0x1400000 0x1500000).resetRegs 0x1000000 0x1400000).resetRegs 0x800000 0x840000).resetRegs
    0x500000 0x600000).resetRegs 0x400000 0x500000).resetRegs 0x300000 0x400000)
  let t := { t with
    drives := [], events := [], strikes := [], arb := { arb0 with blocked := s.arb.blocked }
    irc := { t.irc with cores := [], inService := [], served := [], idled := [], lastDelivery := [], dampHeld := [], decided := [] }
    crypto := { t.crypto with fills := [], aes := [], sha := [], p521 := [], aesOut := [], shaOut := [], p521Out := []
                              drbgOut := false, aesWait := [], shaWait := [], p521Wait := [] }
    snima := { t.snima with kats := [] } }
  let t := ((t.setFld .gctlLock 1 0 0).setFld .gctlRst 11 8 last).addFld .gctlRst 63 48 1
  (t.entropyRestart.romAfterReset false).latentActs

/-- The warm reset that a write of GCTL_RST.WARM by a mover or a channel processor requests (R387). -/
def State.warmFires (s : State) : State := if s.power.warmDue then s.warmReset 4 else s

/-! ### Cold reset (R381 to R388) -/

/-- Time restarts at 0 with STATE FREE and ALIGN unbounded, as VAON was lost (R34). Outside RUN, or in cold reset, that is so until the
part next runs. -/
def State.timeRestarts (s : State) : State :=
  let m := { s.time with now := 0, stepped := s.time.stepped - s.time.now, lastSecond := 0, ppsMark := 0, ppsInLast := none }
  let lost := s.power.timeLost || s.power.coldReset || decide (s.power.state ≠ .run)
  let t := { s with power := { s.power with timeLost := lost }, time := m }
  (if s.power.coldReset then t.setFld .timeStat 1 0 0 else t.setTimeState 0).setFld .timeUnc 63 32 0xFFFFFFFF

/-- Nothing keeps Time through a cold reset while VAON is absent (R34, R388). -/
def State.timeUnkept (s : State) : State :=
  if s.power.vaon then s else (fun (t : State) => { t with power := { t.power with timeLost := true } }) s.timeRestarts

/-- Presence Detect of the back-end links, and PERST_N of the host ports, are levels of pins, which a reset does not change. -/
def State.pinLevels (t : State) : State :=
  let t := (List.range 8).foldl (fun t k => if t.linkPresent (k + 2) then t.setBit .lnkStat 1 (t.link (k + 2)).present (k + 2) else t) t
  (List.range 2).foldl (fun t p => t.setBit .lnkStat 1 (tabGet false t.power.perstHigh p) p) t

/-- The part is held in cold reset: every block loads its reset values; the vault, the flash, Time, pins and everything
outside stay; the tamper sources that work in RUN alone sense nothing (R406). `off` is how long VAON kept Time alone (R34). -/
def State.coldHeld (s : State) (last rail off : Nat) : State :=
  let z := State.reset
  let s := s.timeUnkept
  let align := if s.power.timeLost then 0xFFFFFFFF else min 0xFFFFFFFF ((off * 50 + 999999) / 1000000)
  let t : State := { z with
    pending := s.pending, vault := s.vault, flash := s.flash, ext := s.ext
    time := { z.time with now := s.time.now, stepped := s.time.stepped, lastSecond := s.time.lastSecond
                          stampNode := if s.time.joinStepDue then s.time.stampNode else s.vault.node
                          joinStepDue := s.time.joinStepDue, epochSet := s.time.epochSet
                          lastTime := if s.power.timeLost then [] else s.time.lastTime, ppsMark := s.time.now }
    crypto := { z.crypto with drbg := (s.crypto.drbg.map (fun e => (e.1, { drbg0 with seeds := e.2.seeds }))).filter (fun e => e.2 ≠ drbg0) }
    ana := { z.ana with detecting := s.ana.detecting &&& 0x19F, gpioIn := s.ana.gpioIn, tamperIn := s.ana.tamperIn
                        meshSeed := Config.meshSeed s.clock, meshSince := s.clock }
    links := (s.links.filter (fun e => e.2.present)).map (fun e => (e.1, { link0 with present := true }))
    side := s.side
    power := { z.power with state := s.power.state, rstLow := s.power.rstLow, perstHigh := s.power.perstHigh, vaon := s.power.vaon
                            railDown := s.power.railDown, timeLost := s.power.timeLost, aonLoss := s.power.aonLoss } }
  let t := ((t.setFld .gctlRst 11 8 last).setFld .gctlRst 18 16 rail).setBit .pwrAon 0 (s.bit .pwrAon 0)
  let t := t.setFld .timeCtl 5 4 (if s.vault.member then 2 else 0)
  ((t.setFld .timeStat 1 0 (if s.power.timeLost then 0 else 1)).setFld .timeUnc 63 32 align).pinLevels

/-- ARG0 of a TAMPER record (R411): of the mesh what it found, of the VDD glitch and the temperature the value, of any other source 0. -/
def tamperArg (src count arg : Nat) : Nat :=
  let tells := src = 5 || src = 6 || (src = 4 && 1 ≤ arg && arg ≤ 4)
  min 255 count + (if tells then arg % 2 ^ 16 else 0) * 2 ^ 16

/-- A TAMPER record is written and its EVT bit set (R408, R410). -/
def State.tamperRecord (s : State) (sub src count arg time : Nat) : State :=
  let (x, t) := s.stamp 0x7F 0
  ((t.logAlways ⟨x, 0x0C, sub, src, tamperArg src count arg, time % 2 ^ 64⟩).setBit .anaTampEvt src true).ircCause 0x1A4 x.time

/-- SYS_RST_N is released with every rail in range (R282, R286, R384, R410, R422). -/
def State.coldRelease (s : State) : State :=
  let t := { s with
    power := { s.power with coldReset := false, rstLow := false, timeLost := false }
    store := { s.store with mem := [], words := [], remap := s.vault.retired, zeroing := true,
                             scrubStart := (List.range 64).foldl (fun t g => tabSet 0 t g s.clock) [] } }
  let t := { t.setBit .vltStat 0 true with side := { t.side with asel := Config.sbAsel } }
  let t := s.vault.tamperLog.foldl (fun t e => if e.reported then t else t.tamperRecord 1 e.source e.count e.arg e.time) t
  let t := { t with vault := { t.vault with tamperLog := t.vault.tamperLog.map (fun (e : TamperEntry) => { e with reported := true }) } }
  let t := (List.range 8).foldl (fun t k => t.setLink (k + 2) { t.link (k + 2) with perstAt := some (t.clock + second / 10) }) t
  let t := (List.range 4).foldl (fun t p => t.portTrains p) t
  t.pinLevels.romAfterReset true

/-- SYS_RST_N is released: with a rail out of range the part stays in cold reset. -/
def State.rstRelease (s : State) : State :=
  if s.power.coldReset ∧ s.power.state = .run ∧ s.power.railDown = none then s.coldRelease
  else { s with power := { s.power with rstLow := false } }

/-- SYS_RST_N is asserted (R387). -/
def State.rstAssert (s : State) : State :=
  let t := if s.power.coldReset then s else s.coldHeld 2 0 0
  { t with power := { t.power with rstLow := true } }

/-- A main rail falls below its trip level (R381, R383). -/
def State.railTrip (s : State) (rail : Nat) : State :=
  let t := if s.power.coldReset then s else s.coldHeld 3 (rail + 1) 0
  { t with power := { t.power with railDown := some (t.power.railDown.getD rail), state := if t.power.vaon then PowerState.standby else PowerState.off } }

/-- The main rails rise (R34, R382): after `off` of Time with VDD off the part is in a cold reset of their rising; a rail that only
dipped ends the supervisor's. The TAP comes up reset (PRESUMED from IEEE 1149.1, log entry 112). -/
def State.railsRise (s : State) (off : Nat) : State :=
  if s.power.state = .run then s
  else
    let t := { s with power := { s.power with railDown := none, state := .run }
                      side := { s.side with tap := .idcode, captured := 0, pins := .part, boundary := [] } }
    let t := if t.power.vaon then { t with time := { t.time with now := t.time.now + off } } else t.timeUnkept
    if off = 0 then (if t.power.rstLow then t else t.rstRelease)
    else
      let t := t.coldHeld 1 0 off
      { t with power := { t.power with rstLow := true } }

/-! ### The always-on domain (R34, R386, R410) -/

/-- VAON falls below its trip level: nothing senses without it; AONLOSS watches whether it does (R386, R406). -/
def State.vaonFalls (s : State) : State :=
  { s with ana := { s.ana with detecting := 0 }
           power := { s.power with vaon := false
                                   aonLoss := if s.power.vaon then s.vault.armWord.testBit 20 else s.power.aonLoss
                                   state := if s.power.state = .standby then PowerState.off else s.power.state } }

/-- Membership ends (R356, R357): NODE reads 0, and what the part had of its fleet's time tree goes. -/
def State.endMembership (s : State) : State :=
  let v := s.vault
  let t := { s with vault := { v with frk := none, member := false, node := 0, fleetId := 0 }
                    time := { s.time with stampNode := 0, joinStepDue := false }
                    fenuz := { s.fenuz with heard := [], gms := [], childs := [], exch := none, admissions := [], sponsoring := [] } }
  let t := (t.setFld .timeStat 19 16 0xF).setBit .timeStat 8 false
  (t.setFld .fnzStat 53 32 0).setRg .fnzGm 0xFFFFFFFFFF000000

/-- DRK and FRK are erased, the tamper log takes an entry, and membership ends (R408 steps 3 and 4, R409). -/
def State.tamperErase (s : State) (src arg time : Nat) (reported : Bool) : State :=
  let v := s.vault
  let n := min 255 (v.tampCnt + 1)
  let e : TamperEntry := ⟨time, src, arg, n, reported⟩
  let log := if 256 ≤ v.tamperLog.length then v.tamperLog.drop 1 ++ [e] else v.tamperLog ++ [e]
  let t := { s with vault := { v with drk := none, frk := none, tampered := true, erased := true, tampCnt := n, lastSrc := src } }
  let t := t.vaultPut (tamperWords v.logNext) (fun v => { v with tamperLog := log, logNext := (v.logNext + 1) % 256 })
  if v.member then (match t.vaultWrites fleetWords with | some u => u.endMembership | none => t) else t.endMembership

/-- The key cache and the write-back list are emptied, counts included (R116). A command that runs has its key in its core, and the
entry it holds is none for any other. -/
def State.emptyCache (s : State) : State :=
  { s with crypto := { s.crypto with
      cache := (s.crypto.cache.filter (fun e => !e.holders.isEmpty)).map (fun (e : CacheEntry) => { e with count := 0, live := false })
      listed := [] } }

/-- VAON returns: Time restarts at 0, and a loss that AONLOSS watched is a tamper event (R34, R386, R410). -/
def State.vaonRises (s : State) : State :=
  if s.power.vaon then s
  else
    let t := s.timeRestarts
    let t := { t with power := { t.power with vaon := true, aonLoss := false
                                              state := if s.power.state = PowerState.off then PowerState.standby else s.power.state } }
    let t := t.setBit .pwrAon 0 true
    if s.power.aonLoss then (t.setBit .anaTampSeen 9 true).emptyCache.tamperErase 9 0 0 false else t

/-! ### Register writes in full -/

/-- A register write (R6): GCTL_RST.WARM resets the part, in Lockdown too (R342). -/
def State.writeReg (s : State) (m : Nat) (r : Reg) (acc : Acc) (d : Nat) : State :=
  if r.kind = .gctlRst then (if acc ≠ .hi ∧ d.testBit 0 then s.warmReset 4 else s)
  else s.writePlain m r acc d

/-- A write of the register space or the Chime window that R54 allows. -/
def State.spaceWrite (s : State) (m a : Nat) (acc : Acc) (v : Nat) : State :=
  match placeOf (a / 8 * 8) with
  | .regs off => match regAt? off with
    | some r => s.writeReg m r acc v
    | none => s.unmapped m a true
  | _ => s.spacePlain m a acc v

/-- Lockdown is complete: ST 2 (R339). A write that requests a warm reset may be among the accesses that have completed (R387). -/
def State.lockQuiesced (s : State) : State := if s.fld .gctlLock 1 0 = 1 then (s.quiet.setFld .gctlLock 1 0 2).warmFires else s

/-! ### Accesses by any other master (R56, R281, R288) -/

/-- The name under which the store's events of an access are recorded: the requester's, but for requester 71 the master's (R281, R288). -/
def faultName (m who : Nat) : Nat := if who = 71 then m else who

/-- What a read brings back: its bytes, and whether any is of an uncorrectable word. -/
def State.otherRead (s : State) (m who a n : Nat) : List Byte × Bool × State :=
  match placeOf a with
  | .store =>
    let (d, bad, t) := s.masterRead who a n (faultName m who)
    (d, bad.isSome, t)
  | .outside => (ones n, false, s.unmapped m a false)
  | _ =>
    match accOf a n with
    | some acc => let (d, t) := s.spaceRead m a acc; (d, false, t)
    | none => (ones n, false, s.unmapped m a false)

/-- A write of bytes from an address, all of them enabled. -/
def State.otherWrite (s : State) (m who a : Nat) (d : List Byte) : State :=
  match placeOf a with
  | .store => s.masterWrite who (atAddr a d) (faultName m who)
  | .outside => s.unmapped m a true
  | _ =>
    match accOf a d.length with
    | some acc => s.spaceWrite m a acc (accValue acc d)
    | none => s.unmapped m a true

/-! ### How a command acts -/

/-- A warm reset that a command's own writes asked for has been carried out within the command (R387): none is due after it. -/
def State.warmDone (s : State) : State := { s with power := { s.power with warmDue := false } }

/-- What the end of a command adds to its effect: what a host reset left IDLE is looked at anew (R321, R325), and a port whose
measurement is over sends what it kept queued (R400). -/
def State.afterwards (t : State) : State := t.idledNow.fnzDrain.warmDone

/-- Time never goes back (R29): what a command does leaves Time where it was or later. -/
def noRewind (s t : State) : State :=
  let u := t.afterwards
  if u.time.now < s.time.now then { aside s u with time := { u.time with now := s.time.now } } else aside s u

/-- A command of the running part: in cold reset nothing answers (R387), else its effect. -/
def live (s : State) (f : State → State) : Result :=
  .next (if s.power.coldReset then s else noRewind s (f s))

/-- A command that says what Time it is. -/
def liveAt (s : State) (now : Nat) (f : State → State) : Result := live s (fun s => f (s.pass now))

/-- A command of the running part that may access the store by itself. -/
def liveM (s : State) (f : State → State) : Result := live s (fun s => s.orWaits (f s))

/-- The same with the Time it comes at, which passes though the command waits. -/
def liveMAt (s : State) (now : Nat) (f : State → State) : Result := live s (fun s => (s.pass now).orWaits (f (s.pass now)))

/-- What follows a command of movers and channels at once: the warm reset that an access of theirs has requested (R387), and the reads of
channel processors that go out (R368), with what that means for their timeouts (R334). -/
def State.follows (s : State) : State := s.warmFires.issueReads.retrySync

/-- A command of the running part that may change what channels have outstanding on links. -/
def liveC (s : State) (f : State → State) : Result := live s (fun s => s.orWaits (f s).follows)

/-- The same with the Time it comes at, which passes though the command waits. -/
def liveCAt (s : State) (now : Nat) (f : State → State) : Result :=
  live s (fun s => (s.pass now).orWaits (f (s.pass now)).follows)

/-- A command of the data plane as `liveM` has it: in Lockdown it does nothing (R308, R339 step 2). -/
def freeM (s : State) (f : State → State) : Result := live s (unlocked (fun s => s.orWaits (f s)))

/-- A command of the data plane as `liveC` has it. -/
def freeC (s : State) (f : State → State) : Result := live s (unlocked (fun s => s.orWaits (f s).follows))

/-- A command of the data plane as `liveCAt` has it: Time passes in Lockdown too. -/
def freeCAt (s : State) (now : Nat) (f : State → State) : Result :=
  live s (fun s => unlocked (fun p => p.orWaits (f p).follows) (s.pass now))

end Sys2Proof.Machine
end

