-- ==== Sys2Proof/Machine/Data.lean ====
section
/-! DEFINITION. Data commands at work (R169 to R174, R198 to R210, R227 to R231, R257 to R267): taking a mover and crypto units,
loading transfers, the bursts' data and write responses, results formed inside the crypto block, and the ends of commands. -/

namespace Sys2Proof.Machine

/-! ### Endings -/

/-- Whether a channel is about to execute a command of an opcode. -/
def State.ready (s : State) (c opc : Nat) : Bool :=
  let ch := s.chan c
  ch.phase = .active && ch.stage = .run && !ch.ended && ch.head.cmd.opc = opc

/-- The commands of a chain that have a length mismatch (R173). -/
def Chan.mismatches (ch : Chan) : List Member := ch.chain.filter (fun m => m.cmd.count ≠ 0 && m.offered ≠ m.cmd.count)

/-- CODE, DETAIL and RESID of a data command or chain whose data all passed (R169, R170, R173). -/
def Chan.lengthEnd (ch : Chan) : Ending :=
  match ch.mismatches with
  | [] => ⟨if ch.chain.any (·.cmd.dry) then 0x02 else 0x00, 0, 0⟩
  | m :: _ =>
    let cut := if ch.head.cmd.opc = 2 ∧ ch.head.cmd.alg = 1 then ch.carriedTotal - ch.outTotal else 0
    ⟨if ch.final.cmd.lenok then 0x01 else 0x23, if m.cmd.count < m.offered then 0x8000 else 0,
     (ch.chain.map (fun m => m.cmd.count - m.carried)).sum + cut⟩

/-- How a data command or chain ends (R202, R203, R205, R208, R210). -/
def Chan.dataEnding (ch : Chan) : Ending :=
  let h := ch.head.cmd
  let e := ch.lengthEnd
  match ch.stream.diff with
  | some p =>
    if h.opc = 9 then ⟨0x31, if ch.mismatches = [] then 0 else 0x4000 + e.detail, ch.total - p⟩
    else if h.opc = 7 then ⟨0x31, p, 0⟩
    else ⟨0x30, 0, 0⟩
  | none => if h.opc = 2 ∧ h.alg = 4 then ⟨e.code, if h.dry then 0 else ch.stream.result.length, 0⟩ else e

/-- A data command or chain ends, at its last member. -/
def State.dataEnd (s : State) (c : Nat) : State :=
  let ch := s.chan c
  let e := ch.dataEnding
  (s.setChan c { ch with pos := ch.chain.length - 1 }).endCmd c e.code e.detail e.resid

/-! ### Failures of the accesses outside the stream (R201, R235) -/

/-- A failed access of the GCM block: it is the mover's bus error, and the channel halts (R249, R251). -/
def State.blockFails (s : State) (m c : Nat) (f : Failure) : State :=
  let s := (s.latchMov m c f).fault (0x20 + m) 0x05 c (busArg f false) f.addr ((s.chan c).cause + 1)
  let x := s.mover m
  ((s.setMover m (promote { x with owner := if x.owner = some c then none else x.owner })).haltStream c f false (s.lastStamp (0x20 + m))).work m

/-- An access that a mover makes outside its stream passes the arbiter of its segment for itself (R287, R293). -/
def State.ownAccess (s : State) (m : Nat) (write : Bool) (a n : Nat) : State :=
  match placeOf a with
  | .store => (s.rangeReqs m write a n).foldl (fun t r => t.claim r) s
  | _ => s

/-- A failed beat of the GCM block as a bus error; the part of it in zone 0. -/
def blockFailure (b : Beat) (a dir off : Nat) : Failure :=
  failWith b.1 b.2.1 0 dir (if dir = 1 then (a + b.2.2) / 64 * 64 else a + b.2.2) off

/-! ### Transfers are loaded (R227, R231, R232) -/

/-- The transfer of member `i` of a channel's command or chain. -/
def State.memberTransfer (s : State) (c i : Nat) : Option Transfer :=
  let ch := s.chan c
  let op := ch.head.cmd.opc
  (ch.chain[i]?).map (fun mb =>
    let x := mb.cmd
    let n := mb.carried
    { kind := if op = 1 then .copy else if op = 8 then .fill else if op = 9 then .compare else .stream
      op := op, zs := x.zs, zd := x.zd, src := x.src, dst := x.dst, count := x.count, total := if op = 7 then n + 132 else n
      pside := x.pside, pidx := x.pidx, pattern := mb.pattern, fill := BitVec.ofNat 64 ch.head.cmd.param
      desc := op = 1 && x.pside = 0 && x.zs = x.zd && !x.dry && x.src < x.dst && x.dst < x.src + n
      dry := x.dry, place := op = 8 || op = 9 || ch.head.cmd.inPlace, chan := some c
      base := ((ch.chain.take i).map (·.carried)).sum, hop := 0, next := 0, last := i + 1 = ch.chain.length
      bursts := [], carry := [], words := [], failed := none, canceled := false, cause := ch.cause })

/-- The SHADOW registers of a mover hold a transfer (R232). -/
def State.shadowRegs (s : State) (m : Nat) (t : Transfer) : State :=
  ((((s.setRg .movShXf (t.op + t.pidx * 2 ^ 8 + t.pside * 2 ^ 22 + t.zs * 2 ^ 24 + t.zd * 2 ^ 28) m).setRg .movShCount t.count m).setRg
    .movShSrc t.src m).setRg .movShDst t.dst m).setRg .movShFill t.fill.toNat m

/-- Member `i` of a channel's command or chain is loaded into a mover's SHADOW (R228, R231). -/
def State.loadMember (s : State) (m c i : Nat) : State :=
  match s.memberTransfer c i with
  | none => s
  | some t =>
    let s := s.shadowRegs m t
    let s := s.setMover m (promote { s.mover m with shadow := some t
                                                    owner := if (s.chan c).chain.length ≤ 1 then none else some c })
    s.setChan c { s.chan c with stage := if t.last then .moving else .member, pos := i }

/-! ### Streams -/

/-- The SHA core of a command is free again (R257). -/
def State.freeSha (s : State) (c : Nat) : State :=
  { s with crypto := { s.crypto with sha := s.crypto.sha.filter (fun e => e.2 ≠ some c) } }

/-- What becomes of a stream that has passed whole: its result, or the failed check (R203, R205, R206, R257, R266). A SIGN or VERIFY
goes on to a P-521 engine. -/
def State.formResult (s : State) (m c : Nat) (t : Transfer) : State :=
  let ch := s.chan c
  let h := ch.head.cmd
  let x := ch.stream
  let key := s.keyOf c
  let formed := fun (x : Stream) => (s.setChan c { ch with stream := { x with formed := true } }).emitOut m c t t.bursts [] []
  if h.opc = 2 ∧ h.alg = 4 then
    (if h.decrypt then
      match Algo.kwpUnwrap key x.input with
      | some p => formed { x with result := p }
      | none => formed { x with diff := some 0 }
     else formed { x with result := Algo.kwpWrap key x.input })
  else if h.opc = 4 then
    let n := h.count - 32
    let iv := x.input.take 12
    let text := (x.input.drop 16).take n
    let aad := sealAad n h.param ((ch.session.map (·.1)).getD 0)
    if bytesAt x.input 12 4 = n ∧ Algo.gcmTag key iv aad text = x.input.drop (16 + n) then
      formed { x with result := Algo.gcm key iv text }
    else formed { x with diff := some 0 }
  else if h.opc = 5 then formed { x with result := if h.mod = 8 then Algo.hmac key x.input else Algo.hash h.mod x.input }
  else if h.opc = 6 ∨ h.opc = 7 then
    let t := s.setChan c { ch with stage := .p521Wait, stream := { x with result := if h.mod = 1 then x.input else Algo.hash 3 x.input } }
    let t := t.freeSha c
    { t with crypto := { t.crypto with p521Wait := t.crypto.p521Wait ++ [c] } }
  else formed x

/-- The result of the ACTIVE stream is formed once its last transfer has read everything. -/
def State.formDue (s : State) (m : Nat) : State :=
  match (s.mover m).active with
  | none => s
  | some t =>
    match t.chan with
    | none => s
    | some c =>
      let ch := s.chan c
      if t.kind = .stream && t.last && t.total ≤ t.next && t.failed.isNone && ch.phase = .active && ch.stage = .moving
          && !ch.stream.formed && t.bursts.all (fun b => b.hi ≤ b.lo) then s.formResult m c t
      else s

/-! ### The end of a command's transfers -/

/-- The tag of a GCM stream: written after an encryption, compared after a decryption; a mismatch scrubs what was written (R201,
R202, R263). -/
def State.gcmEnd (s : State) (m c : Nat) : State :=
  let ch := s.chan c
  let h := ch.head.cmd
  let x := ch.stream
  let key := s.keyOf c
  let aad := x.input.take (fieldOf 15 0 h.param2)
  let text := x.input.drop (fieldOf 15 0 h.param2)
  if h.decrypt then
    (if Algo.gcmTag key x.iv aad text = x.tag then s.dataEnd c
     else
      let t := s.setChan c { ch with stream := { x with diff := some 0, scrub := some (m, 0) } }
      if ch.chain.all (·.cmd.dry) then t.dataEnd c
      else t.setMover m { t.mover m with owner := (t.mover m).owner.or (some c) })
  else
    let a := (h.param + 16) % 2 ^ 64
    let (bad, t) := (s.ownAccess m true a 16).engineWrite (0x20 + m) m (atAddr a (Algo.gcmTag key x.iv aad (Algo.gcm key x.iv text)))
    match bad with
    | some b => t.blockFails m c (blockFailure b a 2 ch.total)
    | none => if (t.chan c).phase = .active ∧ (t.chan c).stage = .moving then t.dataEnd c else t

/-- A transfer of a channel in the tracker whose writes have all answered completes; the last one ends the command or chain
(R229). -/
def State.reapTracked (s : State) (m : Nat) : State :=
  match (s.mover m).tracker with
  | none => s
  | some t =>
    match t.chan with
    | none => s
    | some c =>
      if t.bursts = [] && t.failed.isNone then
        let s := s.setMover m { s.mover m with tracker := none }
        let h := (s.chan c).head.cmd
        if !t.last then s
        else if t.kind = .stream && h.opc = 2 && h.alg = 2 then s.gcmEnd m c
        else s.dataEnd c
      else s

/-- The same, once every access of the store that this makes is granted: a tag, or a write-back. -/
def State.reapChan (s : State) (m : Nat) : State := s.attempt (·.reapTracked m)

/-- The scrub of R202 goes on: its next transfer of zeros is loaded where the mover can take one. -/
def State.feedScrub (s : State) (m : Nat) : State :=
  let x := s.mover m
  match s.chans.find? (fun e => e.2.phase = .active && (e.2.stream.scrub.map (·.1)) = some m
      && (match e.2.stream.scrub with | some (_, i) => decide (i < e.2.chain.length) | none => false)) with
  | none => s
  | some (c, ch) =>
    match ch.stream.scrub.map (·.2) with
    | none => s
    | some i =>
      if x.shadow.isNone && !x.halt && (x.owner.isNone || x.owner = some c) then
        match s.memberTransfer c i with
        | none => s
        | some t =>
          let t := { t with kind := .scrub, fill := 0, total := if t.dry then 0 else t.total }
          (s.setMover m (promote { x with shadow := some t, owner := some c })).setChan c
            { ch with stream := { ch.stream with scrub := some (m, i + 1) } }
      else s

/-- A mover that carried a chain, or a scrub, to its last transfer's end is its own again (R231). -/
def State.ownerEnds (s : State) (m : Nat) : State :=
  let x := s.mover m
  match x.owner with
  | none => s
  | some c =>
    let ch := s.chan c
    let mine := fun (o : Option Transfer) => decide ((o.bind (·.chan)) = some c)
    let waits := ch.stage = .aesWait || ch.stage = .shaWait || ch.stage = .drbgWait || ch.stage = .member
    let scrubs := match ch.stream.scrub with | some (_, i) => decide (i < ch.chain.length) | none => false
    if ch.phase = .active && !ch.ended && (waits || scrubs) then s
    else if mine x.active || mine x.shadow then s
    else s.setMover m { x with owner := none }

/-- One round of what follows from a mover's state. -/
def State.runOnce (s : State) (m : Nat) : State :=
  if s.locked then s else ((((s.work m).formDue m).reapChan m).feedScrub m).ownerEnds m

/-- Some rounds of it. -/
def State.rounds (s : State) (m : Nat) : Nat → State
  | 0 => s
  | n + 1 => (s.runOnce m).rounds m n

/-- Everything that follows at once from what has happened on a mover: a scrub may pass all members of its chain (R202, R264). -/
def State.run (s : State) (m : Nat) : State :=
  s.rounds m (5 + ((s.chans.filter (fun e => (e.2.stream.scrub.map (·.1)) = some m)).map (fun e => 2 * e.2.chain.length)).sum)

/-- Reservations that wait are tried again when credits may have been freed (R294). -/
def State.retryCredits (s : State) : State := s.retryWith State.run

/-! ### The start of a data command, and its mover (R231) -/

/-- A data command begins: with nothing to read or write it ends at once (R193), else it waits for a mover. -/
def State.dataStart (s : State) (c opc : Nat) : State :=
  if s.ready c opc then
    let ch := s.chan c
    if ch.total = 0 then
      (s.setChan c { ch with pos := ch.chain.length - 1 }).endCmd c (if ch.chain.any (·.cmd.dry) then 0x02 else 0x00) 0 0
    else { (s.setChan c { ch with stage := .moverWait }) with moverWait := s.moverWait ++ [c] }
  else s

/-- The mover that a channel processor takes (R231). -/
def State.freeMover (s : State) : Option Nat :=
  let ok := fun (m : Nat) =>
    let x := s.mover m
    !x.direct && !s.bit .movCfg 0 m && x.shadow.isNone && x.owner.isNone && !x.halt
  ((List.range 64).find? (fun m => ok m && (s.mover m).active.isNone)).or ((List.range 64).find? ok)

/-- Whether a command takes an AES core, and whether a SHA core, before its data (R257). -/
def Cmd.usesAes (h : Cmd) : Bool := h.opc = 2 || h.opc = 3 || h.opc = 4
def Cmd.usesSha (h : Cmd) : Bool := h.opc = 5 || ((h.opc = 6 || h.opc = 7) && h.mod = 0)

/-- The command that waits longest takes a mover, and goes on to its crypto unit or its data. -/
def State.takeMover (s : State) : State :=
  match s.moverWait, s.freeMover with
  | c :: rest, some m =>
    let s := { s with moverWait := rest }
    let s := (s.setMover m { s.mover m with owner := some c }).progressed c
    let ch := s.chan c
    let h := ch.head.cmd
    if h.usesAes then
      { (s.setChan c { ch with stage := .aesWait }) with crypto := { s.crypto with aesWait := s.crypto.aesWait ++ [c] } }
    else if h.usesSha then
      { (s.setChan c { ch with stage := .shaWait }) with crypto := { s.crypto with shaWait := s.crypto.shaWait ++ [c] } }
    else (s.loadMember m c 0).run m
  | _, _ => s

/-! ### Crypto units (R257) -/

/-- The mover that a channel holds. -/
def State.moverOf (s : State) (c : Nat) : Option Nat := (List.range 64).find? (fun m => (s.mover m).owner = some c)

/-- The mover whose ACTIVE transfer is a channel's. -/
def State.moverActive (s : State) (c : Nat) : Option Nat :=
  (List.range 64).find? (fun m => ((s.mover m).active.bind (·.chan)) = some c)

/-- Whether a known-answer test has a unit out of rotation, or is about to (R103, R276): classes 0 AES, 1 SHA, 2 P-521, 3 DRBG. -/
def State.underKat (s : State) (cls n : Nat) : Bool := s.snima.kats.any (fun k => k.1 = cls && k.2.1 = n)

/-- The lowest free unit in rotation. -/
def State.freeUnit (s : State) (cls count : Nat) (held : Tab (Option Nat)) (out : List Nat) : Option Nat :=
  (List.range count).find? (fun n => tabGet none held n = none && !(n ∈ out) && !s.underKat cls n)

/-- The head of a stream's command, once it has its mover and its core: the IV is drawn and written, or the GCM block is read
(R201, R205), and the first transfer is loaded. -/
def State.streamBegin (s : State) (c : Nat) : State :=
  match s.moverOf c with
  | none => s
  | some m =>
    let ch := s.chan c
    let h := ch.head.cmd
    let gcm := h.opc = 2 ∧ h.alg = 2
    let go := fun (s : State) => (s.loadMember m c 0).run m
    let setStream := fun (s : State) (iv tag : List Byte) =>
      s.setChan c { s.chan c with stream := { (s.chan c).stream with iv := iv, tag := tag } }
    if h.opc = 3 ∨ (gcm ∧ h.param2.testBit 16) then
      if s.drbgReady 1 then
        let (iv, t) := s.draw 1 12
        let t := setStream (t.progressed c) iv []
        if h.opc = 3 then go t
        else
          let (bad, t) := (t.ownAccess m true h.param 12).engineWrite (0x20 + m) m (atAddr h.param iv)
          match bad with
          | some b => if t.moverOf c = some m then t.blockFails m c (blockFailure b h.param 2 0) else t
          | none => go t
      else s.setChan c { ch with stage := .drbgWait }
    else if gcm then
      let n := if placeOf h.param = .store then (if h.decrypt then 32 else 16) else 12
      match (s.ownAccess m false h.param n).engineRead (0x20 + m) m h.param n with
      | (.error b, t) => t.blockFails m c (blockFailure b h.param 1 0)
      | (.ok d, t) => go (setStream t (d.take 12) (d.drop 16))
    else go s

/-- A P-521 engine begins: SIGN draws its secret (R207, R271). -/
def State.p521Begin (s : State) (c n : Nat) : State :=
  let ch := s.chan c
  if ch.head.cmd.opc = 6 then
    if s.drbgReady (2 + n) then
      let (k, t) := s.drawScalar (2 + n)
      let t := t.progressed c
      t.setChan c { t.chan c with stage := .p521Run, stream := { (t.chan c).stream with iv := k } }
    else s.setChan c { ch with stage := .drbgWait }
  else s.setChan c { ch with stage := .p521Run }

/-- The unit of a kind that a channel holds. -/
def heldUnit (t : Tab (Option Nat)) (c : Nat) : Option Nat := (t.find? (fun e => e.2 = some c)).map (·.1)

/-- The command that waits longest for a unit of a kind takes one (R257). -/
def State.takeUnit (s : State) (kind : UnitKind) : State :=
  let k := s.crypto
  match kind with
  | .aes =>
    match k.aesWait, s.freeUnit 0 32 k.aes k.aesOut with
    | c :: rest, some n =>
      (({ s with crypto := { k with aesWait := rest, aes := tabSet none k.aes n (some c) } }).progressed c).streamBegin c
    | _, _ => s
  | .sha =>
    match k.shaWait, s.freeUnit 1 8 k.sha k.shaOut with
    | c :: rest, some n =>
      let t := ({ s with crypto := { k with shaWait := rest, sha := tabSet none k.sha n (some c) } }).progressed c
      match t.moverOf c with
      | some m => (t.loadMember m c 0).run m
      | none => t
    | _, _ => s
  | .p521 =>
    match k.p521Wait, s.freeUnit 2 4 k.p521 k.p521Out with
    | c :: rest, some n =>
      (({ s with crypto := { k with p521Wait := rest, p521 := tabSet none k.p521 n (some c) } }).progressed c).p521Begin c n
    | _, _ => s

/-- Commands that waited for DRBG output go on where it is given again (R272). -/
def State.drbgResume (s : State) : State :=
  if s.locked then s
  else (s.chans.map (·.1)).foldl (fun t c =>
    let ch := t.chan c
    if ch.phase = .active ∧ ch.stage = .drbgWait then
      match heldUnit t.crypto.p521 c with
      | some n => t.p521Begin c n
      | none => t.attempt (·.streamBegin c)
    else t) s

/-- P521_OPERATION_COMPLETE (R207, R208): the engine's command has its signature, or its verdict, and no output: the digest goes nowhere
(R266). Where a half of a signature is 0 the
engine draws its secret again, and goes on to the next such command (R256). -/
def State.p521Complete (s : State) (n : Nat) : State :=
  match tabGet none s.crypto.p521 n with
  | none => s
  | some c =>
    let ch := s.chan c
    match s.moverActive c with
    | none => s
    | some m =>
      match (s.mover m).active with
      | none => s
      | some t =>
        if ch.phase = .active ∧ ch.stage = .p521Run then
          let x := ch.stream
          let key := s.keyOf c
          let y := Algo.ecdsaSign key x.result x.iv
          if ch.head.cmd.opc = 6 && (Algo.sigOutOfRange (y.take 66) || Algo.sigOutOfRange (y.drop 66)) then s.p521Begin c n
          else
          let x := if ch.head.cmd.opc = 6 then { x with result := y }
            else { x with result := [], diff := if Algo.sigOutOfRange (x.other.take 66) || Algo.sigOutOfRange (x.other.drop 66) then some 1
                                  else if Algo.ecdsaHolds key x.result x.other then none else some 2 }
          let u := s.setChan c { ch with stage := .moving, stream := { x with formed := true } }
          (u.emitOut m c t t.bursts [] []).run m
        else s

/-! ### Bursts answer -/

/-- BURST_READ_DATA: the first outstanding read of the ACTIVE transfer answers (R248, R249). `rd` is what a link brings. -/
def State.burstData (s : State) (m : Nat) (rd : ReadResult) : State :=
  match (s.mover m).active with
  | none => s
  | some t =>
    match t.bursts.find? (·.stage = .reading) with
    | none => s
    | some b =>
      let a := (s.burstReads t b).headD 0
      let z := readZone t b
      let n := b.hi - b.lo
      if z = 0 then
        match s.burstRead m t b with
        | (.ok d, u) => ((u.endGrant m b).readArrives m b d).run m
        | (.error x, u) => ((u.endGrant m b).burstFails m false b (s.loadFails t b x)).run m
      else match rd with
        | .ok d => ((s.linkAnswers b.link).readArrives m b (fitBytes n d)).run m
        | .fail cause line =>
          let x := a / 64 * 64 + 64 * min line ((a % 64 + n - 1) / 64)
          if s.tooEarly z b.issued rd then s
          else ((s.linkAnswers b.link).burstFails m false b (failWith cause.toNat 0x20 z 1 x (t.offOf (b.lo + (x - a))))).run m

/-- BURST_WRITE_RESPONSE: the oldest outstanding write of the mover answers (R229, R248 to R250). `res` is a link's response. -/
def State.burstWritten (s : State) (m : Nat) (res : WriteResult) : State :=
  let x := s.mover m
  let pick := fun (w : Bool) (o : Option Transfer) =>
    o.bind (fun t => (t.bursts.find? (·.stage = .writing)).map (fun b => (w, t, b)))
  match (pick true x.tracker).or (pick false x.active) with
  | none => s
  | some (tracked, t, b) =>
    let a := (b.out.map (·.1)).headD 0
    let off := t.outOff b
    if b.wz = 0 then
      match s.burstStore m tracked t b with
      | (none, u) => (u.writeDone m tracked b.num).run m
      | (some y, u) =>
        let now := (if tracked then (u.mover m).tracker else (u.mover m).active).bind (fun t => t.bursts.find? (·.num = b.num))
        match now with
        | some _ => ((u.endGrant m b).burstFails m tracked b (State.storeFails t b y)).run m
        | none => u
    else match res with
      | .ok => (((s.linkAnswers b.link).extWrite b.wz b.out).writeDone m tracked b.num).run m
      | .fail _ beat =>
        let x := max a (a / 64 * 64 + 64 * min beat ((a % 64 + b.out.length - 1) / 64))
        (s.burstFails m tracked b (failWith 7 0x21 b.wz 2 x (off + (x - a)))).run m

/-! ### Arbiters and the Tether -/

/-- Every mover tries again what it has to do by itself. -/
def State.runAll (s : State) : State := (s.movers.map (·.1)).foldl (fun t m => t.run m) s

/-- ARB_GRANT (R289): a segment that is free grants one of the requests presented; the burst that made it is issued. -/
def State.arbGrant (s : State) (g : Nat) : State :=
  let s := s.giveUpRow g
  if (tabGet none s.arb.holder g).isSome then s
  else match s.arbPick g with
    | none => s
    | some (r, p) =>
      let u := { s with arb := { s.arb with ptr := tabSet 71 s.arb.ptr (16 * g + p) r.req, presented := s.arb.presented.erase r
                                            holder := tabSet none s.arb.holder g (some r), heldAt := tabSet 0 s.arb.heldAt g s.clock } }
      let u := u.tetherGrant r.req r.lines
      if r.row then u.runAll
      else match (u.mover r.req).active.bind (fun t => t.bursts.find? (·.num = r.burst)) with
        | none => u
        | some b => (u.issueBurst r.req { b with stage := if r.write then .writing else .reading }).run r.req

/-- TETHER_RELEASE (R247): what a requester's Tether holds is judged again. -/
def State.tetherRelease (s : State) (n : Nat) : State :=
  if n < 64 then s.run n
  else if n ∈ s.arb.tethered ∧ s.tetherFits n 1 then
    ({ s with arb := { s.arb with tethered := s.arb.tethered.filter (· ≠ n) } }).runAll
  else s

/-- PCIE_COMPLETION_TIMEOUT (R248, R367): a read on a link has not completed in the time that its endpoint allows. -/
def State.readTimesOut (s : State) (m : Nat) : State :=
  match (s.mover m).active with
  | none => s
  | some t =>
    match t.bursts.find? (fun b => b.stage = .reading && readZone t b ≠ 0) with
    | none => s
    | some b =>
      let z := readZone t b
      if s.ctoPassed z b.issued then (s.burstFails m false b (failWith 3 0x20 z 1 ((s.burstReads t b).headD 0 / 64 * 64) (t.offOf b.lo))).run m
      else s

end Sys2Proof.Machine
end

