-- ==== Sys2Proof/Machine/Fnz.lean ====
section
/-! DEFINITION. Fenuz frames (R346 to R349): their header, how they are sent, and the time tree's choice of a parent (R350). -/

namespace Sys2Proof.Machine

/-! ### Frames -/

/-- The fields of a frame's header (R346). -/
structure Header where
  ver : Nat
  kind : Nat
  sub : Nat
  ttl : Nat
  len : Nat
  xid : Nat
  src : Nat
  dst : Nat
  fleet : Nat
  deriving DecidableEq, Repr

/-- The header of a frame's client data. -/
def headerOf (b : List Byte) : Header :=
  let w := bytesAt b 0 4
  ⟨w % 16, fieldOf 7 4 w, fieldOf 15 8 w, fieldOf 23 16 w, bytesAt b 4 2, bytesAt b 6 2, bytesAt b 8 4 % 2 ^ 18,
   bytesAt b 12 4 % 2 ^ 18, bytesAt b 16 8⟩

/-- The payload of a frame. -/
def frameBody (b : List Byte) : List Byte := (b.drop 24).take (headerOf b).len

/-- The client data of a frame (R346). -/
def frameBytes (kind sub ttl xid src dst fleet : Nat) (body : List Byte) : List Byte :=
  natLe 4 (1 + kind * 2 ^ 4 + sub * 2 ^ 8 + ttl * 2 ^ 16) ++ natLe 2 body.length ++ natLe 2 xid ++ natLe 4 src ++ natLe 4 dst
    ++ natLe 8 fleet ++ body

/-- The 48-bit Ethernet addresses of R346. -/
def unicastAddr (node : Nat) : Nat := 0x02444C000000 + node % 2 ^ 18
def announceAddr : Nat := 0x03444C000000

/-- A frame from its destination address to the end of its client data (R346): 48-bit addresses with the first byte sent first, and
the EtherType after them, untagged, as IEEE 802.3 sets them out. -/
def etherFrame (dst src : Nat) (b : List Byte) : List Byte :=
  (natLe 6 dst).reverse ++ (natLe 6 src).reverse ++ (natLe 2 0x88B5).reverse ++ b

/-- The payload lengths that a subtype allows (R348): a relayed message is of any length that its own header gives. An answer of
R355 that refuses a join carries two bytes in place of CHALLENGE or GRANT (log entry 60). -/
def lenFits (kind sub len : Nat) : Bool :=
  match kind, sub with
  | 1, 1 => len = 8
  | 1, 2 => len = 24
  | 1, 3 => len = 12
  | 2, 1 => len = 134
  | 2, 2 => len = 522 || len = 2
  | 2, 3 => len = 488
  | 2, 4 => len = 48 || len = 2
  | 2, 5 => len = 32
  | 2, 6 => len = 388
  | 3, 1 => 16 ≤ len && len ≤ 256
  | 3, 2 => 16 ≤ len && len ≤ 272
  | 4, 1 => len = 168
  | 4, 2 => len = 2
  | _, _ => false

/-- Whether the reserved bits of a payload are 0 (R348, R358), and a relayed message has the length that its header gives; the answer to a
stale one carries none. -/
def bodyGood (kind sub : Nat) (b : List Byte) : Bool :=
  match kind, sub with
  | 1, 2 => fieldOf 31 8 (bytesAt b 0x14 4) = 0
  | 1, 3 => fieldOf 23 18 (bytesAt b 0 4) = 0 && fieldOf 31 4 (bytesAt b 4 4) = 0
  | 3, 1 => b.length = 16 + bytesAt b 4 2
  | 3, 2 => fieldOf 31 8 (bytesAt b 0 4) = 0 && b.length = (if bytesAt b 0 1 = 1 then 16 else 32 + bytesAt b 0x14 2)
  | _, _ => true

/-- Whether a frame's own words are good (R347): FCS, VER, reserved bits, KIND, SUB and LEN. -/
def frameGood (f : Frame) : Bool :=
  let b := f.bytes
  let h := headerOf b
  f.fcsOk && 24 ≤ b.length && b.length ≤ 1500 && h.ver = 1 && bytesAt b 3 1 = 0 && bytesAt b 8 4 < 2 ^ 18 && bytesAt b 12 4 < 2 ^ 18
    && b.length = 24 + h.len && lenFits h.kind h.sub h.len && bodyGood h.kind h.sub (frameBody b)

/-- The part's own NODE on Fenuz: a joiner uses its new one from the first frame (R354). -/
def State.fnzNode (s : State) : Nat :=
  if s.vault.member then s.vault.node else match s.fenuz.join with | some j => j.node | none => 0

/-- Client data of the part's own leave a port. -/
def State.fnzOut (s : State) (p addr : Nat) (b : List Byte) : State := s.fnzPut p (etherFrame addr (unicastAddr s.fnzNode) b)

/-- A unicast frame is sent with TTL 16 (R349). -/
def State.fnzSend (s : State) (p kind sub xid dst : Nat) (body : List Byte) : State :=
  let fleet := if kind = 2 ∧ (sub = 1 ∨ sub = 2) then 0 else s.vault.fleetId
  s.fnzOut p (unicastAddr dst) (frameBytes kind sub 16 xid s.fnzNode dst fleet body)

/-- The port on which a request goes out: the lowest whose link is up (log entry 61). -/
def State.fnzPortUp (s : State) : Nat := if s.bit .fnzPort 0 0 then 0 else if s.bit .fnzPort 0 1 then 1 else 0

/-- An exchange identifier not used by the exchange before. -/
def State.newXid (s : State) : Nat × State :=
  let x := s.fenuz.nextXid
  (x, { s with fenuz := { s.fenuz with nextXid := (x + 1) % 2 ^ 16 } })

/-- Whether a range lies wholly in the data buffers region (R93). -/
def State.inData (s : State) (a n : Nat) : Bool := s.snima.layout.data ≤ a && a + n ≤ s.snima.layout.spareBase

/-! ### The time tree (R350) -/

/-- Ages of 375 ms, 125 ms and 62.5 ms. -/
def heardUs : Nat := 375000
def announceUs : Nat := 125000
def syncUs : Nat := 62500

/-- Whether a pair of PRIO and NODE is better than another. -/
def betterGm (p n q m : Nat) : Bool := p < q || (p = q && n < m)

/-- What was heard in the last 375 ms of grandmasters other than the part itself. -/
def State.heardNow (s : State) : List Heard :=
  s.fenuz.heard.filter (fun h => !usPassed h.at_ s.clock heardUs && h.gm ≠ s.vault.node)

/-- The best of the ANNOUNCEs heard: the best grandmaster, of its senders the lowest HOPS, then the lower NODE. -/
def bestHeard (l : List Heard) : Option Heard :=
  l.foldl (fun (m : Option Heard) h => match m with
    | none => some h
    | some x =>
      if betterGm h.prio h.gm x.prio x.gm then some h
      else if h.prio = x.prio && h.gm = x.gm && (h.hops < x.hops || (h.hops = x.hops && h.src < x.src)) then some h
      else some x) none

/-- FNZ_CFG.PRIO. -/
def State.fnzPrio (s : State) : Nat := s.fld .fnzCfg 15 8

/-- The parent becomes `p` (0 none, else the port plus 1) and `node`: a change discards the exchange in flight (R361). -/
def State.setParent (s : State) (p node : Nat) : State :=
  let q := s.fld .fnzStat 33 32
  if q = p ∧ s.fld .fnzStat 53 36 = node then s
  else
    let t := (s.setFld .fnzStat 33 32 p).setFld .fnzStat 53 36 node
    let t := if 0 < p then t.setBit .fnzPort 1 true (p - 1) else if 0 < q then t.setBit .fnzPort 1 true (q - 1) else t
    { t with fenuz := { t.fenuz with exch := none } }

/-- The part is grandmaster: HOPS 0, ALIGN 0, no parent (R350, R351). -/
def State.becomeGm (s : State) : State :=
  if s.bit .timeStat 8 then s
  else
    let t := ((s.setParent 0 0).setBit .timeStat 8 true).setFld .timeStat 19 16 0
    let t := (t.setFld .fnzGm 31 24 s.fnzPrio).setFld .fnzGm 17 0 s.vault.node
    t.setFld .timeUnc 63 32 0

/-- A part that follows the fleet's exchange has lost its source (R33). -/
def State.fleetLost (s : State) : State := if s.refSel = 2 then s.refLost else s

/-- The part chooses its parent among what it has heard (R350): where a better grandmaster than itself is heard it takes the best
sender as parent, unless its HOPS would exceed 14. -/
def State.chooseParent (s : State) : State :=
  match bestHeard s.heardNow with
  | none => if s.bit .timeStat 8 then s else ((s.setParent 0 0).setFld .timeStat 19 16 0xF).fleetLost
  | some h =>
    if s.fnzPrio ≠ 0xFF && betterGm s.fnzPrio s.vault.node h.prio h.gm then
      (if s.bit .timeStat 8 then s else ((s.setParent 0 0).setFld .timeStat 19 16 0xF).fleetLost)
    else
      let t := (s.setFld .fnzGm 31 24 h.prio).setFld .fnzGm 17 0 h.gm
      let t := t.setBit .timeStat 8 false
      if 14 ≤ h.hops then ((t.setParent 0 0).setFld .timeStat 19 16 0xF).fleetLost
      else (t.setParent (h.port + 1) h.src).setFld .timeStat 19 16 (h.hops + 1)

end Sys2Proof.Machine
end

