-- ==== Sys2Proof/Machine/Snima.lean ====
section
/-! DEFINITION. How Snima acts on a message (R79 to R88): the order of its checks, the objects that commands hold, answers and their
MAC, and what follows an answer. -/

namespace Sys2Proof.Machine

/-! ### Answers -/

/-- The response codes of R81. -/
def snOk : Nat := 0
def snBusy : Nat := 1
def snBadCmd : Nat := 2
def snBadLen : Nat := 3
def snBadField : Nat := 4
def snAuth : Nat := 5
def snDenied : Nat := 6
def snNoSpace : Nat := 7
def snNotFound : Nat := 8
def snState : Nat := 9
def snHwFault : Nat := 10
def snSigBad : Nat := 11

def ansOk (r : List Byte) : Answer := ⟨snOk, 0, r⟩
def ansErr (rc : Nat) : Answer := ⟨rc, 0, []⟩
def ansField (f : Nat) : Answer := ⟨snBadField, f, []⟩

/-- What a command comes to when Snima acts on it: an answer and what follows it, or it runs on until a Time, with a number of its
own. -/
inductive Turn where
  | answer (a : Answer) (after : AfterPost)
  | runs (deadline tag : Nat)
  deriving DecidableEq, Repr

def done (a : Answer) : Turn := .answer a .nothing
def doneOk (r : List Byte) : Turn := .answer (ansOk r) .nothing
def fails (rc : Nat) : Turn := .answer (ansErr rc) .nothing
def badField (f : Nat) : Turn := .answer (ansField f) .nothing

/-- The master ID and the requester through which Snima acts (R10, R287). The spec names no management core for an operation of Snima's; the
model takes MC0 for all of them (DESIGN CHOICE, log entry 100). -/
def mastMc : Nat := 0x68
def reqMc : Nat := 64

/-! ### Objects (R84) -/

/-- What a command may hold. -/
inductive Obj where
  | sq (n : Nat) | cq (n : Nat) | chan (n : Nat) | drive (n : Nat) | segment (n : Nat) | layout | session (n : Nat) | slot (n : Nat)
  | firmware | fleet
  deriving DecidableEq, Repr

/-- The objects that a request names, by its CMD and payload. -/
def objectsOf (cmd : Nat) (b : List Byte) : List Obj :=
  let w := bytesAt b 0 8
  if cmd = 0x0003 then [.slot (w % 16)]
  else if cmd = 0x0100 ∨ cmd = 0x0101 then [.layout]
  else if cmd = 0x0200 ∨ cmd = 0x0203 then [.cq (w % 2 ^ 16)]
  else if cmd = 0x0201 then
    [.sq (w % 2 ^ 16), .cq (fieldOf 47 32 w)] ++ (List.range (bytesAt b 0x12 1 % 128)).map (fun i => .chan (bytesAt b 0x10 2 % 4096 + i))
  else if cmd = 0x0202 then [.sq (w % 2 ^ 16)]
  else if cmd = 0x0204 then [if w.testBit 16 then .cq (w % 2 ^ 16) else .sq (w % 2 ^ 16)]
  else if 0x0300 ≤ cmd ∧ cmd ≤ 0x0307 then [.session (w % 2 ^ 20)]
  else if cmd = 0x0308 then [.slot 0]
  else if cmd = 0x0309 ∨ cmd = 0x030A then [.slot (w % 16)]
  else if 0x0500 ≤ cmd ∧ cmd ≤ 0x0504 then [.firmware]
  else if 0x0601 ≤ cmd ∧ cmd ≤ 0x0608 then [.fleet]
  else if 0x0700 ≤ cmd ∧ cmd ≤ 0x0702 then [.segment (w % 64)]
  else if 0x0801 ≤ cmd ∧ cmd ≤ 0x0803 then [.drive (w % 8)]
  else []

/-- A message's payload without its MAC (R65). -/
def bodyOf (c : Nat) (m : List Byte) : List Byte :=
  let p := msgPayload m
  if secure c then p.take (p.length - 32) else p

/-- Whether a command in progress on another channel holds one of some objects. -/
def State.held (s : State) (c : Nat) (l : List Obj) : Bool :=
  s.mbx.any (fun e => e.1 ≠ c && (match e.2.busy with
    | some p => (objectsOf (msgCmd p.msg) (bodyOf e.1 p.msg)).any (fun o => o ∈ l)
    | none => false))

/-- The first offending field of some, each with its payload offset. -/
def firstBad (l : List (Bool × Nat)) : Option Nat := (l.find? (·.1)).map (·.2)

/-- Checks 7 to 11 of R82, in their order: the first that fails answers. -/
def State.judge (s : State) (c cmd : Nat) (b : List Byte) (bad : Option Nat) (found state space : Bool) : Option Turn :=
  match bad with
  | some f => some (badField f)
  | none =>
    if !found then some (fails snNotFound)
    else if s.held c (objectsOf cmd b) then some (fails snBusy)
    else if !state then some (fails snState)
    else if !space then some (fails snNoSpace)
    else none

/-! ### Posting (R79, R83, R87, R88) -/

/-- A message built from its fields (R64). -/
def buildMsg (cmd seq flg c epoch : Nat) (payload : List Byte) : List Byte :=
  natLe 2 cmd ++ natLe 2 seq ++ natLe 2 payload.length ++ natLe 1 flg ++ natLe 1 c ++ natLe 4 epoch ++ natLe 4 0 ++ payload

/-- A message of Snima's with its MAC where the channel is secure: under the channel key, or zeros (R87). -/
def State.sealMsg (s : State) (c cmd seq flg : Nat) (mac : Bool) (payload : List Byte) : List Byte :=
  let ep := s.epoch c true
  if secure c then
    let m := buildMsg cmd seq flg c ep (payload ++ List.replicate 32 0)
    let body := m.take (m.length - 32)
    match (s.box c).key with
    | some k => if mac then body ++ Algo.hmac256 k.macKey body else m
    | none => m
  else buildMsg cmd seq flg c ep payload

/-- A message is put in the staging buffer of a FIFO. -/
def State.stage (s : State) (c : Nat) (m : List Byte) : State :=
  (List.range ((m.length + 7) / 8)).foldl (fun t j => t.setRg .mbxOutStg (bytesAt m (8 * j) 8) c j) s

/-- Snima posts a message on the outbound FIFO, as every sender does (R67). -/
def State.snimaPost (s : State) (c : Nat) (m : List Byte) : State := ((s.stage c m).post c true).2

/-- A response (R79, R81): as many results as a message holds. -/
def State.response (s : State) (c : Nat) (req : List Byte) (p : Posting) : List Byte :=
  let room := if secure c then 200 else 232
  s.sealMsg c (msgCmd req) (msgSeq req) 1 p.mac (natLe 2 p.answer.rc ++ natLe 2 p.answer.field ++ natLe 4 0 ++ p.answer.results.take room)

/-- A queue's create words go into its registers, and it exists with its enable bit clear (R129, R130). -/
def State.createQueue (s : State) (cmd : Nat) (b : List Byte) : State :=
  let q := bytesAt b 0 2 % 4096
  let w := fun i => bytesAt b (8 * i) 8
  if cmd = 0x0200 then
    let t := (((s.setRg .cqCfg (w 0) q).setRg .cqBase (w 1) q).setRg .cqTaddr (w 2) q).setRg .cqHaddr (w 3) q
    (t.setCq q { cq0 with exists_ := true }).cqLoad q
  else
    let t := ((((s.setRg .sqCfg (w 0) q).setRg .sqBase (w 1) q).setRg .sqChan (w 2) q).setRg .sqTaddr (w 3) q).setRg .sqHaddr (w 4) q
    (t.setSq q { sq0 with exists_ := true }).sqLoad q

/-- A queue ceases to exist (R129, R130). -/
def State.deleteQueue (s : State) (cmd : Nat) (b : List Byte) : State :=
  let q := bytesAt b 0 2 % 4096
  if cmd = 0x0203 then
    ((((s.setRg .cqCfg 0 q).setRg .cqBase 0 q).setRg .cqTaddr 0 q).setRg .cqHaddr 0 q).setCq q cq0
  else
    (((((s.setRg .sqCfg 0 q).setRg .sqBase 0 q).setRg .sqChan 0 q).setRg .sqTaddr 0 q).setRg .sqHaddr 0 q).setSq q sq0

/-- What follows an answer. -/
def State.follow (s : State) (c cmd : Nat) (b : List Byte) : AfterPost → State
  | .nothing => s
  | .restart => s.romStart false
  | .warmReset => s.warmReset 5
  | .createQueue => s.createQueue cmd b
  | .deleteQueue => s.deleteQueue cmd b
  | .dropKey => s.dropKey c
  | .start version svn meas => s.snimaStart version svn meas 3

/-- A channel's run of SN_AUTH responses goes on or ends (R88, R90): after 16 the key is discarded. -/
def State.countAuth (s : State) (c rc : Nat) : State :=
  let b := s.box c
  if rc = snAuth then
    let t := { s with snima := { s.snima with authCnt := satAdd 0xFFFFFFFF s.snima.authCnt 1 } }
    if 16 ≤ b.authRun + 1 then t.dropKey c else t.setBox c { b with authRun := b.authRun + 1 }
  else s.setBox c { b with authRun := 0 }

/-- The payload of an MBX_RSP (R358). -/
def State.relayReply (s : State) (c stale : Nat) (m : List Byte) : List Byte :=
  natLe 4 stale ++ natLe 4 (s.epoch c false) ++ natLe 4 (s.epoch c true) ++ natLe 4 0 ++ m

/-- A response goes out, by the outbound FIFO or in an MBX_RSP, and what follows it happens. -/
def State.sendAnswer (s : State) (c : Nat) (req : List Byte) (via : Option Via) (p : Posting) : State :=
  let m := s.response c req p
  let t := match via with
    | none => s.snimaPost c m
    | some v => s.fnzSend v.port 3 2 v.xid v.node (s.relayReply c 0 m)
  let t := t.setBox c { t.box c with busy := none, respWait := none }
  let t := t.countAuth c p.answer.rc
  let t := if p.drop then t.dropKey c else t
  t.follow c (msgCmd req) (bodyOf c req) p.after

/-- Snima answers a request: at once, or when the outbound FIFO has room (R83). -/
def State.answer (s : State) (c : Nat) (q : Pending) (p : Posting) : State :=
  if q.via.isNone ∧ 64 ≤ (s.box c).outFifo.length then s.setBox c { s.box c with busy := some q, respWait := some p }
  else s.sendAnswer c q.msg q.via p

/-! ### Acting on a message (R82 to R88) -/

/-- The next message of a channel, if its CMD is one of some: a relayed one whose turn it is, or the FIFO's oldest, which is popped. -/
def State.takeMsg (s : State) (c : Nat) (want : Nat → Bool) : Option (Pending × State) :=
  let b := s.box c
  if b.busy.isSome then none
  else match b.relayed, b.inFifo with
    | r :: rs, fifo =>
      if r.ahead = 0 then
        (if want (msgCmd r.bytes) then some (⟨r.bytes, some r.via, 0, 0⟩, s.setBox c { b with relayed := rs }) else none)
      else match fifo with
        | m :: _ => if want (msgCmd m.bytes) then some (⟨m.bytes, none, 0, 0⟩, s.popMsg c false) else none
        | [] => none
    | [], m :: _ => if want (msgCmd m.bytes) then some (⟨m.bytes, none, 0, 0⟩, s.popMsg c false) else none
    | [], [] => none

/-- A stale message (R85, R358): counted; a relayed one learns the epochs. -/
def State.staleMsg (s : State) (c : Nat) (q : Pending) : State :=
  let t := { s with snima := { s.snima with staleCnt := satAdd 0xFFFFFFFF s.snima.staleCnt 1 } }
  match q.via with
  | some v => t.fnzSend v.port 3 2 v.xid v.node (t.relayReply c 1 [])
  | none => t

/-- Whether a command is exempt from the MAC rule (R87). -/
def exempt (cmd : Nat) : Bool := cmd = 2 || cmd = 3

/-- Step 2 of R82: whether the MAC is good, whether SEQ is, and the state with the expected SEQ advanced; `drop` says that SEQ
0xFFFF was accepted. -/
def State.authentic (s : State) (c : Nat) (m : List Byte) : Bool × Bool × Bool × State :=
  match (s.box c).key with
  | none => (false, false, false, s)
  | some k =>
    let n := 16 + msgLen m - 32
    if (m.drop n).take 32 ≠ Algo.hmac256 k.macKey (m.take n) then (false, false, false, s)
    else if msgSeq m ≠ k.expected then (true, false, false, s)
    else (true, true, decide (msgSeq m = 0xFFFF), s.setBox c { s.box c with key := some { k with expected := (k.expected + 1) % 2 ^ 16 } })

/-- The state of the check order after steps 2 to 6: an answer, or the command may be judged further. -/
inductive Gate where
  | shut (rc field : Nat) (mac drop : Bool)
  | pass (drop : Bool)
  deriving DecidableEq, Repr

/-- Steps 2 to 6 of R82. `cls` is 0 for class A, 1 for class S, 2 for a class A command of secure channels only; `known` says that
CMD is defined. -/
def State.gate (s : State) (c cls : Nat) (known : Bool) (lenOk : List Byte → Bool) (m : List Byte) : Gate × State :=
  let cmd := msgCmd m
  let (macOk, seqOk, drop, t) :=
    if secure c && !exempt cmd then s.authentic c m else (true, true, false, s)
  if !(macOk && seqOk) then (.shut snAuth 0 macOk false, t)
  else if !known then (.shut snBadCmd 0 true drop, t)
  else if cls ≠ 0 && !secure c then (.shut snDenied 0 true drop, t)
  else if msgFlg m ≠ 0 then (.shut snBadField 0xFFFF true drop, t)
  else if (secure c && msgLen m < 32) || !lenOk (bodyOf c m) then (.shut snBadLen 0 true drop, t)
  else (.pass drop, t)

/-- What a command does when Snima acts on it: from the channel, the payload, and for a command that runs on what is pending. -/
abbrev Handler := Nat → List Byte → Option Pending → State → Turn × State

/-- A turn's answer goes out, or the command runs on. -/
def State.endTurn (s : State) (c : Nat) (q : Pending) (mac drop : Bool) : Turn → State
  | .answer a after => s.answer c q ⟨a, mac, drop, after⟩
  | .runs deadline tag => s.setBox c { s.box c with busy := some { q with deadline := deadline, tag := tag } }

/-- Whether SEQ of a request is the last one that a key allows (R88). -/
def lastSeq (c : Nat) (m : List Byte) : Bool := secure c && !exempt (msgCmd m) && msgSeq m = 0xFFFF

/-- In WAIT_MBX the ROM answers every message on channel 0 that is not BOOT_STAGED with SN_STATE (R106). -/
def State.romAnswers (s : State) (c : Nat) (want : Nat → Bool) : State :=
  if c = 0 ∧ s.fld .gctlBoot 2 0 = 3 ∧ ¬ s.locked then
    match s.takeMsg c (fun n => want n && n ≠ 0x05FF) with
    | none => s
    | some (q, t) => if msgEpoch q.msg ≠ t.epoch c false then t.staleMsg c q else t.answer c q ⟨ansErr snState, true, false, .nothing⟩
  else s

/-- OPER_OPEN consumes the nonce, whether or not it succeeds (R89). -/
def State.nonceSpent (s : State) (c cmd : Nat) : State :=
  if cmd = 3 then s.setBox c { s.box c with nonce := none } else s

/-- Whether a command draws from the DRBG. -/
def drawsRandom (cmd : Nat) : Bool :=
  decide (cmd ∈ [0x0002, 0x0003, 0x0300, 0x0301, 0x0303, 0x0304, 0x0306, 0x0307, 0x0400, 0x0601, 0x0603])

/-- A command that Snima knows: it begins to act on the channel's next message, if that carries the command, or goes on with the one
it acts on (R82, R83). What draws from the DRBG waits while a known-answer test has it out of rotation (R103). -/
def State.snimaAct (s : State) (c cmd cls : Nat) (lenOk : List Byte → Bool) (h : Handler) : State :=
  if s.snimaUp && drawsRandom cmd && s.snima.kats.any (·.1 = 3) then s
  else if s.snimaUp then
    match (s.box c).busy with
    | some q =>
      if msgCmd q.msg = cmd ∧ (s.box c).respWait = none then
        let (turn, t) := h c (bodyOf c q.msg) (some q) s
        t.endTurn c q true (lastSeq c q.msg) turn
      else s
    | none =>
      match s.takeMsg c (· = cmd) with
      | none => s
      | some (q, t) =>
        if msgEpoch q.msg ≠ t.epoch c false then t.staleMsg c q
        else match t.gate c cls true lenOk q.msg with
          | (.shut rc field mac drop, t) => (t.nonceSpent c cmd).answer c q ⟨⟨rc, field, []⟩, mac, drop, .nothing⟩
          | (.pass drop, t) =>
            let (turn, t) := h c (bodyOf c q.msg) none t
            (t.nonceSpent c cmd).endTurn c q true drop turn
  else s.romAnswers c (· = cmd)

/-- The answer to a command that has run on. -/
def State.finish (s : State) (c : Nat) (a : Answer) : State :=
  match (s.box c).busy with
  | some q => if (s.box c).respWait = none then s.answer c q ⟨a, true, lastSeq c q.msg, .nothing⟩ else s
  | none => s

/-- The CMD of the command that runs on a channel. -/
def State.running (s : State) (c : Nat) : Option Nat :=
  let b := s.box c
  if b.respWait.isSome then none else b.busy.map (fun q => msgCmd q.msg)

/-- A payload of exactly `n` bytes. -/
def lenIs (n : Nat) (b : List Byte) : Bool := b.length = n

/-! ### Snima's own accesses -/

/-- A read of the Central Store by MC0: none where it uses an uncorrectable word (R281). -/
def State.mcRead (s : State) (a n : Nat) : Option (List Byte) × State :=
  match s.masterRead reqMc a n reqMc with
    | (_, some _, t) => (none, t)
    | (d, none, t) => (some d, t)

/-- A write of the Central Store by MC0 (R11: complete before the response). -/
def State.mcWrite (s : State) (a : Nat) (d : List Byte) : State := s.otherWrite mastMc reqMc a d

/-- Whether a word of the vault that a command needs is uncorrectable (R413). -/
def State.vaultBad (s : State) (l : List Nat) : Bool := l.any (fun w => w ∈ s.vault.badWords)

/-- The words of DIK, of an operator slot, of the arming word and of the certificate (log entry 8). -/
def dikWords : List Nat := (List.range 9).map (vaultKeys + ·)
def slotWords (k : Nat) : List Nat := (List.range 9).map (vaultSlots + 9 * k + ·)
def armWords : List Nat := [vaultSlots + 144]
def certWords : List Nat := (List.range 256).map (0x200 + ·)

/-- DIK (R108). -/
def dik : List Byte := Config.install "DIK" 0 66
def dikPoint : List Byte := Algo.publicPoint dik

/-- A signature by DIK over bytes, with a secret of engine 0 (R271; log entry 62). -/
def State.dikSign (s : State) (m : List Byte) : List Byte × State :=
  s.signIn 2 dik (Algo.hash 3 m) 128

/-- The operator slots as bytes (R124). -/
def State.slotTable (s : State) : List Byte :=
  (List.range 16).flatMap (fun k => match tabGet none s.vault.slots k with
    | some p => (1 : Byte) :: fitBytes 67 p
    | none => List.replicate 68 0)

/-- The bitmap of the enrolled slots. -/
def State.slotMap (s : State) : Nat := ((List.range 16).map (fun k => b2n (tabGet none s.vault.slots k).isSome * 2 ^ k)).sum

/-- The LAYOUT_SET word of a layout (R93). -/
def Layout.word (l : Layout) : Nat :=
  l.sessLog2 + l.logLog2 * 2 ^ 8 + l.patCnt * 2 ^ 16 + l.balCq * 2 ^ 32 + l.spare * 2 ^ 48

/-- CFG_DIG (R124). -/
def State.cfgDigest (s : State) : List Byte :=
  Algo.hash 3 (natLe 8 s.snima.layout.word ++ s.slotTable ++ natLe 8 s.vault.bootRecord ++ natLe 8 s.vault.fleetId)

/-- An attestation report over a nonce (R123), signed by DIK. -/
def State.report (s : State) (nonce : List Byte) : List Byte × State :=
  let (x, t) := s.stamp mastMc 0
  let v := s.vault
  let b := natLe 4 0x52545441 ++ natLe 4 1 ++ natLe 8 devWord ++ natLe 4 v.node ++ natLe 4 0 ++ natLe 4 s.snima.version
    ++ natLe 4 s.snima.svn ++ fitBytes 64 s.snima.meas ++ s.cfgDigest ++ fitBytes 32 nonce ++ x.bytes
    ++ natLe 4 (s.fld .gctlBoot 11 8 + b2n v.tampered * 2 ^ 8 + b2n v.member * 2 ^ 9) ++ natLe 4 s.slotMap ++ natLe 4 (minSvn v.bootRecord)
    ++ natLe 4 0
  let (sig, t) := t.dikSign b
  (b ++ sig, t)

/-- Whether what a report or a signature by DIK needs is at hand. -/
def State.signReady (s : State) : Bool := s.drbgReady 2 && !s.vaultBad dikWords

/-- A range of places of the store is zeroed, with sound words (R94, R102). -/
def State.zeroPlaces (s : State) (inside : Nat → Bool) : State :=
  { s with store := { s.store with mem := s.store.mem.filter (fun e => !inside e.1)
                                   words := s.store.words.filter (fun e => !inside (8 * e.1)) } }

/-- Whether a place of the store serves an address from `a` to `a + n - 1`. -/
def State.serves (s : State) (a n p : Nat) : Bool :=
  let at_ := fun (x : Nat) => decide (a ≤ x ∧ x < a + n)
  (at_ p && s.store.remap.all (fun e => e.2 ≠ some (p / 4096)))
    || s.store.remap.any (fun e => sparePage e.1 = p / 4096 && (match e.2 with | some q => at_ (q * 4096 + p % 4096) | none => false))

end Sys2Proof.Machine
end

