-- ==== Sys2Proof/Machine/FleetRows.lean ====
section
/-! DEFINITION. Snima's fleet and time group (R354, R358 to R360). -/

namespace Sys2Proof.Machine

/-- FLEET_STATUS, of a vault whose words of the fleet can be read (R413). -/
def fleetStatusTurn : Handler := fun _ _ _ s =>
  let v := s.vault
  if s.vaultBad fleetWords then (fails snHwFault, s)
  else (doneOk (natLe 4 (v.node % 2 ^ 18 + b2n v.member * 2 ^ 18 + b2n (s.bit .timeStat 8) * 2 ^ 19 + s.fld .timeStat 19 16 * 2 ^ 20)
    ++ natLe 4 (s.fld .fnzGm 17 0) ++ natLe 8 v.fleetId ++ natLe 4 s.alignNow ++ natLe 4 s.unc), s)

/-- NODE and PRIO of a request, and whether the word holds nothing else. -/
def reqNode (b : List Byte) : Nat := bytesAt b 0 4 % 2 ^ 18
def reqPrio (b : List Byte) : Nat := bytesAt b 3 1
def nodePrioBad (b : List Byte) : Bool := fieldOf 23 18 (bytesAt b 0 4) ≠ 0

/-- FRK, FLEET_ID, NODE and membership are stored; what the part had heard before is of no fleet of its own. -/
def State.enterFleet (s : State) (node prio fleet : Nat) (frk : List Byte) : State :=
  let t := { s with vault := { s.vault with frk := some frk, fleetId := fleet, node := node, member := true }
                    fenuz := { s.fenuz with heard := [], gms := [], childs := [], exch := none, falignSeen := false } }
  t.setFld .fnzCfg 15 8 prio

/-- FLEET_CREATE. -/
def fleetCreateTurn : Handler := fun c b _ s =>
  let bad := firstBad [(nodePrioBad b || bytesAt b 4 4 ≠ 0, 0)]
  match s.judge c 0x0601 b bad true (!s.vault.member) true with
  | some t => (t, s)
  | none =>
    if !s.drbgReady 0 then (fails snHwFault, s)
    else
      let (frk, t) := s.draw 0 32
      let (f, t) := t.draw 0 8
      match t.vaultWrites fleetWords with
      | none => (fails snHwFault, t)
      | some t =>
        let t := t.enterFleet (reqNode b) (reqPrio b) (leNat f) frk
        (doneOk f, { t with time := { t.time with stampNode := reqNode b } })

/-- FLEET_ADMIT. -/
def fleetAdmitTurn : Handler := fun c b _ s =>
  let bad := firstBad [(nodePrioBad b || bytesAt b 4 4 ≠ 0, 0)]
  match s.judge c 0x0602 b bad true s.vault.member (decide (s.fenuz.admissions.length < 16)) with
  | some t => (t, s)
  | none =>
    let a : Admission := ⟨reqNode b, (b.drop 8).take 64, s.clock + 60 * second⟩
    (doneOk [], { s with fenuz := { s.fenuz with admissions := s.fenuz.admissions ++ [a] } })

/-- FLEET_JOIN: HELLO goes to the sponsor. -/
def fleetJoinTurn : Handler := fun c b p s =>
  match p with
  | some q => (.runs q.deadline q.tag, s)
  | none =>
    let sponsor := bytesAt b 4 4
    let bad := firstBad [(nodePrioBad b, 0), (2 ^ 18 ≤ sponsor, 4)]
    match s.judge c 0x0603 b bad true (!s.vault.member) true with
    | some t => (t, s)
    | none =>
      if !s.drbgReady 0 || s.vaultBad dikWords then (fails snHwFault, s)
      else
        let (e, t) := s.drawScalar 0
        let (xid, t) := t.newXid
        let port := t.fnzPortUp
        let j : Join := ⟨c, sponsor, reqNode b, reqPrio b, (b.drop 8).take 64, e, [], [], [], [], xid, port, 1, t.clock⟩
        let t := { t with fenuz := { t.fenuz with join := some j } }
        (.runs (t.clock + 2 * second) xid, t.fnzSend port 2 1 xid sponsor (dikPoint ++ Algo.publicPoint e))

/-- FLEET_LEAVE. -/
def fleetLeaveTurn : Handler := fun c b _ s =>
  match s.judge c 0x0604 b none true s.vault.member true with
  | some t => (t, s)
  | none => match s.vaultWrites fleetWords with
    | none => (fails snHwFault, s)
    | some t => (doneOk [], t.endMembership)

/-- TIME_SET. -/
def timeSetTurn : Handler := fun c b _ s =>
  let v := bytesAt b 0 8 + bytesAt b 8 2 * 2 ^ 64
  let bad := firstBad [(decide (v < s.time.now), 0), (bytesAt b 10 6 ≠ 0, 8)]
  match s.judge c 0x0605 b bad true (s.bit .timeStat 8 || !s.vault.member) true with
  | some t => (t, s)
  | none =>
    let t := s.timeStep 0 v
    (doneOk [], { t with time := { t.time with epochSet := true } })

/-! ### Relays (R358, R359) -/

/-- A relay request goes out and waits for its reply. -/
def State.relayOut (s : State) (c kind sub node addr : Nat) (k : RelayKind) (body : List Byte) : Turn × State :=
  let (xid, t) := s.newXid
  let port := t.fnzPortUp
  let r : Relay := ⟨xid, node, k, c, addr, t.clock, false⟩
  let t := { t with fenuz := { t.fenuz with relays := t.fenuz.relays.filter (fun (x : Relay) => x.xid ≠ xid) ++ [r] } }
  (.runs (t.clock + second) xid, t.fnzSend port kind sub xid node body)

/-- The embedded message of MBX_RELAY, and whether LEN is that of its header. -/
def embedded (b : List Byte) : List Byte := b.drop 8
def relayLen (b : List Byte) : Bool := 24 ≤ b.length && b.length = 24 + msgLen (embedded b)

/-- MBX_RELAY. -/
def mbxRelayTurn : Handler := fun c b p s =>
  match p with
  | some q => (.runs q.deadline q.tag, s)
  | none =>
    let w := bytesAt b 0 8
    let bad := firstBad [(fieldOf 22 18 w ≠ 0 || 2 ^ 28 ≤ w, 0), (msgChn (embedded b) ≠ fieldOf 27 23 w, 8)]
    match s.judge c 0x0606 b bad true s.vault.member true with
    | some t => (t, s)
    | none => s.relayOut c 3 1 (w % 2 ^ 18) 0 .mbox (embedded b)

/-- FLEET_ATTEST. -/
def fleetAttestTurn : Handler := fun c b p s =>
  match p with
  | some q => (.runs q.deadline q.tag, s)
  | none =>
    let a := bytesAt b 8 8
    let bad := firstBad [(2 ^ 18 ≤ bytesAt b 0 8, 0), (a % 64 ≠ 0 || !s.inData a 356, 8)]
    match s.judge c 0x0607 b bad true s.vault.member true with
    | some t => (t, s)
    | none => s.relayOut c 2 5 (reqNode b) a .attest ((b.drop 0x10).take 32)

/-- REC_SEND: the record is read by the port that sends it, through requester 71. -/
def recSendTurn : Handler := fun c b p s =>
  match p with
  | some q => (.runs q.deadline q.tag, s)
  | none =>
    let a := bytesAt b 8 8
    let bad := firstBad [(2 ^ 18 ≤ bytesAt b 0 8, 0), (!inStore a 160, 8)]
    match s.judge c 0x0608 b bad true s.vault.member true with
    | some t => (t, s)
    | none =>
      let port := s.fnzPortUp
      match s.otherRead (0x78 + port) 71 a 160 with
      | (_, true, t) => (fails snHwFault, t.fault (0x78 + port) 0x11 port (reqNode b + 2 ^ 18) a)
      | (d, false, t) => t.relayOut c 4 1 (reqNode b) a .record ((b.drop 0x10).take 8 ++ d)

/-! ### The rows -/

/-- FLEET_STATUS (R360). -/
def execFleetStatus (c : Fin 32) (s : State) : Result := live s (·.snimaAct c 0x0600 0 (lenIs 0) fleetStatusTurn)
/-- FLEET_CREATE (R354, R360). -/
def execFleetCreate (c : Fin 32) (s : State) : Result := live s (·.snimaAct c 0x0601 1 (lenIs 8) fleetCreateTurn)
/-- FLEET_ADMIT (R354, R360). -/
def execFleetAdmit (c : Fin 32) (s : State) : Result := live s (·.snimaAct c 0x0602 1 (lenIs 72) fleetAdmitTurn)
/-- FLEET_JOIN (R354, R360). -/
def execFleetJoin (c : Fin 32) (s : State) : Result := live s (·.snimaAct c 0x0603 1 (lenIs 72) fleetJoinTurn)
/-- FLEET_LEAVE (R357, R360). -/
def execFleetLeave (c : Fin 32) (s : State) : Result := live s (·.snimaAct c 0x0604 1 (lenIs 0) fleetLeaveTurn)
/-- TIME_SET (R20, R29, R360). -/
def execTimeSet (c : Fin 32) (s : State) : Result := live s (·.snimaAct c 0x0605 1 (lenIs 16) timeSetTurn)
/-- MBX_RELAY (R358). -/
def execMbxRelay (c : Fin 32) (s : State) : Result := live s (·.snimaAct c 0x0606 0 relayLen mbxRelayTurn)
/-- FLEET_ATTEST (R359, R360). -/
def execFleetAttest (c : Fin 32) (s : State) : Result := live s (·.snimaAct c 0x0607 0 (lenIs 48) fleetAttestTurn)
/-- REC_SEND (R359, R360). -/
def execRecSend (c : Fin 32) (s : State) : Result := liveM s (·.snimaAct c 0x0608 1 (lenIs 24) recSendTurn)

end Sys2Proof.Machine
end

