-- ==== Sys2Proof/Machine/QueueRows.lean ====
section
/-! DEFINITION. What the queue engine does (R129 to R159): grants of window reads, acceptance of entries and their checks, the index
words, dispatch, and completion entries in rings and in Ballast. -/

namespace Sys2Proof.Machine

/-! ### Rings -/

/-- The requester number and the master ID of the queue engine (R10, R287). -/
def reqQueue : Nat := 69
def mastQueue : Nat := 0x60

/-- A write of the queue engine into a ring or an index word; one that fails is not reported (R158). -/
def State.ringWrite (s : State) (z a : Nat) (d : List Byte) : State :=
  let a := a % 2 ^ 64
  if z = 0 then s.otherWrite mastQueue reqQueue a d
  else match s.linkCause z a with
    | none => s.extWrite z (atAddr a d)
    | some _ => s

/-- A read of the queue engine in zone 0 (R56, R102, R281): the bytes, or the CAUSE with which it failed. -/
def State.ringRead (s : State) (a n : Nat) : Except Nat (List Byte) × State :=
  match s.otherRead mastQueue reqQueue a n with
    | (_, true, t) => (.error 6, t)
    | (d, false, t) => (.ok d, t)

/-- The slots of a window in the Central Store; those outside it read all-ones (R56). -/
def State.storeSlots (s : State) (a : Nat) : Nat → Except Nat (List Byte) × State
  | 0 => (.ok [], s)
  | n + 1 =>
    let b := a % 2 ^ 64
    match (if inStore b 64 then s.ringRead b 64 else (.ok (ones 64), s)) with
    | (.error e, t) => (.error e, t)
    | (.ok d, t) => match t.storeSlots (a + 64) n with
      | (.ok r, t) => (.ok (d ++ r), t)
      | (.error e, t) => (.error e, t)

/-- The slots of a window, which is one read: with a slot that does not lie in the Central Store it writes one UNMAPPED record (R56,
R140). -/
def State.ringSlots (s : State) (a n : Nat) : Except Nat (List Byte) × State :=
  let t := match (List.range n).find? (fun i => !inStore ((a + 64 * i) % 2 ^ 64) 64) with
    | some i => s.unmapped mastQueue ((a + 64 * i) % 2 ^ 64) false
    | none => s
  t.storeSlots a n

/-! ### Grants (R140 to R143) -/

/-- Entry-buffer slots an SQ uses: START entries that wait, and those that a window in flight may bring. -/
def Sq.usage (x : Sq) : Nat := x.heldCount + ((x.window.map (·.slots)).getD 0)

/-- Entry-buffer slots that an SQ may use: its own one, and what is left of the 4,096 shared ones. -/
def State.bufferRoom (s : State) (q : Nat) : Nat :=
  let x := s.sq q
  let shared := (s.sqs.map (fun e => e.2.usage - 1)).sum
  (if x.usage = 0 then 1 else 0) + (4096 - shared)

/-- BURST, WEIGHT and PREFETCH as they act. -/
def State.sqPrefetch (s : State) (q : Nat) : Nat :=
  let v := s.fld .sqChan 29 24 q
  if v = 0 then 8 else v

/-- URGENT (R142). -/
def State.sqUrgent (s : State) (q : Nat) : Bool := s.bit .sqCfg 29 q

/-- The slots of a window from HEAD, CREDIT left out (R141). -/
def State.windowSlots (s : State) (q : Nat) : Nat :=
  let x := s.sq q
  let cfg := s.rg .sqCfg q
  let n := qSlots cfg
  let ahead := if indexMode cfg then (x.tail + n - x.head) % n else s.sqPrefetch q
  min (min (fieldOf 63 56 cfg) ahead) (min (n - x.head) (min (64 - x.heldCount) (s.bufferRoom q)))

/-- Whether an SQ is eligible for a grant (R140). -/
def State.sqEligible (s : State) (q : Nat) : Bool :=
  let x := s.sq q
  x.exists_ && x.en && x.window.isNone && !(s.heldOf q).any (fun e => e.1 = .engine)
    && decide (x.heldCount < 64) && decide (0 < s.bufferRoom q)
    && (if indexMode (s.rg .sqCfg q) then x.tail ≠ x.head else x.wake) && decide (0 < s.windowSlots q)

/-- The next of some SQs in ascending rotation from the one last granted. -/
def nextAfter (last : Nat) (l : List Nat) : Option Nat :=
  match l.find? (fun q => last < q) with
  | some q => some q
  | none => l.head?

/-- A new round: CREDIT of every weighted SQ becomes its WEIGHT (R143). -/
def State.newRound (s : State) : State :=
  (s.sqs.filter (fun e => e.2.exists_ && !s.sqUrgent e.1)).foldl (fun t e =>
    t.setSq e.1 { t.sq e.1 with credit := t.fld .sqCfg 55 48 e.1 }) s

/-- A window read is issued under the registers as they stand (R130, R141); on a link that cannot carry it, it fails at once. -/
def State.issueWindow (s : State) (q w : Nat) : State :=
  let s := s.sqLoad q
  let t := s.setSq q { s.sq q with window := some ⟨w, false, false, s.clock, s.linkOf (ringZone (s.sq q).conf.cfg) (s.windowAddr q)⟩ }
  match ringZone (s.sq q).conf.cfg with
  | 0 => t
  | z => match t.linkCause z (t.windowAddr q) with
    | some cause => t.ringFail q .window cause
    | none => t

/-- FETCH_GRANT (R140 to R143): an urgent SQ before any weighted one; a new round where no eligible weighted SQ has CREDIT. -/
def State.fetchGrant (s : State) : State :=
  if !s.fetch.accepting || 256 ≤ (s.sqs.filter (fun e => e.2.window.isSome)).length then s
  else
    let l := (s.sqs.map (·.1)).filter s.sqEligible
    match nextAfter s.fetch.lastUrgent (l.filter s.sqUrgent) with
    | some q => ({ s with fetch := { s.fetch with lastUrgent := q } }).issueWindow q (s.windowSlots q)
    | none =>
      if l = [] then s
      else
        let t := if l.any (fun q => 0 < (s.sq q).credit) then s else s.newRound
        match nextAfter t.fetch.lastWeighted (l.filter (fun q => 0 < (t.sq q).credit)) with
        | none => t
        | some q => ({ t with fetch := { t.fetch with lastWeighted := q } }).issueWindow q (min (t.sq q).credit (t.windowSlots q))

/-! ### Entries (R131, R134, R144, R147, R148) -/

/-- The fields of an entry. -/
def sqeOp (b : List Byte) : Nat := fieldOf 15 8 (bytesAt b 0 8)
def sqePhase (b : List Byte) : Bool := (bytesAt b 0 8).testBit 0
def sqeZone (b : List Byte) : Nat := fieldOf 3 0 (bytesAt b 0x10 8)
def sqeSess (b : List Byte) : Nat := fieldOf 23 4 (bytesAt b 0x10 8)

/-- The lowest-numbered condition of R147 that an entry meets. -/
def State.malformed (s : State) (q : Nat) (b : List Byte) : Option Nat :=
  let w0 := bytesAt b 0 8
  let w2 := bytesAt b 0x10 8
  let start : Bool := sqeOp b = 1
  let reserved := fieldOf 7 1 w0 ≠ 0 || fieldOf 63 17 w0 ≠ 0 || fieldOf 63 24 w2 ≠ 0 || bytesAt b 0x28 24 ≠ 0
    || (!start && (bytesAt b 8 8 ≠ 0 || fieldOf 23 0 w2 ≠ 0))
  if reserved then some 1
  else if sqeOp b = 0 ∨ 4 < sqeOp b then some 2
  else if start && bytesAt b 8 8 % 64 ≠ 0 then some 3
  else if start && !(zoneOk (sqeZone b) && (s.sq q).conf.chan.testBit (32 + sqeZone b)) then some 4
  else if start && 2 ^ s.snima.layout.sessLog2 ≤ sqeSess b then some 5
  else if !start && bytesAt b 0x20 8 ≠ 0 then some 6
  else none

/-- A malformed entry: its record, and Lockdown (R148, R340). -/
def State.sqeMalformed (s : State) (q cond : Nat) (b : List Byte) : State :=
  let slot := (s.sq q).head
  let t := s.fault mastQueue 0x02 q (slot + cond * 2 ^ 16) (bytesAt b 0 8)
  ({ t with fetch := { t.fetch with accepting := false } }).lockdown mastQueue 1 (slot + q * 2 ^ 16 + cond * 2 ^ 28)

/-- Entries of the open batch. -/
def openBatch (l : List OpenEntry) : Nat := (l.reverse.takeWhile (fun e => !e.batchEnd)).length

/-- HEAD after one more entry, with its phase, which inverts on a wrap in index mode too (R134, R137; DESIGN CHOICE for index mode, log
entry 119). -/
def headAfter (n head : Nat) (ph : Bool) : Nat × Bool := if head + 1 < n then (head + 1, ph) else (0, !ph)

/-- An entry is accepted: stamped RING_FETCH, counted, and its action comes (R26, R132, R143, R152). -/
def State.acceptEntry (s : State) (q : Nat) (b : List Byte) : State :=
  let x := s.sq q
  let tag := BitVec.ofNat 64 (bytesAt b 0x18 8)
  let (st, t) := s.stamp mastQueue (x.cause + 1)
  let t := t.logClass 0 ⟨st, 0x01, sqeOp b, q, x.head, bytesAt b 0x18 8⟩
  let h : HeldEntry := ⟨x.nextNum, sqeOp b, BitVec.ofNat 64 (bytesAt b 8 8), sqeSess b, sqeZone b, tag,
    BitVec.ofNat 64 (bytesAt b 0x20 8), st.time⟩
  let e : OpenEntry := ⟨x.nextNum, tag, none, (bytesAt b 0 8).testBit 16 || 65535 ≤ openBatch x.opens + 1, st.time⟩
  let (head, ph) := headAfter (qSlots x.conf.cfg) x.head x.headPh
  t.setSq q { x with head := head, headPh := ph, nextNum := x.nextNum + 1, acts := x.acts ++ [h], opens := x.opens ++ [e]
                     credit := if x.conf.cfg.testBit 29 then x.credit else x.credit - 1 }

/-- Entries are accepted up to the first whose phase does not match, or a malformed one. Answers whether every one was
accepted, and whether a malformed one was found. -/
def State.acceptAll (s : State) (q : Nat) : List (List Byte) → Bool × Bool × State
  | [] => (true, false, s)
  | b :: r =>
    if !indexMode (s.sq q).conf.cfg && sqePhase b ≠ (s.sq q).headPh then (false, false, s)
    else match s.malformed q b with
      | some c => (false, true, s.sqeMalformed q c b)
      | none => (s.acceptEntry q b).acceptAll q r

/-- Bytes cut into slots of 64. -/
def cutSlots (d : List Byte) (n : Nat) : List (List Byte) := (List.range n).map (fun i => (d.drop (i * 64)).take 64)

/-- In index mode HEAD goes to HEAD_ADDR after acceptance (R137). -/
def State.writeHead (s : State) (q : Nat) : State :=
  let x := s.sq q
  if indexMode x.conf.cfg then s.ringWrite (ringZone x.conf.cfg) x.conf.haddr (natLe 8 x.head) else s

/-- The data of a window are there (R144, R145, R148). -/
def State.windowData (s : State) (q slots : Nat) (d : List Byte) : State :=
  let head := (s.sq q).head
  let done := fun (t u : State) => if (t.sq q).head ≠ head then u.writeHead q else u
  match s.acceptAll q (cutSlots d slots) with
  | (true, _, t) => (t.setSq q { t.sq q with window := none, wake := true }).writeHead q
  | (false, true, t) => done t (t.setSq q { t.sq q with window := none })
  | (false, false, t) => done t (t.windowMismatch q)

/-- Whether a ring read's data can be there: the read has gone out (R368). -/
def State.ringHere (s : State) (r : Nat × Option Nat) : Bool :=
  match r.2 with
  | some k => !s.linkUp k || s.ringOut r.1 r.2
  | none => true

/-- The data of a window's read: in zone 0 the slots are read here. -/
def State.windowBytes (s : State) (q : Nat) (w : Window) (data : List Byte) : Except Nat (List Byte) × State :=
  if ringZone (s.sq q).conf.cfg = 0 then s.ringSlots (s.windowAddr q) w.slots else (.ok (fitBytes (64 * w.slots) data), s)

/-- WINDOW_DATA_RETURN (R144, R156, R158): in zone 0 the slots are read here. -/
def State.windowReturns (s : State) (q : Nat) (data : List Byte) : State :=
  let x := s.sq q
  match x.window with
  | none => s
  | some w =>
    if !s.ringHere (w.issued, w.link) then s
    else match s.windowBytes q w data with
    | (.error cause, t) => t.ringFail q .window cause
    | (.ok d, t) =>
      if w.dropped || !x.en || !t.fetch.accepting then t.setSq q { t.sq q with window := none }
      else t.windowData q w.slots d

/-- A window whose data come in the very handshake in which another cause of Lockdown was met (R345): no entry is accepted,
but where the first that would be is malformed too, it has its record and counts as a cause (log entry 92). -/
def State.windowMeets (s : State) (q : Nat) (data : List Byte) : State :=
  let x := s.sq q
  let late := (s.time.now % 2 ^ 64 + 2 ^ 64 - s.rg .gctlLockTime) % 2 ^ 64
  match x.window with
  | none => s
  | some w =>
    if s.fld .gctlLock 1 0 ≠ 1 ∨ (0 < late ∧ late < 2 ^ 63) ∨ w.dropped ∨ x.en = false ∨ ¬ s.ringHere (w.issued, w.link) then s
    else match s.windowBytes q w data with
      | (.error _, t) => t
      | (.ok d, t) =>
        let b := d.take 64
        match (if indexMode x.conf.cfg || sqePhase b == x.headPh then t.malformed q b else none) with
        | some c => ({ t with sqs := tabSet sq0 t.sqs q { x with window := none } }).sqeMalformed q c b
        | none => t

/-! ### Index words (R137, R139) -/

/-- An index word: from zone 0 read here, from a link as it comes. -/
def State.indexWord (s : State) (z a : Nat) (link : Option Nat) (word : Word) : Except Nat Nat × State :=
  if z = 0 then
    match s.ringRead a 8 with
    | (.ok d, t) => (.ok (fieldOf 15 0 (leNat d)), t)
    | (.error e, t) => (.error e, t)
  else match link with
    | some k => if s.linkUp k then (.ok (fieldOf 15 0 word.toNat), s) else (.error 7, s)
    | none => (.error 1, s)

/-- TAIL_READ_RETURN. -/
def State.tailReturns (s : State) (q : Nat) (word : Word) : State :=
  match (s.sq q).tailReads with
  | [] => s
  | r :: _ =>
    let conf := (s.sq q).conf
    if !s.ringHere r then s
    else match s.indexWord (ringZone conf.cfg) conf.taddr r.2 word with
      | (.error cause, t) => t.ringFail q .tail cause
      | (.ok v, t) => t.setSq q { t.sq q with tailReads := (t.sq q).tailReads.tail, tail := v % qSlots conf.cfg }

/-- HEAD_READ_RETURN. HEAD_PH reads 0 after it, since an index word has no phase (DESIGN CHOICE, log entry 119). -/
def State.headReturns (s : State) (q : Nat) (word : Word) : State :=
  match (s.cq q).headReads with
  | [] => s
  | r :: _ =>
    let conf := (s.cq q).conf
    if !s.ringHere r then s
    else match s.indexWord (ringZone conf.cfg) conf.haddr r.2 word with
      | (.error cause, t) => t.ringFail q .head cause
      | (.ok v, t) => (t.setCq q { t.cq q with headReads := (t.cq q).headReads.tail }).newHead q v false

/-- The re-poll interval of an SQ in ns (R145). -/
def State.repollNs (s : State) (q : Nat) : Nat :=
  let v := fieldOf 63 48 (s.sq q).conf.chan
  if v = 0 then 2000 else v * 100

/-- REPOLL_EXPIRY. -/
def State.repollExpires (s : State) (q : Nat) : State :=
  let x := s.sq q
  match x.repoll with
  | some t0 => if x.en && nsPassed t0 s.clock (s.repollNs q) then s.setSq q { x with repoll := none, wake := true } else s
  | none => s

/-! ### Entries act (R132, R133, R149) -/

/-- The entry of an SQ that acts next, if it has the operation `op`; it leaves the list. -/
def State.takeAct (s : State) (q op : Nat) : Option (HeldEntry × State) :=
  let x := s.sq q
  match x.acts with
  | h :: r => if h.sop = op then some (h, s.setSq q { x with acts := r }) else none
  | [] => none

/-- The target of a RESUME or STOP: of the SQ's set, the lowest channel that runs a program of that TAG (R132). One that is DRAINING after
its program's end counts as running it (DESIGN CHOICE, log entry 120). -/
def State.targetOf (s : State) (q : Nat) (tag : Word) : Option Nat :=
  (s.setOf q).find? (fun c => !s.chanIdle c && s.rg .chnTag c = tag.toNat)

/-- SQE_START: the entry waits for a channel. -/
def State.sqeStart (s : State) (q : Nat) : State :=
  match s.takeAct q 1 with
  | some (h, t) => t.setSq q { t.sq q with starts := (t.sq q).starts ++ [h] }
  | none => s

/-- SQE_RESUME. -/
def State.sqeResume (s : State) (q : Nat) : State :=
  match s.takeAct q 2 with
  | none => s
  | some (h, t) =>
    match t.targetOf q h.tag with
    | some c =>
      let ch := t.chan c
      if ch.phase = .suspended then (t.setChan c { ch with sq := q, cause := max ch.cause h.cause }).resumeRun c (some h.num)
      else (t.decideEntry q h.num 0x12 h.cause .engine).2
    | none => (t.decideEntry q h.num 0x12 h.cause .engine).2

/-- SQE_STOP. -/
def State.sqeStop (s : State) (q : Nat) : State :=
  match s.takeAct q 3 with
  | none => s
  | some (h, t) =>
    match t.targetOf q h.tag with
    | some c => (t.decideEntry q h.num 0 h.cause .engine).2.chanStop c
    | none => (t.decideEntry q h.num 0x12 h.cause .engine).2

/-- SQE_NOP. -/
def State.sqeNop (s : State) (q : Nat) : State :=
  match s.takeAct q 4 with
  | none => s
  | some (h, t) => (t.decideEntry q h.num 0 h.cause .engine).2

/-- The full Time nearest to `now` whose low 64 bits are `v` (R21). -/
def extendTime (now v : Nat) : Nat :=
  let d := (v + (2 ^ 64 - now % 2 ^ 64)) % 2 ^ 64
  if d ≤ 2 ^ 63 ∨ now + d < 2 ^ 64 then now + d else now + d - 2 ^ 64

/-- DISPATCH: the oldest START that waits goes to the lowest IDLE channel of the set (R149). -/
def State.dispatchTo (s : State) (q c : Nat) (h : HeldEntry) : State :=
  let t := ((s.setRg .chnTag h.tag.toNat c).setRg .chnSess (h.zone + h.sess * 2 ^ 4) c).setFld .chnIcount 63 32 0 c
  let t := t.setChan c { chan0 with sq := q, entry := some h.num, first := true, cause := h.cause }
  if h.notBefore = 0 then t.goFetch c h.prog.toNat
  else
    let t := t.setRg .chnCur h.prog.toNat c
    t.setChan c { t.chan c with phase := .waitStart, startAt := extendTime s.time.now h.notBefore.toNat }

def State.dispatchSq (s : State) (q : Nat) : State :=
  let x := s.sq q
  match x.starts, (s.setOf q).find? s.chanIdle with
  | h :: r, some c => (s.setSq q { x with starts := r }).dispatchTo q c h
  | _, _ => s

/-- NOT_BEFORE_REACHED (R149). -/
def State.startReached (s : State) (c : Nat) : State :=
  let ch := s.chan c
  if ch.phase = .waitStart ∧ ch.startAt ≤ s.time.now then s.goFetch c (s.rg .chnCur c) else s

/-! ### Completion entries (R150 to R155) -/

/-- The word at +0x00 of a CQE, P left 0. -/
def Cqe.word (e : Cqe) : Nat :=
  e.covered % 2 ^ 16 * 2 ^ 48 + e.sqHead % 2 ^ 16 * 2 ^ 32 + e.sqId % 2 ^ 12 * 2 ^ 16 + e.code % 2 ^ 8 * 2 ^ 8 + b2n e.headPh * 2

/-- The bytes at +0x08 to +0x1F. -/
def Cqe.rest (e : Cqe) (x : Stamp) : List Byte := natLe 8 e.tag.toNat ++ x.bytes

/-- A CQE goes into its ring (R135, R151): the word at +0x00 last, with P, then in index mode the tail word; the CQ slots that name
the CQ emit (R299). -/
def State.intoRing (s : State) (q word : Nat) (rest : List Byte) (time : Nat) : State :=
  let x := s.cq q
  let cfg := x.conf.cfg
  let z := ringZone cfg
  let a := x.conf.base + x.tail * 32
  let t := (s.ringWrite z (a + 8) rest).ringWrite z a (natLe 8 (word + b2n x.tailPh))
  let (tail, ph) := headAfter (qSlots cfg) x.tail x.tailPh
  let t := t.setCq q { t.cq q with tail := tail, tailPh := ph }
  let t := if indexMode cfg then t.ringWrite z x.conf.taddr (natLe 8 tail) else t
  (List.range 256).foldl (fun t k =>
    if t.bit .carCqslot 15 k && t.fld .carCqslot 11 0 k == q then t.emit (0x80 + k) (time + 1) 0 else t) t

/-- The address of a Ballast slot (R153). -/
def State.ballastAddr (s : State) (q k : Nat) : Nat := s.snima.layout.bal + q * 8192 + k % 256 * 32

/-- A decided CQE is stamped and goes into the ring or into Ballast, under the CQ's registers as they stand (R130). -/
def State.postCqe (s : State) (q : Nat) (e : Cqe) : State :=
  let (x, t) := (s.cqLoad q).stamp mastQueue (e.cause + 1)
  let t := (t.ircCause (0x1000 + q) x.time).logClass 4 ⟨x, 0x05, e.code, q, e.covered * 2 ^ 16 + e.sqId, e.tag.toNat⟩
  let y := t.cq q
  if 0 < y.balCount || !y.en || t.cqRoom q = 0 then
    let t := t.otherWrite mastQueue reqQueue (t.ballastAddr q (y.balFirst + y.balCount)) (natLe 8 e.word ++ e.rest x)
    t.setCq q { t.cq q with balCount := y.balCount + 1 }
  else t.intoRing q e.word (e.rest x) x.time

/-- Whether a CQE has a place: in the ring, or in Ballast (R153, R154). -/
def State.cqePlace (s : State) (q : Nat) : Bool :=
  let x := s.cq q
  x.balCount < 256

/-- CQE_POST: the oldest decided CQE. -/
def State.cqePost (s : State) (q : Nat) : State :=
  let x := s.cq q
  match x.due with
  | e :: r => if s.cqePlace q then (s.setCq q { x with due := r }).postCqe q e else s
  | [] => s

/-- BALLAST_TO_RING (R153, R281). -/
def State.ballastOut (s : State) (q : Nat) : State :=
  let u := s.cqLoad q
  let x := u.cq q
  if x.en && 0 < x.balCount && 0 < u.cqRoom q then
    let a := s.ballastAddr q x.balFirst
    let bad := (List.range 4).map (fun i => s.isPoisoned (s.phys (a + 8 * i) / 8))
    let (d, _, t) := u.otherRead mastQueue reqQueue a 32
    let word := fun i => if bad[i]?.getD false then 0 else bytesAt d (8 * i) 8
    let ue := bad.any id
    let t := if ue then t.fault mastQueue 0x0F q (x.balFirst % 256) a else t
    let w0 := word 0 / 2 * 2
    let w0 := if ue then w0 % 2 ^ 48 - fieldOf 15 8 w0 * 2 ^ 8 + 0x2200 else w0
    let t := t.setCq q { t.cq q with balFirst := (x.balFirst + 1) % 256, balCount := x.balCount - 1 }
    t.intoRing q w0 (natLe 8 (word 1) ++ natLe 8 (word 2) ++ natLe 8 (word 3)) (word 3 * 2 ^ 16 + word 2 / 2 ^ 48)
  else s

/-- A channel's CQE has left it (R155, R182). -/
def State.holderFreed (s : State) (h : Holder) : State :=
  match h with
  | .engine => s
  | .chan c =>
    let ch := s.chan c
    if ch.phase ≠ .draining || s.cqs.any (fun e => e.2.held.any (fun y => y.1 = .chan c)) then s
    else if ch.outcome = some 3 then s.enterSuspended c
    else s.setChan c (idleChan ch)

/-- HELD_CQE_TO_BALLAST (R155). -/
def State.heldPost (s : State) (q : Nat) : State :=
  let x := s.cq q
  match x.held with
  | (h, e) :: r => if x.due = [] && s.cqePlace q then ((s.setCq q { x with held := r }).postCqe q e).holderFreed h else s
  | [] => s

/-! ### The rows -/

/-- FETCH_GRANT (R140 to R143). -/
def execFetchGrant (s : State) : Result := live s (unlocked (·.fetchGrant))
/-- WINDOW_DATA_RETURN (R144, R147). -/
def execWindowDataReturn (q : Fin 4096) (data : List (BitVec 8)) (s : State) : Result :=
  liveM s (fun s => if s.locked then s.windowMeets q data else s.windowReturns q data)
/-- TAIL_READ_RETURN (R137). -/
def execTailReadReturn (q : Fin 4096) (word : BitVec 64) (s : State) : Result := freeM s (·.tailReturns q word)
/-- HEAD_READ_RETURN (R137, R139). -/
def execHeadReadReturn (q : Fin 4096) (word : BitVec 64) (s : State) : Result := freeM s (·.headReturns q word)
/-- The Time at which the ring read that answers next was issued, and its zone. -/
def State.ringIssued (s : State) (q : Nat) : RingRead → Nat × Nat
  | .window => (ringZone (s.sq q).conf.cfg, ((s.sq q).window.map (·.issued)).getD 0)
  | .tail => (ringZone (s.sq q).conf.cfg, ((s.sq q).tailReads.headD (0, none)).1)
  | .head => (ringZone (s.cq q).conf.cfg, ((s.cq q).headReads.headD (0, none)).1)

/-- A ring read is reported as failed; a timeout only as the endpoint allows (R158, R367). -/
def State.ringReported (s : State) (q : Nat) (kind : RingRead) (cause : Nat) : State :=
  let (z, since) := s.ringIssued q kind
  if cause = 3 ∧ s.ctoPassed z since = false then s else s.ringFail q kind cause

/-- RING_READ_FAIL (R158, R367). -/
def execRingReadFail (q : Fin 4096) (kind : RingRead) (cause : BitVec 8) (s : State) : Result :=
  live s (unlocked (·.ringReported q kind cause.toNat))
/-- REPOLL_EXPIRY (R145). -/
def execRepollExpiry (q : Fin 4096) (now : Nat) (s : State) : Result := liveAt s now (unlocked (·.repollExpires q))
/-- SQE_START (R132, R149). -/
def execSqeStart (q : Fin 4096) (s : State) : Result := live s (unlocked (·.sqeStart q))
/-- SQE_RESUME (R132, R184). -/
def execSqeResume (q : Fin 4096) (s : State) : Result := freeC s (·.sqeResume q)
/-- SQE_STOP (R132, R183). -/
def execSqeStop (q : Fin 4096) (s : State) : Result := freeC s (·.sqeStop q)
/-- SQE_NOP (R132). -/
def execSqeNop (q : Fin 4096) (s : State) : Result := live s (unlocked (·.sqeNop q))
/-- DISPATCH (R149). -/
def execDispatch (q : Fin 4096) (s : State) : Result := freeC s (·.dispatchSq q)
/-- NOT_BEFORE_REACHED (R149). -/
def execNotBeforeReached (ch : Fin 4096) (now : Nat) (s : State) : Result := freeCAt s now (·.startReached ch)
/-- CQE_POST (R150 to R153). -/
def execCqePost (q : Fin 4096) (s : State) : Result := freeM s (·.cqePost q)
/-- BALLAST_TO_RING (R153). -/
def execBallastToRing (q : Fin 4096) (s : State) : Result := freeM s (·.ballastOut q)
/-- HELD_CQE_TO_BALLAST (R154, R155). -/
def execHeldCqeToBallast (q : Fin 4096) (s : State) : Result := freeC s (·.heldPost q)

end Sys2Proof.Machine
end

