-- ==== Sys2Proof/Machine/Control.lean ====
section
/-! DEFINITION. Control commands (R215 to R225), the reads and writes that channel processors make themselves (R162, R163, R186), the
timeout of a command (R335), and the places of the key cache (R115, R116). -/

namespace Sys2Proof.Machine

/-! ### Reading commands -/

/-- Whether the channel processor's own read on a link cannot have ended as `rd` says: it is not out yet (R368), or its Completion Timeout
has not passed (R367). One that fails whatever it would bring does not wait. -/
def State.readWaits (s : State) (c : Nat) (rd : ReadResult) : Bool :=
  match s.ownRead c with
  | some (z, a) => (s.causeOn c z a).isNone && (!s.readOut c z a || s.tooEarly z (s.readSince c) rd)
  | none => false

/-- COMMAND_FETCH: the command at CHN_CUR is read (R163, R167, R188). After a condition code only a BRANCH with OWN 1 goes on; with PAUSE
the program suspends before it (R171), and with a stop pending it is not executed (R183). -/
def State.fetched (s : State) (c : Nat) (rd : ReadResult) : State :=
  let ch := s.chan c
  let cur := s.rg .chnCur c
  if ch.phase ≠ .fetch || s.readWaits c rd then s
  else
    match s.rereadCmd c cur rd with
    | (.error f, t) => t.fetchFails c f
    | (.ok b, t) =>
      let t := t.progressed c
      if ch.condNext then
        let x := parseCmd b
        if x.opc = 0x21 ∧ x.own ∧ ch.stop = false then
          if ch.final.cmd.pause then (t.setChan c { t.chan c with phase := .active }).dispose c true (some 0x03) cur (some 0x03)
          else (t.goFetch c cur).commandRead c b
        else (t.setChan c { t.chan c with phase := .active }).dispose c true (some ch.ending.code) 0 none
      else t.commandRead c b

/-- CONT: the next member of a chain is read again and loaded behind the one that runs, its addresses, count and OWN taken from this
read (R162, R231); it counts as a command that starts (R26). -/
def State.memberReached (s : State) (c : Nat) (rd : ReadResult) : State :=
  if s.memberDue c && !s.readWaits c rd then
    let ch := s.chan c
    let i := ch.pos + 1
    match ch.chain[i]?, s.moverOf c with
    | some mb, some m =>
      match s.rereadCmd c mb.addr rd with
      | (.error f, t) => t.memberFails c mb.addr f
      | (.ok b, t) =>
        let x := parseCmd b
        let t := ((t.setRg .chnCur mb.addr c).progressed c).cmdStart c x mb.addr
        let y := { mb.cmd with count := x.count, src := x.src, dst := x.dst, own := x.own }
        let ch := t.chan c
        ((t.setChan c { ch with chain := ch.chain.set i { mb with cmd := y } }).loadMember m c i).run m
    | _, _ => s
  else s

/-! ### Control commands -/

/-- NOP (R223). -/
def State.doNop (s : State) (c : Nat) : State := if s.ready c 0x25 then s.endCmd c 0 0 0 else s

/-- TIC (R217). -/
def State.doTic (s : State) (c : Nat) : State :=
  if s.ready c 0x20 then s.endCmd c 0 0 0 (some (s.chan c).head.cmd.param2) else s

/-- Whether a BRANCH with `param` is taken on a code (R218). -/
def branchTaken (param code : Nat) : Bool := ((code &&& fieldOf 7 0 param) = fieldOf 15 8 param) != param.testBit 16

/-- BRANCH (R218). -/
def State.doBranch (s : State) (c : Nat) : State :=
  if s.ready c 0x21 then
    let ch := s.chan c
    let h := ch.head.cmd
    s.endCmd c 0 0 0 (if branchTaken h.param ch.prevCode then some h.param2 else none)
  else s

/-- WAIT begins (R219, R220); a stop already requested ends it at once where it would wait (R182, R183). -/
def State.doWait (s : State) (c : Nat) : State :=
  if s.ready c 0x22 then
    let ch := s.chan c
    let h := ch.head.cmd
    let k := h.param % 256
    if fieldOf 31 0 h.param2 = 0 then s.checkFail c 0x12 0x28 0 ch.pos
    else if s.carFlag k then (if h.param.testBit 8 then s.setCarFlag k false else s).endCmd c 0 0 0
    else if ch.stop then s.endCmd c 0x04 0 0
    else s.setChan c { ch with phase := .waitEvent, waitSince := s.clock }
  else s

/-- A WAIT times out (R219, R220). -/
def State.waitExpires (s : State) (c : Nat) : State :=
  let ch := s.chan c
  if ch.phase = .waitEvent ∧ usPassed ch.waitSince s.clock (fieldOf 31 0 ch.head.cmd.param2) then s.endCmd c 0x40 0 0 else s

/-- Zero-length reads come before what is to go out on `carrier` (R179); with none needed it goes out at once. -/
def State.syncFirst (s : State) (c : Nat) (carrier : Option Nat) (what : AfterSync) : State :=
  let ch := s.chan c
  let l := syncsFor ch.dirty carrier
  let t := s.setChan c { ch with stage := .sync, after := what, syncs := l }
  if l = [] then t.afterSync c else t

/-- SIGNAL (R221). -/
def State.doSignal (s : State) (c : Nat) : State := if s.ready c 0x23 then s.syncFirst c none .signal else s

/-- The target of a HOLD (R222). -/
def holdTarget (h : Cmd) : Nat := h.param + fieldOf 15 0 h.param2 * 2 ^ 64

/-- HOLD begins (R222); a stop already requested ends it at once where it would wait (R182, R183). -/
def State.doHold (s : State) (c : Nat) : State :=
  if s.ready c 0x24 then
    let ch := s.chan c
    if s.time.now < holdTarget ch.head.cmd then
      if ch.stop then s.endCmd c 0x04 0 0 else s.setChan c { ch with phase := .waitHold }
    else s.endCmd c (if ch.head.cmd.param2.testBit 32 then 0x42 else 0) 0 0
  else s

/-- Time has reached the target of a HOLD (R222). -/
def State.holdReached (s : State) (c : Nat) : State :=
  let ch := s.chan c
  if ch.phase = .waitHold ∧ holdTarget ch.head.cmd ≤ s.time.now then s.endCmd c 0 0 0 else s

/-- STAMP takes its Stamp and issues its write (R215). -/
def State.doStamp (s : State) (c : Nat) : State :=
  if s.ready c 0x0B then
    let ch := s.chan c
    let (x, t) := s.stamp (cpDomain c) (ch.cause + 1)
    t.setChan c { ch with stage := .cpWrite, cpStep := 0, cause := x.time, pin := some (t.linkOf ch.head.cmd.zd ch.head.cmd.dst)
                          stream := { ch.stream with result := x.bytes } }
  else s

/-- POST (R224, R225): first every data write is made visible. -/
def State.doPost (s : State) (c : Nat) : State :=
  if s.ready c 0x26 then
    let h := (s.chan c).head.cmd
    s.syncFirst c (if h.zd = 0 then none else s.linkOf h.zd h.dst) .post
  else s

/-- The write of a STAMP or POST has been accepted: a POST goes on to its word at +0x00, then sets IRC_POST (R225). -/
def State.cpNext (s : State) (c : Nat) : State :=
  let ch := s.chan c
  let h := ch.head.cmd
  if h.opc = 0x0B then s.endCmd c 0 0 0
  else if ch.cpStep = 0 then s.setChan c { ch with cpStep := 1, pin := some (s.linkOf h.zd h.dst) }
  else (if h.param2.testBit 0 then (s.setBit .ircPost (c % 64) true (c / 64)).ircCause (c / 64) ch.cause else s).endCmd c 0 0 0

/-- CP_WRITE_RESPONSE (R186): `res` is a link's response. -/
def State.cpWritten (s : State) (c : Nat) (res : WriteResult) : State :=
  let ch := s.chan c
  if !ch.cpWrites then s
  else
    let h := ch.head.cmd
    let fail := fun (s : State) (cause : Nat) => s.cpError c (failWith cause 0x21 h.zd 2 h.dst 0) false
    if h.zd = 0 then
      let (bad, t) := s.cpStore c
      if !(t.chan c).cpWrites then t
      else match bad with
        | some b => fail t b.1
        | none => t.cpNext c
    else match s.writeLink c, res with
      | some k, .ok =>
        if s.linkUp k then
          let t := (s.linkAnswers (some k)).extWrite h.zd (s.cpBytes c)
          (t.setChan c { ch with dirty := (ch.dirty ++ [k]).eraseDups }).cpNext c
        else fail s 7
      | none, _ => fail s 1
      | o, _ => fail (s.linkAnswers o) 7

/-- ZERO_LENGTH_READ_DONE (R179): on the first link of the zone that the channel waits on. -/
def State.zeroRead (s : State) (c zone : Nat) : State :=
  match (s.chan c).syncs.find? (fun k => linkZone k = zone) with
  | some k => if s.tagged c k then (s.linkAnswers (some k)).syncDone c k else s
  | none => s

/-! ### The timeout -/

/-- A zone-0 access of a burst completes though its command has timed out (R335). The burst is looked up anew: the accesses before it
may have ended it. -/
def State.settleBurst (s : State) (m : Nat) (tracked : Bool) (num : Nat) : State :=
  let x := s.mover m
  match (if tracked then x.tracker else x.active) with
  | none => s
  | some t => match t.bursts.find? (·.num = num) with
    | none => s
    | some b =>
      if b.stage = .writing ∧ b.wz = 0 then
        (match s.burstStore m tracked t b with
         | (none, u) => u.writeDone m tracked b.num
         | (some _, u) => u)
      else if b.stage = .reading ∧ readZone t b = 0 ∧ ¬ tracked then
        (match s.burstRead m t b with
         | (.ok d, u) => (u.endGrant m b).readArrives m b d
         | (.error _, u) => u)
      else s

/-- The zone-0 accesses that a channel has issued complete, and nothing more is issued for it (R335). -/
def State.settle (s : State) (c : Nat) : State :=
  let ch := s.chan c
  let of := fun (tracked : Bool) (m : Nat) (o : Option Transfer) (s : State) => match o with
    | some t => if t.chan = some c then t.bursts.foldl (fun s b => s.settleBurst m tracked b.num) s else s
    | none => s
  let t := (List.range 64).foldl (fun s m => of false m (s.mover m).active (of true m (s.mover m).tracker s)) s
  if (t.chan c).cpWrites ∧ ch.head.cmd.zd = 0 then (t.cpStore c).2 else t

/-- COMMAND_TIMEOUT (R335). A last access of the channel may itself have ended what the timeout was to end, as a write of its CHN_CTL. -/
def State.commandTimeout (s : State) (c : Nat) : State :=
  if s.tmoDue c then
    let t := s.settle c
    if (t.chan c).timed then t.timeoutEnd c else t
  else s

/-! ### Places of the key cache -/

/-- Whether a fill waits for a place in the cache. -/
def State.placeWanted (s : State) : Bool :=
  s.crypto.fills.any (fun f => f.engine.isNone) && 65536 ≤ s.crypto.cache.length + s.fillsRunning

/-- An eviction that a fill waits for (R115, R116). -/
def State.evictDue (s : State) : State := if s.placeWanted then s.evict else s

/-- The oldest count-only entry goes to the write-back list where that has a place (R115). -/
def State.listCountOnly (s : State) : State :=
  let k := s.crypto
  match k.cache.find? (fun e => !e.keyed) with
  | some e =>
    if k.listed.length < 256 then
      { s with crypto := { k with cache := k.cache.erase e, listed := k.listed ++ [⟨e.sess, e.epoch, e.count⟩] } }
    else s
  | none => s

end Sys2Proof.Machine
end

