-- ==== Sys2Proof/Machine/DriveRows.lean ====
section
/-! DEFINITION. NVME and the back-end logic's drive queues (R211 to R214, R336, R378, R379): the command image, queue slots and
identifiers, completions and their timeout. -/

namespace Sys2Proof.Machine

/-! ### The queues of a drive (R100, R378; log entry 43) -/

/-- The entries of a queue of a drive. -/
def Drive.slots (d : Drive) : Nat := min (2 ^ d.qdLog2) (d.info.mqes + 1)

/-- The address of an entry of the submission queue of a pair; pair 0 is the admin pair. -/
def Drive.entryAddr (d : Drive) (q i : Nat) : Nat :=
  if q = 0 then d.qbase + 64 * i else d.qbase + 0x2000 + (q - 1) * 2 ^ d.qdLog2 * 80 + 64 * i

/-- The address of an entry of the completion queue of a pair. -/
def Drive.replyAddr (d : Drive) (q i : Nat) : Nat :=
  if q = 0 then d.qbase + 0x1000 + 16 * i else d.qbase + 0x2000 + (q - 1) * 2 ^ d.qdLog2 * 80 + 2 ^ d.qdLog2 * 64 + 16 * i

/-- The entries of both queues of a pair. -/
def Drive.depth (d : Drive) (q : Nat) : Nat := if q = 0 then 64 else d.slots

/-- A register of a drive's controller is written, at an offset of the BAR that Snima has placed in the link's window (R100, R371;
offsets PRESUMED from the NVMe specification, log entry 43). A write that no window holds, or whose link is down, does not go out. -/
def State.driveReg (s : State) (d off n v : Nat) : State :=
  let z := 4 + d / 2
  let a := (s.drive d).barBase + off
  if (s.linkCause z a).isNone then s.extWrite z (atAddr a (natLe n v)) else s

/-- The doorbell of the submission queue of a pair, or of its completion queue (R378; PRESUMED from the NVMe specification, log entry
43). -/
def State.doorbell (s : State) (d q : Nat) (reply : Bool) (v : Nat) : State :=
  s.driveReg d (0x1000 + (2 * q + b2n reply) * 4 * 2 ^ (s.drive d).info.dstrd) 4 v

/-- The completion queue's entry that is next has been taken: the head moves on, and the drive is told (R378). -/
def State.replyTaken (s : State) (d q : Nat) : State :=
  let v := s.drive d
  let j := (tabGet 0 v.heads q + 1) % max 1 (v.depth q)
  (s.setDrive d { v with heads := tabSet 0 v.heads q j }).doorbell d q true j

/-- The vector of a drive's completion queue is programmed (R379): BKP_IRQ of the drive's link, the queue identifier, unmasked. -/
def State.vectorSet (s : State) (d q : Nat) : State :=
  s.driveReg d (Config.driveTable d % 2 ^ 32 / 8 * 8 + 16 * q) 16 (0x1000000000 + Reg.offset ⟨.bkpIrq, d + 2, 0⟩ + q * 2 ^ 64)

/-- Whether a pair has no free slot: one entry of a ring stays empty. -/
def Drive.full (d : Drive) (q : Nat) : Bool := d.slots ≤ (d.cids.filter (·.qp = q)).length + 1

/-- The identifier that a drive allocates next: one that is not outstanding. -/
def Drive.freeCid (d : Drive) : Nat :=
  ((List.range (d.cids.length + 1)).map (fun i => (d.nextCid + i) % 2 ^ 16)).find? (fun n => d.cids.all (·.cid ≠ n)) |>.getD 0

/-! ### The command image (R212) -/

/-- Fields of an NVMe command image. -/
def imgOpcode (b : List Byte) : Nat := bytesAt b 0 1
def imgFuse (b : List Byte) : Nat := fieldOf 1 0 (bytesAt b 1 1)
def imgNsid (b : List Byte) : Nat := bytesAt b 4 4

/-- The image as it goes to the drive: CID, PSDT 0, PRP1 and PRP2. -/
def imageOut (b : List Byte) (cid prp1 prp2 : Nat) : List Byte :=
  b.take 1 ++ natLe 1 (fieldOf 5 0 (bytesAt b 1 1)) ++ natLe 2 cid ++ (b.drop 4).take 20 ++ natLe 8 prp1 ++ natLe 8 prp2 ++ b.drop 40

/-- PRP2 of an NVME command. -/
def prp2Of (h : Cmd) : Nat := if h.count ≤ 4096 then 0 else if h.count ≤ 8192 then h.dst + 4096 else h.param

/-- COUNT that an image asks for. -/
def imageCount (d : Drive) (b : List Byte) : Nat :=
  let o := imgOpcode b
  if o = 1 ∨ o = 2 then (fieldOf 15 0 (bytesAt b 48 4) + 1) * (d.info.lbaSizes[imgNsid b - 1]?).getD 0
  else if o = 9 then (fieldOf 7 0 (bytesAt b 40 4) + 1) * 16
  else 0

/-- Whether an image passes check 3 of R212. -/
def imageOk (d : Drive) (b : List Byte) : Bool :=
  let o := imgOpcode b
  (o = 0 || o = 1 || o = 2 || o = 9) && imgFuse b = 0 && 1 ≤ imgNsid b && imgNsid b ≤ d.info.lbaSizes.length

/-- An entry is written into a submission queue by the back-end logic, the tail moves on, and its doorbell is written (R212, R288). -/
def State.putEntry (s : State) (d q : Nat) (b : List Byte) : State :=
  let v := s.drive d
  let i := tabGet 0 v.tails q
  let j := (i + 1) % v.depth q
  let t := s.otherWrite (0x74 + d / 2) 71 (v.entryAddr q i) b
  (t.setDrive d { v with tails := tabSet 0 v.tails q j }).doorbell d q false j

/-- The back-end logic looks at the completion queue's entry that is next (R288, R379). -/
def State.replyRead (s : State) (d q : Nat) : State :=
  let v := s.drive d
  (s.otherRead (0x74 + d / 2) 71 (v.replyAddr q (tabGet 0 v.heads q)) 16).2.2

/-- Step 5 and 6 of R212: the command takes a slot and goes to the drive, or waits for one (R214). -/
def State.takeSlot (s : State) (c d q : Nat) (b : List Byte) : State :=
  let v := s.drive d
  let ch := s.chan c
  let h := ch.head.cmd
  if v.full q then s.setChan c { ch with stage := .drvSlot, drv := some (d, q, 0), waitSince := s.clock, stream := { ch.stream with result := b } }
  else
    let cid := v.freeCid
    let t := s.putEntry d q (imageOut b cid h.dst (prp2Of h))
    let v := t.drive d
    let t := (t.setDrive d { v with nextCid := (cid + 1) % 2 ^ 16, cids := v.cids ++ [⟨cid, q, c, false⟩] }).progressed c
    t.setChan c { t.chan c with stage := .drvRun, drv := some (d, q, cid), graceUsed := 0, retrySince := none }

/-- The image of an NVME command is read (R186, R212), on the link on which its read was issued (R375). -/
def State.imageRead (s : State) (c : Nat) (h : Cmd) (rd : ReadResult) : Except Failure (List Byte) × State :=
  let f := fun (cause acode : Nat) (a : Nat) => failWith cause acode h.zs 1 (a / 64 * 64) 0
  if h.zs = 0 then
    match s.engineRead (cpDomain c) reqCp h.src 64 with
    | (.ok d, t) => (.ok d, t)
    | (.error x, t) => (.error (f x.1 x.2.1 (h.src + x.2.2)), t)
  else
    let t := (s.linkAnswers (s.onLink c h.zs h.src)).readOver c
    match s.causeOn c h.zs h.src, rd with
    | some cause, _ => (.error (f cause 0x20 h.src), t)
    | none, .ok d => (.ok (fitBytes 64 d), t)
    | none, .fail cause _ => (.error (f cause.toNat 0x20 h.src), t)

/-- NVME (R212). -/
def State.doNvme (s : State) (c : Nat) (rd : ReadResult) : State :=
  if s.ready c 0x0A && !s.readWaits c rd then
    let ch := s.chan c
    let h := ch.head.cmd
    let d := h.drive
    if !(s.drive d).attached then (s.readOver c).endCmd c 0x52 0x0001 h.count
    else if !s.linkUp (d + 2) then (s.readOver c).endCmd c 0x52 0x0002 h.count
    else match s.imageRead c h rd with
      | (.error f, t) => t.cpError c f false
      | (.ok b, t) =>
        let v := t.drive d
        if !imageOk v b then t.checkFail c 0x12 0x0008 h.count ch.pos
        else if h.count ≠ imageCount v b then t.checkFail c 0x12 0x0004 h.count ch.pos
        else
          let q := fieldOf 8 0 h.param2
          t.takeSlot c d (if q = 0 then 1 + c % max 1 v.info.granted else q) b
  else s

/-- The command that has waited longest for a slot of a pair takes one that has come free (R214). -/
def State.slotFreed (s : State) (d q : Nat) : State :=
  let l := s.chans.filter (fun e => e.2.phase = .active && e.2.stage = .drvSlot
    && (match e.2.drv with | some (x, y, _) => x = d && y = q | none => false))
  let first := l.foldl (fun (m : Option (Nat × Chan)) e => match m with
    | none => some e
    | some f => if e.2.waitSince < f.2.waitSince then some e else some f) none
  match first with
  | some (c, ch) => if (s.drive d).full q then s else s.takeSlot c d q ch.stream.result
  | none => s

/-- A drive completes an identifier (R213): the command ends, or the completion is stale (R337). The scan that found it goes on to the
queue's next entry (R379). -/
def State.driveCompletes (s : State) (d cid dw0 status : Nat) : State :=
  let v := s.drive d
  match v.cids.find? (·.cid = cid) with
  | none => s
  | some e =>
    let t := (s.setDrive d { v with cids := v.cids.erase e }).replyTaken d e.qp
    let t := t.replyRead d e.qp
    let ch := t.chan e.chan
    let t := if e.abandoned then
        t.staleRecord (0x74 + d / 2) 1 e.chan (cid + d * 2 ^ 16) (dw0 + status * 2 ^ 32)
      else if t.locked then t
      else if ch.phase = .active ∧ ch.stage = .drvRun ∧ ch.drv = some (d, e.qp, cid) then
        (if status = 0 then t.endCmd e.chan 0 0 0 else t.endCmd e.chan 0x50 status ch.head.cmd.count)
      else t
    if t.locked then t else t.slotFreed d e.qp

/-- NTMO of a command in us (R211). -/
def Cmd.ntmo (h : Cmd) : Nat := let n := fieldOf 63 32 h.param2; if n = 0 then 1000000 else n

/-- NTMO passes (R213, R336): an Abort goes to the drive's admin queue, the identifier stays taken, and the command ends. -/
def State.driveTimesOut (s : State) (c : Nat) : State :=
  let ch := s.chan c
  match ch.drv with
  | some (d, q, cid) =>
    if ch.phase = .active ∧ ch.stage = .drvRun ∧ ch.head.cmd.ntmo * second ≤ s.idleTime c * 1000000 then
      let v := s.drive d
      let t := s.setDrive d { v with cids := v.cids.map (fun (e : DrvCid) => if e.cid = cid then { e with abandoned := true } else e) }
      let t := t.putEntry d 0 (natLe 1 8 ++ natLe 39 0 ++ natLe 2 q ++ natLe 2 cid ++ natLe 20 0)
      t.endCmd c 0x51 0 ch.head.cmd.count
    else s
  | none => s

/-- A completion queue of a drive is scanned (R379), from the entry that is next on. -/
def State.cqScan (s : State) (d qid : Nat) : State :=
  let v := s.drive d
  if v.attached then (s.replyRead d qid).setDrive d { v with scanDue := v.scanDue.filter (· ≠ qid), scanAt := s.clock } else s

/-- NVME (R211 to R214): `rd` is the image where SRC lies on a link. -/
def execNvme (ch : Fin 4096) (rd : ReadResult) (s : State) : Result := freeC s (·.doNvme ch rd)
/-- DRIVE_COMPLETION (R213, R337). -/
def execDriveCompletion (drv : Fin 8) (cid : BitVec 16) (dw0 : BitVec 32) (status : BitVec 15) (s : State) : Result :=
  liveC s (·.driveCompletes drv cid.toNat dw0.toNat status.toNat)
/-- NVME_COMPLETION_TIMEOUT (R213). -/
def execNvmeCompletionTimeout (ch : Fin 4096) (now : Nat) (s : State) : Result := freeCAt s now (·.driveTimesOut ch)
/-- DRIVE_CQ_SCAN (R379): what it finds comes as DRIVE_COMPLETION. -/
def execDriveCqScan (drv : Fin 8) (qid : Nat) (s : State) : Result := freeM s (·.cqScan drv qid)

end Sys2Proof.Machine
end

