-- ==== Sys2Proof/Machine/SnimaRows.lean ====
section
/-! DEFINITION. Snima's device, configuration, queue, drive and self-test groups (R90 to R103, R407), the ROM's BOOT_STAGED (R106),
and answers that waited for room (R83). -/

namespace Sys2Proof.Machine

/-! ### Device group (R89, R90) -/

/-- DEV_INFO, with NODE from the vault (R413). -/
def devInfoTurn : Handler := fun _ _ _ s =>
  if s.vaultBad [vaultKeys + 10] then (fails snHwFault, s)
  else (doneOk (natLe 8 devWord ++ natLe 4 s.snima.version ++ natLe 4 s.snima.svn ++ natLe 4 s.vault.node ++ natLe 4 (s.fld .gctlBoot 11 8)), s)

/-- The units of a class that are out of rotation, those under test among them (R103). -/
def State.outMap (s : State) (cls count : Nat) (out : List Nat) : Nat :=
  ((List.range count).map (fun n => b2n (n ∈ out || s.underKat cls n) * 2 ^ n)).sum

/-- DEV_HEALTH. -/
def devHealthTurn : Handler := fun _ _ _ s =>
  let k := s.crypto
  (doneOk (natLe 4 s.snima.staleCnt ++ natLe 4 s.snima.authCnt ++ natLe 4 (s.outMap 0 32 k.aesOut)
    ++ natLe 4 (s.outMap 1 8 k.shaOut + s.outMap 2 4 k.p521Out * 2 ^ 8)), s)

/-- OPER_NONCE. -/
def operNonceTurn : Handler := fun c _ _ s =>
  if s.drbgReady 0 then
    let (n, t) := s.draw 0 32
    (doneOk n, t.setBox c { t.box c with nonce := some n })
  else (fails snHwFault, s)

/-- The words of OPER_OPEN's payload. -/
def openPoint (b : List Byte) : List Byte := (b.drop 4).take 67
def openSig (b : List Byte) : List Byte := (b.drop 0x47).take 132

/-- OPER_OPEN carried out (R89, R118): the signature checked, MK and KT derived, and the answer signed. -/
def State.operOpens (s : State) (c : Nat) (b nonce point : List Byte) : Turn × State :=
  let slot := bytesAt b 0 1 % 16
  let pt := openPoint b
  let cs := natLe 1 c ++ natLe 1 slot
  if s.vaultBad (slotWords slot) || !s.signReady || !s.drbgReady 0 then (fails snHwFault, s)
  else if !sigGood point (nonce ++ cs ++ pt) (openSig b) then (fails snSigBad, s)
  else
    let (e, t) := s.drawScalar 0
    let dp := Algo.publicPoint e
    let x := Algo.ecdh e pt
    let (sig, t) := t.dikSign (nonce ++ pt ++ dp)
    let key : ChanKey :=
      ⟨Algo.hkdf x nonce (Algo.ascii ['s', 'n', 'i', 'm', 'a', '-', 'm', 'a', 'c'] ++ cs) 32,
       Algo.hkdf x nonce (Algo.ascii ['s', 'n', 'i', 'm', 'a', '-', 'k', 't'] ++ cs) 32, slot, 1⟩
    (doneOk (dp ++ sig), t.setBox c { t.box c with key := some key, authRun := 0 })

/-- OPER_OPEN. An ephemeral point that is no compressed point of P-521 is a bad field 4, judged before the signature (DESIGN CHOICE, log
entry 104). -/
def operOpenTurn : Handler := fun c b _ s =>
  let slot := bytesAt b 0 1 % 16
  let point := tabGet none s.vault.slots slot
  let nonce := (s.box c).nonce
  let bad := firstBad [(bytesAt b 0 4 ≥ 16, 0), (!Algo.pointOk (openPoint b), 4)]
  match s.judge c 0x0003 b bad point.isSome nonce.isSome true, point, nonce with
  | some t, _, _ => (t, s)
  | none, some p, some n => s.operOpens c b n p
  | none, _, _ => (fails snState, s)

/-- DEV_RESTART. -/
def devRestartTurn : Handler := fun _ b _ s =>
  let w := bytesAt b 0 8
  if 2 ≤ w then (badField 0, s) else (.answer (ansOk []) (if w = 1 then .warmReset else .restart), s)

/-! ### Configuration group (R91 to R94) -/

/-- The results of LAYOUT_GET. -/
def Layout.results (l : Layout) : List Byte :=
  let e := fun (a n : Nat) => natLe 8 a ++ natLe 8 n
  natLe 8 l.word ++ e 0 (2 ^ l.sessLog2 * 128) ++ e l.pat (l.patCnt * 64) ++ e l.bal (l.balCq * 8192) ++ e l.logBase (2 ^ l.logLog2 * 32)
    ++ e l.data (l.spareBase - l.data) ++ natLe 8 l.spareBase

/-- LAYOUT_GET. -/
def layoutGetTurn : Handler := fun c b _ s =>
  match s.judge c 0x0100 b none true true true with
  | some t => (t, s)
  | none => (doneOk s.snima.layout.results, s)

/-- The layout that a LAYOUT_SET word gives. -/
def layoutOf (w : Nat) : Layout := ⟨fieldOf 4 0 w, fieldOf 28 16 w, fieldOf 44 32 w, fieldOf 12 8 w, fieldOf 50 48 w⟩

/-- Whether its parameters are in range, and reserved bits 0 (R91). -/
def layoutWordOk (w : Nat) : Bool :=
  let l := layoutOf w
  l.word = w && 10 ≤ l.sessLog2 && l.sessLog2 ≤ 20 && l.patCnt ≤ 4096 && l.patCnt % 64 = 0 && 1 ≤ l.balCq && l.balCq ≤ 4096
    && 12 ≤ l.logLog2 && l.logLog2 ≤ 22 && l.spare ≤ 4

/-- Whether the layout may change (R94). -/
def State.layoutFree (s : State) (l : Layout) : Bool :=
  s.sqs.all (fun e => !e.2.exists_) && s.cqs.all (fun e => !e.2.exists_) && s.drives.all (fun e => !e.2.attached)
    && (List.range 64).all (fun g => s.fld .cstSeg 1 0 g = 0) && s.store.remap.all (fun e => e.1 < l.spare * 4096)

/-- The new layout is in force (R94). Snima writes the zeros of the three regions as a requester of the store; a lasting page for which no
spare page is left stays in place (R286). -/
def State.setLayout (s : State) (l : Layout) : State :=
  let zeros := fun (a n : Nat) (t : State) => t.claims reqMc (t.rangeReqs reqMc true a n)
  let t := zeros l.logBase (2 ^ l.logLog2 * 32) (zeros l.bal (l.balCq * 8192) (zeros l.pat (l.patCnt * 64) s))
  let t := t.setBit .logCtl 0 false
  let t := t.zeroPlaces (fun p => s.serves l.pat (l.patCnt * 64) p || s.serves l.bal (l.balCq * 8192) p
    || s.serves l.logBase (2 ^ l.logLog2 * 32) p)
  let t := ((t.setRg .logBase l.logBase).setRg .logCnt l.logLog2).setRg .logRd (s.rg .logWr)
  (({ t with snima := { t.snima with layout := l } }).setBit .logCtl 0 true).stayInPlace

/-- LAYOUT_SET. -/
def layoutSetTurn : Handler := fun c b _ s =>
  let w := bytesAt b 0 8
  let l := layoutOf w
  match s.judge c 0x0101 b (firstBad [(!layoutWordOk w, 0)]) true (s.layoutFree l) (l.data + 0x1000000 ≤ l.spareBase) with
  | some t => (t, s)
  | none => (doneOk l.results, s.setLayout l)

/-! ### Queue group (R95 to R98) -/

/-- An index address that does not fit its MODE (R97). -/
def indexBad (mode : Bool) (a : Nat) : Bool := if mode then a = 0 || a % 8 ≠ 0 else a ≠ 0

/-- CQ_CREATE. -/
def cqCreateTurn : Handler := fun c b _ s =>
  let w := bytesAt b 0 8
  let q := w % 2 ^ 16
  let mode := w.testBit 28
  let n := fieldOf 20 16 w
  let bad := firstBad [
    (s.snima.layout.balCq ≤ q || n < 4 || 16 < n || 2 < fieldOf 27 24 w || fieldOf 23 21 w ≠ 0 || fieldOf 31 29 w ≠ 0
      || fieldOf 47 34 w ≠ 0 || fieldOf 63 61 w ≠ 0, 0),
    (bytesAt b 8 8 % 4096 ≠ 0, 8), (indexBad mode (bytesAt b 0x10 8), 0x10), (indexBad mode (bytesAt b 0x18 8), 0x18)]
  match s.judge c 0x0200 b bad true (!(s.cq q).exists_) true with
  | some t => (t, s)
  | none => (.answer (ansOk []) .createQueue, s)

/-- Whether a channel belongs to an SQ's set (R97). -/
def State.chanTaken (s : State) (c : Nat) : Bool := s.sqs.any (fun e => e.2.exists_ && c ∈ s.setOf e.1)

/-- SQ_CREATE. -/
def sqCreateTurn : Handler := fun c b _ s =>
  let w := bytesAt b 0 8
  let x := bytesAt b 0x10 8
  let q := w % 2 ^ 16
  let mode := w.testBit 28
  let n := fieldOf 20 16 w
  let burst := fieldOf 63 56 w
  let first := fieldOf 11 0 x
  let cnt := fieldOf 22 16 x
  let zm := fieldOf 47 32 x
  let bad := firstBad [
    (4096 ≤ q || n < 4 || 16 < n || 2 < fieldOf 27 24 w || fieldOf 55 48 w = 0 || burst = 0 || 64 < burst || fieldOf 23 21 w ≠ 0
      || fieldOf 31 30 w ≠ 0, 0),
    (bytesAt b 8 8 % 4096 ≠ 0, 8),
    (cnt = 0 || 64 < cnt || 4096 < first + cnt || 32 < fieldOf 29 24 x || zm = 0 || zm &&& 0xF7 ≠ zm || fieldOf 15 12 x ≠ 0
      || x.testBit 23 || fieldOf 31 30 x ≠ 0, 0x10),
    (indexBad mode (bytesAt b 0x18 8), 0x18), (indexBad mode (bytesAt b 0x20 8), 0x20)]
  let free := (List.range cnt).all (fun i => !s.chanTaken (first + i))
  match s.judge c 0x0201 b bad (s.cq (fieldOf 47 32 w)).exists_ (!(s.sq q).exists_ && free) true with
  | some t => (t, s)
  | none => (.answer (ansOk []) .createQueue, s)

/-- SQ_DELETE. -/
def sqDeleteTurn : Handler := fun c b _ s =>
  let w := bytesAt b 0 8
  let x := s.sq w
  match s.judge c 0x0202 b (firstBad [(4096 ≤ w, 0)]) x.exists_ (!x.en && s.sqIdle w) true with
  | some t => (t, s)
  | none => (.answer (ansOk []) .deleteQueue, s)

/-- CQ_DELETE. A CQID from the layout's count of CQs up to 4,095 is not found; one of 4,096 or more is a bad field (DESIGN CHOICE, log
entry 105; Q_QUERY judges so too). -/
def cqDeleteTurn : Handler := fun c b _ s =>
  let w := bytesAt b 0 8
  let x := s.cq w
  let bound := s.sqs.any (fun e => e.2.exists_ && s.cqOf e.1 = w)
  match s.judge c 0x0203 b (firstBad [(4096 ≤ w, 0)]) x.exists_ (!bound && x.balCount = 0 && x.due = []) true with
  | some t => (t, s)
  | none => (.answer (ansOk []) .deleteQueue, s)

/-- Q_QUERY: the create words, then EN, IDLE and the Ballast count. -/
def qQueryTurn : Handler := fun c b _ s =>
  let w := bytesAt b 0 8
  let q := w % 2 ^ 16
  let isCq := w.testBit 16
  match s.judge c 0x0204 b (firstBad [(4096 ≤ q || 2 ^ 17 ≤ w, 0)]) (if isCq then (s.cq q).exists_ else (s.sq q).exists_) true true with
  | some t => (t, s)
  | none =>
    if isCq then
      let x := s.cq q
      let idle := x.balCount = 0 && s.viewCqDrain q = 0
      (doneOk (natLe 8 (s.rg .cqCfg q) ++ natLe 8 (s.rg .cqBase q) ++ natLe 8 (s.rg .cqTaddr q) ++ natLe 8 (s.rg .cqHaddr q)
        ++ natLe 8 (b2n x.en + b2n idle * 2 + x.balCount * 4)), s)
    else
      (doneOk (natLe 8 (s.rg .sqCfg q) ++ natLe 8 (s.rg .sqBase q) ++ natLe 8 (s.rg .sqChan q) ++ natLe 8 (s.rg .sqTaddr q)
        ++ natLe 8 (s.rg .sqHaddr q) ++ natLe 8 (b2n (s.sq q).en + b2n (s.sqIdle q) * 2)), s)

/-! ### Drive group (R99 to R101) -/

/-- Whether a drive is present at its link (R100, R372). -/
def State.drivePresent (s : State) (d : Nat) : Bool := s.linkPresent (d + 2) && s.bit .lnkStat 1 (d + 2)

/-- An entry of DRV_LIST. -/
def State.driveEntry (s : State) (d : Nat) : Nat :=
  if s.drivePresent d then
    let v := s.drive d
    let vendor := if v.attached then v.info.vendor.toNat else Config.driveVendor d s.clock % 2 ^ 16
    1 + b2n v.attached * 2 + s.fld .lnkStat 12 8 (d + 2) % 16 * 2 ^ 2 + s.fld .lnkStat 6 4 (d + 2) * 2 ^ 6
      + (if v.attached then v.info.granted else 0) % 512 * 2 ^ 10 + vendor * 2 ^ 32
  else 0

/-- DRV_LIST. -/
def drvListTurn : Handler := fun _ _ _ s => (doneOk ((List.range 8).flatMap (fun d => natLe 8 (s.driveEntry d))), s)

/-- The bytes from QBASE that an attach uses (R100). -/
def attachSpan (nqp qd : Nat) : Nat := 0x2000 + nqp * 2 ^ qd * 80

/-- An admin command's entry (R100, R101; fields PRESUMED from the NVMe specification, log entry 43): opcode, CID, PRP1, and the words
10 and 11. -/
def adminEntry (opc cid prp1 w10 w11 : Nat) : List Byte :=
  natLe 1 opc ++ natLe 1 0 ++ natLe 2 cid ++ natLe 20 0 ++ natLe 8 prp1 ++ natLe 8 0 ++ natLe 4 w10 ++ natLe 4 w11 ++ natLe 16 0

/-- An admin command of Snima's own goes through the admin queue and is completed. -/
def State.adminRuns (s : State) (d opc prp1 w10 w11 : Nat) : State :=
  let cid := (s.drive d).freeCid
  let t := s.putEntry d 0 (adminEntry opc cid prp1 w10 w11)
  let v := t.drive d
  (t.setDrive d { v with nextCid := (cid + 1) % 2 ^ 16 }).replyTaken d 0

/-- CC of a controller (R100, R101): EN, entry sizes of 64 and 16 bytes, and for a normal shutdown SHN 1. -/
def ccWord (en : Bool) (shn : Nat) : Nat := if en then 0x460001 + shn * 2 ^ 14 else 0

/-- Steps 1 to 3 of an attach (R100, R371): the drive's BAR lies at the start of the link's window, CC.EN is cleared, the admin queue pair
of 64 entries is set up and CC.EN is set. -/
def State.attachBegins (s : State) (d qbase : Nat) : State :=
  let t := s.setDrive d { drive0 with barBase := s.fld .bkpWin 47 32 (d + 2) * 2 ^ 32, qbase := qbase }
  ((((t.driveReg d 0x14 4 (ccWord false 0)).driveReg d 0x24 4 0x3F003F).driveReg d 0x28 8 qbase).driveReg d 0x30 8 (qbase + 0x1000)).driveReg
    d 0x14 4 (ccWord true 0)

/-- Whether a link's window holds no address, so that no BAR can be placed in it (R371, log entry 99). -/
def State.windowEmpty (s : State) (k : Nat) : Bool := decide (s.fld .bkpWin 15 0 k < s.fld .bkpWin 47 32 k)

/-- A queue pair of a drive is created (R100, R379): the completion queue with interrupts, and a vector of its own. -/
def State.pairCreated (s : State) (d q : Nat) : State :=
  let v := s.drive d
  let w := q + (v.slots - 1) * 2 ^ 16
  ((s.vectorSet d q).adminRuns d 5 (v.replyAddr q 0) w (3 + q * 2 ^ 16)).adminRuns d 1 (v.entryAddr q 0) w (1 + q * 2 ^ 16)

/-- Steps 4 and 5 of an attach (R100): Identify Controller, Set Features (Number of Queues), and the queue pairs granted. A link that is
down, or has been since the attach began, answers SN_HW_FAULT (R380). -/
def State.attached (s : State) (b : List Byte) (info : DriveInfo) : Turn × State :=
  let w := bytesAt b 0 8
  let d := w % 8
  if !s.linkUp (d + 2) || (s.drive d).qbase ≠ bytesAt b 8 8 then (fails snHwFault, s.setDrive d drive0)
  else
  let nqp := fieldOf 16 8 w
  let g := min info.granted nqp
  let t := s.setDrive d { s.drive d with info := info, qdLog2 := fieldOf 28 24 w }
  let t := ((t.vectorSet d 0).adminRuns d 6 (Config.identifyAt d t.clock) 1 0).adminRuns d 9 0 7 ((nqp - 1) * 0x10001)
  if g = 0 then (fails snHwFault, t.setDrive d drive0)
  else
    let t := (List.range g).foldl (fun t i => t.pairCreated d (i + 1)) t
    (doneOk (natLe 2 g ++ natLe 1 info.mdts ++ natLe 1 0 ++ natLe 4 info.lbaSizes.length
      ++ natLe 8 (attachSpan nqp (fieldOf 28 24 w))),
      t.setDrive d { t.drive d with attached := true, info := { info with granted := g }, scanAt := t.clock })

/-- DRV_ATTACH: `ans` is what the controller shows. -/
def drvAttachTurn (ans : DriveAnswer) : Handler := fun c b p s =>
  let w := bytesAt b 0 8
  let d := w % 8
  let nqp := fieldOf 16 8 w
  let qd := fieldOf 28 24 w
  let qb := bytesAt b 8 8
  match p, ans with
  | some _, .ready info => s.attached b info
  | some _, .fatal => (fails snHwFault, s.setDrive d drive0)
  | some q, .starting _ => (.runs q.deadline q.tag, s)
  | none, _ =>
    let bad := firstBad [
      (fieldOf 7 3 w ≠ 0 || nqp = 0 || 256 < nqp || fieldOf 23 17 w ≠ 0 || qd < 4 || 12 < qd || fieldOf 63 29 w ≠ 0, 0),
      (qb % 4096 ≠ 0 || 0x40000000 ≤ qb, 8)]
    match s.judge c 0x0801 b bad (s.drivePresent d) (!(s.drive d).attached) (s.inData qb (attachSpan nqp qd)) with
    | some t => (t, s)
    | none =>
      if s.windowEmpty (d + 2) then (fails snHwFault, s)
      else
        let t := s.attachBegins d qb
        match ans with
        | .starting capTo => (.runs (t.clock + capTo * second / 2) 0, t)
        | .ready info => t.attached b info
        | .fatal => (fails snHwFault, t.setDrive d drive0)

/-- Whether an NVME command to a drive is in progress (R101, R214). -/
def State.driveUsed (s : State) (d : Nat) : Bool :=
  s.chans.any (fun e => e.2.phase = .active && (e.2.stage = .drvRun || e.2.stage = .drvSlot)
    && (match e.2.drv with | some x => x.1 = d | none => false))

/-- DRV_DETACH (R101): the I/O queues are deleted, and CC.SHN asks for a normal shutdown. -/
def drvDetachTurn : Handler := fun c b _ s =>
  let w := bytesAt b 0 8
  match s.judge c 0x0802 b (firstBad [(8 ≤ w, 0)]) (s.drivePresent w) true true with
  | some t => (t, s)
  | none =>
    if s.driveUsed w then (fails snBusy, s)
    else if !(s.drive w).attached then (fails snState, s)
    else
      let t := (List.range (s.drive w).info.granted).foldl (fun t i =>
        (t.adminRuns w 0 0 (i + 1) 0).adminRuns w 4 0 (i + 1) 0) s
      (doneOk [], (t.driveReg w 0x14 4 (ccWord true 1)).setDrive w drive0)

/-- PRP1 and PRP2 of an admin command over DATA; the list, where there is one, is written behind the admin queues (log entry 43). -/
def adminPrp2 (d : Drive) (data len : Nat) : Nat :=
  if len ≤ 4096 then 0 else if len ≤ 8192 then data + 4096 else d.qbase + 0x1400

def State.adminList (s : State) (d : Drive) (data len : Nat) : State :=
  if len ≤ 8192 then s
  else s.mcWrite (d.qbase + 0x1400) ((List.range ((len + 4095) / 4096 - 1)).flatMap (fun i => natLe 8 (data + (i + 1) * 4096)))

/-- The admin opcodes that DRV_ADMIN refuses (R101). -/
def adminDenied (o : Nat) : Bool := o = 0 || o = 1 || o = 4 || o = 5 || o = 0xC

/-- The command identifier of an admin command is free again. -/
def State.adminFree (s : State) (d cid : Nat) : State :=
  let v := s.drive d
  s.setDrive d { v with cids := v.cids.filter (fun e => !(e.qp = 0 && e.cid = cid)) }

/-- The admin command goes to the drive (R101). -/
def State.adminIssue (s : State) (d : Nat) (b : List Byte) : Turn × State :=
  let v := s.drive d
  let data := bytesAt b 8 8
  let len := bytesAt b 0x10 4
  let cid := v.freeCid
  let img := (b.drop 0x18).take 64
  let t := s.adminList v data len
  let t := t.putEntry d 0 (img.take 2 ++ natLe 2 cid ++ (img.drop 4).take 20 ++ natLe 8 data ++ natLe 8 (adminPrp2 v data len)
    ++ img.drop 40)
  let v := t.drive d
  (.runs (s.clock + 30 * second) cid, t.setDrive d { v with nextCid := (cid + 1) % 2 ^ 16, cids := v.cids ++ [⟨cid, 0, 0x1000, false⟩] })

/-- DRV_ADMIN: `ans` is its progress at the drive. An opcode that is denied is judged after the fields and before the drive (R82, R101;
DESIGN CHOICE, log entry 118). -/
def drvAdminTurn (ans : AdminAnswer) : Handler := fun c b p s =>
  let w := bytesAt b 0 8
  match p, ans with
  | some q, .done dw0 status =>
    (if (s.drive w).attached then doneOk (natLe 4 dw0.toNat ++ natLe 2 status.toNat ++ natLe 2 0) else fails snHwFault, s.adminFree w q.tag)
  | some q, .issued => (.runs q.deadline q.tag, s)
  | none, _ =>
    let data := bytesAt b 8 8
    let len := bytesAt b 0x10 8
    let bad := firstBad [(8 ≤ w, 0), (data % 4096 ≠ 0 || 0x40000000 ≤ data, 8), (0x10000 < len, 0x10)]
    if bad.isNone && adminDenied (bytesAt b 0x18 1) then (fails snDenied, s)
    else match s.judge c 0x0803 b bad (s.drivePresent w) (s.drive w).attached true with
      | some t => (t, s)
      | none => s.adminIssue w b

/-- A drive command that has run past its deadline (R100, R101); an admin command is aborted. -/
def State.drvExpires (s : State) (c cmd : Nat) : State :=
  match (s.box c).busy with
  | some q =>
    if s.snimaUp ∧ s.running c = some cmd ∧ q.deadline ≤ s.clock then
      let d := bytesAt (bodyOf c q.msg) 0 1 % 8
      let t := if cmd = 0x0803 ∧ (s.drive d).attached then
          (s.putEntry d 0 (natLe 1 8 ++ natLe 39 0 ++ natLe 2 0 ++ natLe 2 q.tag ++ natLe 20 0)).adminFree d q.tag
        else if cmd = 0x0801 then s.setDrive d drive0
        else s
      t.finish c (ansErr snHwFault)
    else s
  | none => s

/-! ### Self-test and calibration group (R102, R103, R407) -/

/-- Whether a segment may be released (R102). -/
def State.segEligible (s : State) (g : Nat) : Bool :=
  s.inData (g * 0x1000000) 0x1000000
    || (64 - s.snima.layout.spare ≤ g && s.store.remap.all (fun e => 63 - e.1 / 4096 ≠ g))

/-- SEG_RELEASE; with a spare segment the last free spare pages may go, and lasting pages then stay in place (R286). What may not be
released is denied after SN_BUSY (DESIGN CHOICE, log entry 118). -/
def segReleaseTurn : Handler := fun c b _ s =>
  let g := bytesAt b 0 8
  match s.judge c 0x0700 b (firstBad [(64 ≤ g, 0)]) true true true with
  | some t => (t, s)
  | none =>
    if !s.segEligible g then (fails snDenied, s)
    else if s.fld .cstSeg 1 0 g ≠ 0 then (fails snState, s)
    else (doneOk [], (s.setFld .cstSeg 1 0 1 g).stayInPlace)

/-- SEG_RETURN. -/
def segReturnTurn : Handler := fun c b _ s =>
  let g := bytesAt b 0 8
  match s.judge c 0x0701 b (firstBad [(64 ≤ g, 0)]) true true true with
  | some t => (t, s)
  | none =>
    if s.fld .cstSeg 1 0 g = 2 then (fails snBusy, s)
    else if s.fld .cstSeg 1 0 g ≠ 1 then (fails snState, s)
    else (doneOk [], s.setFld .cstSeg 1 0 0 g)

/-- A store self-test ends: the segment is zero, and released again (R102). -/
def State.bistEnds (s : State) (g : Nat) : State :=
  let t := s.zeroPlaces (fun p => segOf p = g)
  { (t.setFld .cstSeg 1 0 1 g) with store := { t.store with scrubPos := tabSet 0 t.store.scrubPos g 0 } }

/-- STORE_BIST. -/
def storeBistTurn (ans : BistAnswer) : Handler := fun c b p s =>
  let g := bytesAt b 0 8
  match p, ans with
  | some _, .done pass ce fp => (doneOk (natLe 4 (b2n pass) ++ natLe 4 ce.toNat ++ natLe 4 fp.toNat ++ natLe 4 0), s.bistEnds g)
  | some q, .started => (.runs q.deadline q.tag, s)
  | none, _ =>
    match s.judge c 0x0702 b (firstBad [(64 ≤ g, 0)]) true true true with
    | some t => (t, s)
    | none =>
      if s.fld .cstSeg 1 0 g ≠ 1 then (fails snBusy, s)
      else (.runs (s.clock + second / 25) 0, s.setFld .cstSeg 1 0 2 g)

/-- A self-test whose request went with a restart of the management cores ends too. -/
def State.bistOrphan (s : State) : State :=
  match (List.range 64).find? (fun g => s.fld .cstSeg 1 0 g = 2
      && !s.mbx.any (fun e => match e.2.busy with | some q => msgCmd q.msg = 0x0702 && bytesAt (bodyOf e.1 q.msg) 0 8 = g | none => false)) with
  | some g => s.bistEnds g
  | none => s

/-- The channel that holds a unit of a class. -/
def State.unitUser (s : State) (cls n : Nat) : Option Nat :=
  if cls = 0 then tabGet none s.crypto.aes n else if cls = 1 then tabGet none s.crypto.sha n
  else if cls = 2 then tabGet none s.crypto.p521 n else none

/-- The units of a class (R401). -/
def unitCount (cls : Nat) : Nat := if cls = 0 then 32 else if cls = 1 then 8 else if cls = 2 then 4 else 1

/-- A known-answer test ends (R103): a unit that fails stays out of rotation, and is recorded; commands that waited for the DRBG go on once it
has passed. -/
def State.katEnds (s : State) (cls n : Nat) (pass : Bool) : State :=
  let t := { s with snima := { s.snima with kats := s.snima.kats.filter (fun k => !(k.1 = cls && k.2.1 = n)) } }
  if pass then (if cls = 3 then t.drbgResume else t)
  else
    let k := t.crypto
    let k := if cls = 0 then { k with aesOut := k.aesOut ++ [n] } else if cls = 1 then { k with shaOut := k.shaOut ++ [n] }
      else if cls = 2 then { k with p521Out := k.p521Out ++ [n] } else { k with drbgOut := true }
    ({ t with crypto := k }).fault mastMc 0x0D 0 (cls + n * 2 ^ 8) 0

/-- Whether a unit is out of rotation for good. -/
def State.unitOut (s : State) (cls n : Nat) : Bool :=
  if cls = 0 then n ∈ s.crypto.aesOut else if cls = 1 then n ∈ s.crypto.shaOut else if cls = 2 then n ∈ s.crypto.p521Out
  else s.crypto.drbgOut

/-- CRYPTO_KAT: the test waits for the command that its unit serves (R276). -/
def cryptoKatTurn (ans : KatAnswer) : Handler := fun c b p s =>
  let w := bytesAt b 0 8
  let cls := w % 4
  let n := fieldOf 12 8 w
  match p, ans with
  | some q, .done pass =>
    if (s.unitUser cls n).isSome then (.runs q.deadline q.tag, s) else (doneOk (natLe 8 (b2n pass)), s.katEnds cls n pass)
  | some q, .started => (.runs q.deadline q.tag, s)
  | none, _ =>
    match s.judge c 0x0703 b (firstBad [(fieldOf 7 2 w ≠ 0 || fieldOf 63 13 w ≠ 0 || unitCount cls ≤ n, 0)]) true true true with
    | some t => (t, s)
    | none =>
      if s.snima.kats.any (·.1 = cls) then (fails snBusy, s)
      else (.runs 0 0, { s with snima := { s.snima with kats := s.snima.kats ++ [(cls, n, some c)] } })

/-- CAL_STATUS. -/
def calStatusTurn : Handler := fun _ _ _ s =>
  (doneOk (natLe 8 (s.rg .anaLane 0) ++ natLe 8 (s.rg .anaLane 1) ++ natLe 8 (b2n s.tdcCurrent + b2n (s.bit .anaCal 4) * 2)), s)

/-- The TAMPER_IN pins that stand at the active level of an arming word: an open pin is pulled to it (R423). -/
def State.pinActive (s : State) (word k : Nat) : Bool :=
  match tabGet PinLevel.open_ s.ana.tamperIn k with
  | .open_ => true
  | .low => !word.testBit (16 + k)
  | .high => word.testBit (16 + k)

/-- A new arming word is in force: a pin that is not at its active level any longer does not detect (R407, R423). -/
def State.armingIs (s : State) (w : Nat) : State :=
  let still := (List.range 10).filter (fun k => s.ana.detecting.testBit k && (4 ≤ k || s.pinActive w k))
  { s with vault := { s.vault with armWord := w }, ana := { s.ana with detecting := (still.map (2 ^ ·)).sum } }

/-- TAMP_ARM (R407). -/
def tampArmTurn : Handler := fun c b _ s =>
  let w := bytesAt b 0 8
  let now := fieldOf 9 0 w &&& fieldOf 9 0 s.ana.detecting
  match s.judge c 0x0705 b (firstBad [(2 ^ 21 ≤ w || fieldOf 15 10 w ≠ 0, 0)]) true (now = 0) true with
  | some t => (t, s)
  | none => match s.vaultWrites armWords with
    | none => (fails snHwFault, s)
    | some t => (doneOk (natLe 8 w), t.armingIs w)

/-- A background test (R401): the next unit of the cycle, once a second; a unit out of rotation is skipped. -/
def bgUnit (i : Nat) : Nat × Nat := if i < 32 then (0, i) else if i < 40 then (1, i - 32) else if i < 44 then (2, i - 40) else (3, 0)

/-! ### BOOT_STAGED (R106) -/

/-- The ROM acts on BOOT_STAGED. An image that cannot be read is answered SN_HW_FAULT (DESIGN CHOICE, log entry 107). One whose header is
bad has FIELD 0, one whose length is not that of its header FIELD 8 (DESIGN CHOICE, log entry 117). -/
def State.bootStagedTurn (s : State) (b : List Byte) : Turn × State :=
  let a := bytesAt b 0 8
  let n := bytesAt b 8 8
  if a % 4096 ≠ 0 ∨ 0x40000000 ≤ a then (badField 0, s)
  else if n < 516 ∨ 0x400000 < n ∨ 0x40000000 < a + n then (badField 8, s)
  else match s.mcRead a n with
    | (none, t) => (fails snHwFault, t)
    | (some img, t) =>
      let r := t.imageCheck img
      if r = 3 ∨ r = 4 then (fails snSigBad, t)
      else if r ≠ 0 then (badField 0, t)
      else if n ≠ 512 + imgBody img then (badField 8, t)
      else (.answer (ansOk []) (.start (imgVersion img) (imgSvn img) (imgMeas img)), t)

/-- BOOT_STAGED, whose payload is taken as two whole words (LEN 16; DESIGN CHOICE, log entry 106). -/
def State.bootStaged (s : State) : State :=
  if s.fld .gctlBoot 2 0 = 3 ∧ ¬ s.locked then
    match s.takeMsg 0 (· = 0x05FF) with
    | none => s
    | some (q, t) =>
      if msgEpoch q.msg ≠ t.epoch 0 false then t.staleMsg 0 q
      else match t.gate 0 0 true (lenIs 16) q.msg with
        | (.shut rc field mac drop, t) => t.answer 0 q ⟨⟨rc, field, []⟩, mac, drop, .nothing⟩
        | (.pass drop, t) =>
          let (turn, t) := t.bootStagedTurn (bodyOf 0 q.msg)
          t.endTurn 0 q true drop turn
  else s

/-! ### Answers and notes that waited -/

/-- A FLEET_NOTE goes out on its channel (R359). -/
def State.postNote (s : State) : State :=
  let c := s.fld .fnzCfg 20 16
  match s.fenuz.notes with
  | (a, node) :: r =>
    if s.snimaUp ∧ (s.box c).outFifo.length < 64 then
      let t := { s with fenuz := { s.fenuz with notes := r } }
      t.snimaPost c (t.sealMsg c 0x06F0 (Config.noteSeq t.clock % 2 ^ 16) 0 true (natLe 8 a ++ natLe 8 node))
    else s
  | [] => s

/-- SNIMA_RESPONSE_POSTED: a response that waited goes out, and where none waits a note. -/
def State.responsePosted (s : State) (c : Nat) : State :=
  let b := s.box c
  match b.respWait, b.busy with
  | some p, some q =>
    if (s.snimaUp ∨ (c = 0 ∧ s.fld .gctlBoot 2 0 = 3 ∧ ¬ s.locked)) ∧ b.outFifo.length < 64 then s.sendAnswer c q.msg none p else s
  | _, _ => if s.fld .fnzCfg 20 16 = c then s.postNote else s

/-! ### The rows -/

/-- SNIMA_RESPONSE_POSTED (R83). -/
def execSnimaResponsePosted (c : Fin 32) (s : State) : Result := live s (·.responsePosted c)
/-- DEV_INFO (R90). -/
def execDevInfo (c : Fin 32) (s : State) : Result := live s (·.snimaAct c 0x0000 0 (lenIs 0) devInfoTurn)
/-- DEV_HEALTH (R90). -/
def execDevHealth (c : Fin 32) (s : State) : Result := live s (·.snimaAct c 0x0001 0 (lenIs 0) devHealthTurn)
/-- OPER_NONCE (R89). -/
def execOperNonce (c : Fin 32) (s : State) : Result := live s (·.snimaAct c 0x0002 2 (lenIs 0) operNonceTurn)
/-- OPER_OPEN (R89, R118). -/
def execOperOpen (c : Fin 32) (s : State) : Result := live s (·.snimaAct c 0x0003 2 (lenIs 203) operOpenTurn)
/-- OPER_CLOSE (R88): the key goes after the response. -/
def execOperClose (c : Fin 32) (s : State) : Result :=
  live s (fun s => s.snimaAct c 0x0004 1 (lenIs 0) (fun _ _ _ t => (.answer (ansOk []) .dropKey, t)))
/-- DEV_RESTART (R90, R128). -/
def execDevRestart (c : Fin 32) (s : State) : Result := live s (·.snimaAct c 0x0005 1 (lenIs 8) devRestartTurn)
/-- LAYOUT_GET (R93). -/
def execLayoutGet (c : Fin 32) (s : State) : Result := live s (·.snimaAct c 0x0100 0 (lenIs 0) layoutGetTurn)
/-- LAYOUT_SET (R94). -/
def execLayoutSet (c : Fin 32) (s : State) : Result := liveM s (·.snimaAct c 0x0101 1 (lenIs 8) layoutSetTurn)
/-- CQ_CREATE (R95, R97). -/
def execCqCreate (c : Fin 32) (s : State) : Result := live s (·.snimaAct c 0x0200 1 (lenIs 32) cqCreateTurn)
/-- SQ_CREATE (R96, R97). -/
def execSqCreate (c : Fin 32) (s : State) : Result := live s (·.snimaAct c 0x0201 1 (lenIs 40) sqCreateTurn)
/-- SQ_DELETE (R98). -/
def execSqDelete (c : Fin 32) (s : State) : Result := live s (·.snimaAct c 0x0202 1 (lenIs 8) sqDeleteTurn)
/-- CQ_DELETE (R98). -/
def execCqDelete (c : Fin 32) (s : State) : Result := live s (·.snimaAct c 0x0203 1 (lenIs 8) cqDeleteTurn)
/-- Q_QUERY (R98). -/
def execQQuery (c : Fin 32) (s : State) : Result := live s (·.snimaAct c 0x0204 0 (lenIs 8) qQueryTurn)
/-- DRV_LIST (R99). -/
def execDrvList (c : Fin 32) (s : State) : Result := live s (·.snimaAct c 0x0800 0 (lenIs 0) drvListTurn)
/-- DRV_ATTACH (R100). -/
def execDrvAttach (c : Fin 32) (ans : DriveAnswer) (s : State) : Result := liveM s (·.snimaAct c 0x0801 1 (lenIs 16) (drvAttachTurn ans))
/-- DRIVE_READY_TIMEOUT (R100). -/
def execDriveReadyTimeout (c : Fin 32) (now : Nat) (s : State) : Result := liveMAt s now (·.drvExpires c 0x0801)
/-- DRV_DETACH (R101). -/
def execDrvDetach (c : Fin 32) (s : State) : Result := liveM s (·.snimaAct c 0x0802 1 (lenIs 8) drvDetachTurn)
/-- DRV_ADMIN (R101). -/
def execDrvAdmin (c : Fin 32) (ans : AdminAnswer) (s : State) : Result := liveM s (·.snimaAct c 0x0803 1 (lenIs 88) (drvAdminTurn ans))
/-- DRV_ADMIN_TIMEOUT (R101). -/
def execDrvAdminTimeout (c : Fin 32) (now : Nat) (s : State) : Result := liveMAt s now (·.drvExpires c 0x0803)
/-- SEG_RELEASE (R102). -/
def execSegRelease (c : Fin 32) (s : State) : Result := live s (·.snimaAct c 0x0700 1 (lenIs 8) segReleaseTurn)
/-- SEG_RETURN (R102). -/
def execSegReturn (c : Fin 32) (s : State) : Result := live s (·.snimaAct c 0x0701 1 (lenIs 8) segReturnTurn)

/-- STORE_BIST (R102). -/
def execStoreBist (c : Fin 32) (ans : BistAnswer) (s : State) : Result :=
  live s (fun s =>
    match ans with
    | .started => s.snimaAct c 0x0702 1 (lenIs 8) (storeBistTurn ans)
    | .done .. => if s.snimaUp && s.running c = some 0x0702 then s.snimaAct c 0x0702 1 (lenIs 8) (storeBistTurn ans) else s.bistOrphan)

/-- CRYPTO_KAT (R103). -/
def execCryptoKat (c : Fin 32) (ans : KatAnswer) (s : State) : Result := liveC s (·.snimaAct c 0x0703 1 (lenIs 8) (cryptoKatTurn ans))
/-- CAL_STATUS (R102). -/
def execCalStatus (c : Fin 32) (s : State) : Result := live s (·.snimaAct c 0x0704 0 (lenIs 0) calStatusTurn)
/-- TAMP_ARM (R407). -/
def execTampArm (c : Fin 32) (s : State) : Result := live s (·.snimaAct c 0x0705 1 (lenIs 8) tampArmTurn)
/-- BOOT_STAGED (R106). -/
def execBootStaged (s : State) : Result := liveM s (·.bootStaged)
/-- BOOT_IMAGE_LOADED (R105, R107). -/
def execBootImageLoaded (readOk : Bool) (s : State) : Result := live s (·.imageLoaded readOk)

/-- The CMDs that Snima knows (R90 to R103, R119, R124, R127, R360, R407). -/
def cmdKnown (n : Nat) : Bool :=
  n ≤ 5 || (0x100 ≤ n && n ≤ 0x101) || (0x200 ≤ n && n ≤ 0x204) || (0x300 ≤ n && n ≤ 0x30B) || (0x400 ≤ n && n ≤ 0x401)
    || (0x500 ≤ n && n ≤ 0x504) || (0x600 ≤ n && n ≤ 0x608) || (0x700 ≤ n && n ≤ 0x705) || (0x800 ≤ n && n ≤ 0x803)

/-- A message whose CMD is not defined (R82); in WAIT_MBX the ROM's SN_STATE (R106). -/
def State.undefinedCmd (s : State) (c : Nat) : State :=
  if s.snimaUp then
    match s.takeMsg c (fun n => !cmdKnown n) with
    | none => s
    | some (q, t) =>
      if msgEpoch q.msg ≠ t.epoch c false then t.staleMsg c q
      else match t.gate c 0 false (fun _ => true) q.msg with
        | (.shut rc field mac drop, t) => t.answer c q ⟨⟨rc, field, []⟩, mac, drop, .nothing⟩
        | (.pass _, t) => t
  else s.romAnswers c (fun n => !cmdKnown n)

/-- UNDEFINED_SNIMA_COMMAND (R82, R106). -/
def execUndefinedSnimaCommand (c : Fin 32) (s : State) : Result := live s (·.undefinedCmd c)

/-- Whether a second has passed since the last background test began (R401). -/
def State.bgKatDue (s : State) : Bool := match s.snima.lastBgKat with | some t => usPassed t s.clock 1000000 | none => true

/-- BACKGROUND_KAT (R401): the next test of the cycle starts, and ends with `ans` once its unit is free. -/
def State.bgKat (s : State) (ans : KatAnswer) : State :=
  if !s.snimaUp then s
  else match ans, s.snima.kats.find? (fun k => k.2.2 = none) with
    | .started, none =>
      match ((List.range 45).map (fun i => (s.snima.nextBgKat + i) % 45)).find? (fun i => !s.unitOut (bgUnit i).1 (bgUnit i).2) with
      | none => s
      | some i =>
        if s.snima.kats.any (·.1 = (bgUnit i).1) || !s.bgKatDue then s
        else { s with snima := { s.snima with kats := s.snima.kats ++ [((bgUnit i).1, (bgUnit i).2, none)], nextBgKat := (i + 1) % 45
                                              lastBgKat := some s.clock } }
    | .done pass, some k => if (s.unitUser k.1 k.2.1).isSome then s else s.katEnds k.1 k.2.1 pass
    | _, _ => s

/-- BACKGROUND_KAT (R401). -/
def execBackgroundKat (ans : KatAnswer) (now : Nat) (s : State) : Result := liveCAt s now (·.bgKat ans)

end Sys2Proof.Machine
end

