-- ==== Sys2Proof/Machine/FnzRows.lean ====
section
/-! DEFINITION. Fenuz frames as they arrive and the unit's periods (R347 to R359). -/

namespace Sys2Proof.Machine

/-! ### Reception (R347, R349, R355, R357) -/

/-- A frame is dropped and counted. -/
def State.fnzDrop (s : State) (p : Nat) : State := s.addFld .fnzPort 63 48 1 p

/-- Whether a frame's FLEET_ID lets it pass: the part's own; HELLO and the frames of a join carry another (log entry 60). -/
def State.fleetFits (s : State) (h : Header) : Bool :=
  let mine := s.vault.member && h.fleet = s.vault.fleetId
  let atJoiner := match s.fenuz.join with
    | some j => !s.vault.member && h.dst = j.node && h.src = j.peer && h.xid = j.xid
    | none => false
  if h.kind = 2 && h.sub = 1 then s.vault.member && h.dst = s.vault.node && h.fleet = 0
  else if h.kind = 2 && h.sub = 2 then atJoiner && h.fleet = 0
  else if h.kind = 2 && h.sub = 3 then
    mine || (s.vault.member && s.fenuz.sponsoring.any (fun j => j.peer = h.src && j.xid = h.xid) && h.dst = s.vault.node && h.fleet = 0)
  else if h.kind = 2 && h.sub = 4 then mine || atJoiner
  else mine

/-- A frame goes on out of the other port, but for its TTL unchanged: from its sender's address to its receiver's (R346, R349). -/
def State.fnzForward (s : State) (p : Nat) (b : List Byte) : State :=
  let h := headerOf b
  if h.kind = 1 ∨ h.ttl ≤ 1 then s
  else s.fnzPut (1 - p) (etherFrame (unicastAddr h.dst) (unicastAddr h.src) (b.take 2 ++ natLe 1 (h.ttl - 1) ++ b.drop 3))

/-- A frame arrives on a port: it is dropped, or shows a duplicate NODE, or goes on, or is acted on. -/
def State.fnzReceive (s : State) (p : Nat) (f : Frame) (act : Header → List Byte → State → State) : State :=
  let h := headerOf f.bytes
  if !s.bit .fnzPort 0 p then s
  else if !frameGood f || !s.fleetFits h || (s.locked && h.kind ≠ 1) then s.fnzDrop p
  else if s.vault.member && h.src = s.vault.node then (s.setBit .fnzStat 56 true).setBit .fnzPort 1 true p
  else if h.kind = 1 && h.sub = 3 then (if h.dst = 0x3FFFF then act h (frameBody f.bytes) s else s)
  else if h.dst ≠ s.fnzNode then s.fnzForward p f.bytes
  else act h (frameBody f.bytes) s

/-- The subtypes that answer a relay request (R348). -/
def isRelayReply (kind sub : Nat) : Bool := (kind = 2 && sub = 6) || (kind = 3 && sub = 2) || (kind = 4 && sub = 2)

/-- A frame that a row is for: of another subtype the row does nothing with it. Snima acts on the frames of ATTEST, MBOX and SESSION,
so while it does not run nothing comes of them (log entry 63), but that a stale reply is recorded (R337, R359). -/
def State.fnzRow (s : State) (p : Nat) (f : Frame) (kind sub : Nat) (act : Header → List Byte → State → State) : State :=
  s.fnzReceive p f (fun h b t =>
    if h.kind = kind ∧ h.sub = sub ∧ (kind = 1 ∨ isRelayReply kind sub ∨ t.snimaUp) then act h b t else t)

/-! ### The time tree (R350 to R353) -/

/-- The greatest ALIGN of the part's subtree, its own included. -/
def State.subtreeAlign (s : State) : Nat := s.fenuz.childs.foldl (fun m e => max m e.2.2) s.alignNow

/-- A SYNC_REQ is answered (R351): 64 children are served on each port. Its stamps are corrected by the port's measured delays, and one
whose stamp falls inside the measurement gets no answer: the child's next exchange comes after it (R400, log entry 113). -/
def State.syncServed (s : State) (p t2 t3 : Nat) (h : Header) (b : List Byte) : State :=
  if s.inMeasure p t2 || s.inMeasure p t3 then s
  else
  let l := s.fenuz.childs
  let known := l.any (fun e => e.1 = p && e.2.1 = h.src)
  let refuse := !known && 64 ≤ (l.filter (fun e => e.1 = p)).length
  let t := if refuse then s
    else { s with fenuz := { s.fenuz with childs := l.filter (fun e => !(e.1 = p && e.2.1 = h.src)) ++ [(p, h.src, bytesAt b 4 4)] } }
  let t := if t.bit .timeStat 8 then t.setFld .fnzGm 63 32 (t.fenuz.childs.foldl (fun m e => max m e.2.2) 0) else t
  t.fnzSend p 1 2 h.xid h.src (natLe 8 ((t2 - s.rxDelay p) % 2 ^ 64) ++ natLe 8 ((t3 + s.txDelay p) % 2 ^ 64) ++ natLe 4 t.alignNow
    ++ natLe 4 (b2n refuse + t.fld .timeStat 19 16 * 2 ^ 4))

/-- The greatest distance between some offsets. -/
def spreadOf (l : List Int) : Nat :=
  match l with
  | [] => 0
  | x :: r => (r.foldl max x - r.foldl min x).toNat

/-- A signed value in `n` bits, or what a register shows for one that does not fit (R351, log entry 5). -/
def shownInt (n : Nat) (v : Int) : Nat :=
  if -(2 ^ (n - 1)) ≤ v ∧ v < 2 ^ (n - 1) then (v % 2 ^ n).toNat else Config.wideShown v % 2 ^ n
def shownNat (n : Nat) (v : Int) : Nat := if 0 ≤ v ∧ v < 2 ^ n then v.toNat else Config.wideShown v % 2 ^ n

/-- HOPB (R352) over the last offsets: bounded by 5 where the hop is calibrated, its path is of constant latency and 16 exchanges agree
within 2. -/
def State.hopBound (s : State) (p : Nat) (l : List Int) : Nat :=
  let cal := match tabGet none s.fenuz.lastCal p with | some t => !usPassed t s.clock 20000000 | none => false
  if cal && Config.pathConstant p && l.length = 16 && spreadOf l ≤ 2 then Config.hopBound s.clock else min 0xFFFF (30 + spreadOf l)

/-- The join step (R353): the one step that may go back. -/
def State.joinStep (s : State) (ofs : Int) : State :=
  let m := s.time
  let t := { s with time := { m with joinStepDue := false, stampNode := s.vault.node, slew := 0 } }
  t.timeStep 1 ((s.time.now : Int) - ofs).toNat

/-- What an exchange does to Time (R353). `old` is STATE as the exchange found it. -/
def State.exchangeActs (s : State) (old : Nat) (ofs : Int) : State :=
  if s.time.joinStepDue then s.joinStep ofs
  else if (old = 0 ∨ old = 1) ∧ (second : Int) < -ofs * 1000 then
    ({ s with time := { s.time with slew := 0 } }).timeStep 2 ((s.time.now : Int) - ofs).toNat
  else { s with time := { s.time with slew := -ofs } }

/-- An exchange that completes disciplines the time core where the exchange is its reference. -/
def State.disciplined (s : State) (ofs : Int) (align hopb : Nat) : State :=
  let old := s.timeState
  let t := s.refReturns
  let near := ofs.natAbs * 1000000 ≤ 2 * second
  let t := { t with time := { t.time with lockRun := if near then t.time.lockRun + 1 else 0 } }
  let t := (t.exchangeActs old ofs).refLocks
  t.setFld .timeUnc 63 32 (satAdd 0xFFFFFFFF (satAdd 0xFFFFFFFF align hopb) (if t.timeState = 1 then ofs.natAbs else 0))

/-- The parent does not serve, or is lost: the part chooses again (R350, R351). -/
def State.loseParent (s : State) : State :=
  let p := s.fld .fnzStat 33 32
  let n := s.fld .fnzStat 53 36
  ({ s with fenuz := { s.fenuz with heard := s.fenuz.heard.filter (fun (h : Heard) => !(h.port + 1 = p && h.src = n)), exch := none } }).chooseParent

/-- An exchange completes (R351, R352); one whose delay would be negative, as where t2 and t3 lie across a step of the parent's Time,
counts for nothing (R361). -/
def State.exchangeDone (s : State) (p t1 t2 t3 t4 align : Nat) : State :=
  let asym := sext 16 (s.fld .fnzPort 47 32 p)
  let fwd : Int := (t2 : Int) - t1
  let rev : Int := (t4 : Int) - t3
  let ofs := Int.tdiv (rev - fwd - asym) 2
  let delay := Int.tdiv (fwd + rev) 2
  if fwd + rev < 0 then s
  else
    let l := (s.time.recentOfs ++ [ofs]).drop (s.time.recentOfs.length + 1 - 16)
    let hopb := s.hopBound p l
    let t := ((s.setFld .timeOfs 31 0 (shownInt 32 ofs)).setFld .fnzDelay 31 0 (shownNat 32 delay) p).setFld .fnzPort 31 16 hopb p
    let t := { t with time := { t.time with recentOfs := l } }
    if t.refSel = 2 then t.disciplined ofs align hopb else t

/-- A SYNC_RSP arrives at Time `t4`: it counts where it answers the exchange in flight, unless t2 or t3 lies `across` a TIME_STEP of
the GM (R361); where it arrives inside the port's measurement, the exchange is begun anew after that (R400). -/
def State.syncAnswered (s : State) (p t4 : Nat) (across : Bool) (h : Header) (b : List Byte) : State :=
  match s.fenuz.exch with
  | none => s
  | some (t1, xid) =>
    if h.xid = xid ∧ s.fld .fnzStat 33 32 = p + 1 ∧ s.fld .fnzStat 53 36 = h.src then
      let t := { s with fenuz := { s.fenuz with exch := none } }
      if s.inMeasure p t4 then { t with fenuz := { t.fenuz with lastSync := none } }
      else if (bytesAt b 0x14 1).testBit 0 then t.loseParent
      else if across then t
      else t.exchangeDone p t1 (extendTime t4 (bytesAt b 0 8)) (extendTime t4 (bytesAt b 8 8)) (t4 - s.rxDelay p) (bytesAt b 0x10 4)
    else s

/-- An ANNOUNCE is heard (R350). -/
def State.announceHeard (s : State) (p : Nat) (h : Header) (b : List Byte) : State :=
  let x : Heard := ⟨p, bytesAt b 3 1, bytesAt b 0 4 % 2 ^ 18, h.src, bytesAt b 4 1 % 16, bytesAt b 8 4, s.clock⟩
  let l := s.fenuz.heard.filter (fun (e : Heard) => !(e.port = p && e.src = h.src))
  let g := s.fenuz.gms.filter (fun e => !(e.1 = x.prio && e.2.1 = x.gm) && !usPassed e.2.2 s.clock heardUs) ++ [(x.prio, x.gm, s.clock)]
  let t := ({ s with fenuz := { s.fenuz with heard := l ++ [x], gms := g, falignSeen := true } }).chooseParent
  if t.bit .timeStat 8 then t else t.setFld .fnzGm 63 32 x.falign

/-- An ANNOUNCE goes out on every port whose link is up (R350). -/
def State.announces (s : State) : State :=
  let gm : Option (Nat × Nat × Nat) := if s.bit .timeStat 8 then some (s.fnzPrio, s.vault.node, 0)
    else (bestHeard s.heardNow).map (fun (h : Heard) => (h.prio, h.gm, s.fld .timeStat 19 16))
  let due := match s.fenuz.lastAnn with | some t => usPassed t s.clock announceUs | none => true
  match gm with
  | some (prio, node, hops) =>
    if s.vault.member && due then
      let body := natLe 4 (node % 2 ^ 18 + prio % 2 ^ 8 * 2 ^ 24) ++ natLe 4 (hops % 16) ++ natLe 4 (s.fld .fnzGm 63 32)
      let b := frameBytes 1 3 (Config.announceTtl s.clock % 2 ^ 8) (Config.announceXid s.clock % 2 ^ 16) s.vault.node 0x3FFFF s.vault.fleetId body
      let t := { s with fenuz := { s.fenuz with lastAnn := some s.clock } }
      (t.fnzOut 0 announceAddr b).fnzOut 1 announceAddr b
    else s
  | none => s

/-- A child starts an exchange with its parent (R351), once its port measures no delays (R400). -/
def State.syncStarts (s : State) : State :=
  let pp := s.fld .fnzStat 33 32
  let due := match s.fenuz.lastSync with | some t => usPassed t s.clock syncUs | none => true
  if s.vault.member && pp ≠ 0 && due && !s.measuring (pp - 1) then
    let (xid, t) := s.newXid
    let t := { t with fenuz := { t.fenuz with lastSync := some t.clock, exch := some (t.time.now + t.txDelay (pp - 1), xid) } }
    t.fnzSend (pp - 1) 1 1 xid (t.fld .fnzStat 53 36) (natLe 4 t.alignNow ++ natLe 4 t.subtreeAlign)
  else s

/-- A parent heard from in no ANNOUNCE for 375 ms is lost (R350). -/
def State.parentLoss (s : State) : State :=
  let p := s.fld .fnzStat 33 32
  let n := s.fld .fnzStat 53 36
  if s.vault.member && p ≠ 0 && !s.fenuz.heard.any (fun h => h.port + 1 = p && h.src = n && !usPassed h.at_ s.clock heardUs) then s.loseParent
  else s

/-- A part that may be grandmaster and has heard no better one for 375 ms announces itself (R350): whatever became since of what it
heard. -/
def State.gmSilence (s : State) : State :=
  let better := s.fenuz.gms.any (fun e => !usPassed e.2.2 s.clock heardUs && e.2.1 ≠ s.vault.node && betterGm e.1 e.2.1 s.fnzPrio s.vault.node)
  if s.vault.member && s.fnzPrio ≠ 0xFF && !better then s.becomeGm else s

/-! ### Joining (R354, R355) -/

/-- A join that the sponsor refuses: CHALLENGE or GRANT with two bytes (log entry 60). -/
def State.refuseJoin (s : State) (p sub : Nat) (h : Header) (rc : Nat) : State := s.fnzSend p 2 sub h.xid h.src (natLe 2 rc)

/-- The joiner's join ends without effect. -/
def State.joinFails (s : State) (c rc : Nat) : State := ({ s with fenuz := { s.fenuz with join := none } }).finish c (ansErr rc)

/-- A report's bytes that are signed, and whether it is over a nonce and verifies under a DIK point (R123). -/
def reportGood (point nonce r : List Byte) : Bool := (r.drop 0xA0).take 32 = nonce && sigGood point (r.take 0xE0) (r.drop 0xE0)

/-- KJ (R354). -/
def joinKey (e point nonce : List Byte) (node : Nat) : List Byte := 
  Algo.hkdf (Algo.ecdh e point) nonce (Algo.ascii ['f', 'n', 'z', '-', 'j', 'o', 'i', 'n'] ++ natLe 4 node) 32

/-- HELLO at a sponsor. -/
def State.helloHeard (s : State) (p : Nat) (h : Header) (b : List Byte) : State :=
  let dikp := b.take 67
  let pt := (b.drop 67).take 67
  match s.fenuz.admissions.find? (fun a => a.node = h.src && s.clock < a.until_) with
  | none => s.refuseJoin p 2 h snDenied
  | some a =>
    if Algo.hash 3 dikp ≠ a.hash || !Algo.pointOk dikp || !Algo.pointOk pt then s.refuseJoin p 2 h snSigBad
    else if !s.drbgReady 0 || !s.signReady then s.refuseJoin p 2 h snHwFault
    else
      let (e, t) := s.drawScalar 0
      let (nonce, t) := t.draw 0 32
      let (r, t) := t.report nonce
      let j : Join := ⟨0, h.src, h.src, 0, a.hash, e, pt, dikp, nonce, joinKey e pt nonce h.src, h.xid, p, 3, t.clock⟩
      let t := { t with fenuz := { t.fenuz with admissions := t.fenuz.admissions.erase a, sponsoring := t.fenuz.sponsoring ++ [j] } }
      t.fnzSend p 2 2 h.xid h.src (dikPoint ++ Algo.publicPoint e ++ nonce ++ r)

/-- CHALLENGE at the joiner. -/
def State.challengeHeard (s : State) (p : Nat) (b : List Byte) : State :=
  match s.fenuz.join with
  | none => s
  | some j =>
    if j.step ≠ 1 then s
    else if b.length = 2 then s.joinFails j.chan (bytesAt b 0 2)
    else
      let dikp := b.take 67
      let pt := (b.drop 67).take 67
      let nonce := (b.drop 134).take 32
      if Algo.hash 3 dikp ≠ j.hash || !Algo.pointOk dikp || !Algo.pointOk pt || !reportGood dikp nonce (b.drop 166) then
        s.joinFails j.chan snSigBad
      else if !s.signReady then s.joinFails j.chan snHwFault
      else
        let (r, t) := s.report nonce
        let (sig, t) := t.dikSign (Algo.publicPoint j.eph ++ pt ++ nonce)
        let j := { j with peerEph := pt, peerDik := dikp, nonce := nonce, kj := joinKey j.eph pt nonce j.node, step := 2, at_ := t.clock }
        ({ t with fenuz := { t.fenuz with join := some j } }).fnzSend p 2 3 j.xid j.peer (r ++ sig)

/-- PROOF at the sponsor. -/
def State.proofHeard (s : State) (p : Nat) (h : Header) (b : List Byte) : State :=
  match s.fenuz.sponsoring.find? (fun j => j.peer = h.src && j.xid = h.xid) with
  | none => s
  | some j =>
    let r := b.take 356
    let t := { s with fenuz := { s.fenuz with sponsoring := s.fenuz.sponsoring.erase j } }
    if !reportGood j.peerDik j.nonce r || !sigGood j.peerDik (j.peerEph ++ Algo.publicPoint j.eph ++ j.nonce) (b.drop 356)
        || bytesAt r 0x1C 4 < minSvn s.vault.bootRecord then t.refuseJoin p 4 h snSigBad
    else match t.vault.frk with
      | none => t.refuseJoin p 4 h snHwFault
      | some k =>
        if t.vaultBad fleetWords then t.refuseJoin p 4 h snHwFault
        else t.fnzSend p 2 4 h.xid h.src (natLe 8 t.vault.fleetId ++ Algo.kwpWrap j.kj k)

/-- GRANT at the joiner: FRK, FLEET_ID and NODE go into the vault, and the exchange with the fleet becomes the reference. -/
def State.grantHeard (s : State) (b : List Byte) : State :=
  match s.fenuz.join with
  | none => s
  | some j =>
    if j.step ≠ 2 then s
    else if b.length = 2 then s.joinFails j.chan (bytesAt b 0 2)
    else match Algo.kwpUnwrap j.kj (b.drop 8) with
      | none => s.joinFails j.chan snSigBad
      | some frk =>
        if frk.length ≠ 32 then s.joinFails j.chan snSigBad
        else match s.vaultWrites fleetWords with
          | none => s.joinFails j.chan snHwFault
          | some t =>
            let t := t.enterFleet j.node j.prio (bytesAt b 0 8) frk
            let t := { t with fenuz := { t.fenuz with join := none }, time := { t.time with joinStepDue := true } }
            let old := t.rg .timeCtl
            ((t.setFld .timeCtl 5 4 2).timeCtlActs old).finish j.chan (ansOk (b.take 8))

/-- A step of a join has been missing for 1 s (R355). -/
def State.joinTimeout (s : State) : State :=
  let late := fun (j : Join) => usPassed j.at_ s.clock 1000000
  let t := { s with fenuz := { s.fenuz with sponsoring := s.fenuz.sponsoring.filter (fun j => !late j) } }
  match t.fenuz.join with
  | some j => if late j then t.joinFails j.chan snNotFound else t
  | none => t

/-- An admission lapses (R354). -/
def State.admissionLapses (s : State) (node : Nat) : State :=
  { s with fenuz := { s.fenuz with admissions := s.fenuz.admissions.filter (fun (a : Admission) => !(a.node = node && a.until_ ≤ s.clock)) } }

/-! ### Relays (R358, R359) -/

/-- A relay reply arrives: it is for the request with its XID, or stale (R359), also while Snima does not run. -/
def State.relayReplied (s : State) (p : Nat) (h : Header) (k : RelayKind) (act : Relay → State → State) : State :=
  match s.fenuz.relays.find? (fun r => r.xid = h.xid && r.node = h.src && r.kind = k) with
  | none => s
  | some r =>
    let t := { s with fenuz := { s.fenuz with relays := s.fenuz.relays.erase r } }
    if r.dead then t.staleRecord (0x78 + p) 3 0xFFF r.node r.addr else if s.snimaUp then act r t else s

/-- A relayed write by a port, through requester 71; refused outside the data buffers region. -/
def State.relayWrite (s : State) (p node a : Nat) (d : List Byte) : Bool × State :=
  if s.inData a d.length then (true, s.otherWrite (0x78 + p) 71 a d)
  else (false, s.fault (0x78 + p) 0x11 p (node % 2 ^ 18 + 2 * 2 ^ 18) a)

/-- ATT_REQ is answered with a report over its nonce. -/
def State.attRequested (s : State) (p : Nat) (h : Header) (b : List Byte) : State :=
  if s.signReady then
    let (r, t) := s.report b
    t.fnzSend p 2 6 h.xid h.src (b ++ r)
  else s

/-- A report arrives and is written at ADDR. -/
def State.reportArrives (s : State) (p : Nat) (h : Header) (b : List Byte) : State :=
  s.relayReplied p h .attest (fun r t => match t.relayWrite p r.node r.addr (b.drop 32) with
    | (true, t) => t.finish r.chan (ansOk (natLe 8 356))
    | (false, t) => t.finish r.chan (ansField 8))

/-- A relayed message waits in turn with the messages of its channel's inbound FIFO. -/
def State.mbxRequested (s : State) (p : Nat) (h : Header) (b : List Byte) : State :=
  let c := msgChn b
  if c < 32 then
    let x := s.box c
    s.setBox c { x with relayed := x.relayed ++ [⟨b, x.inFifo.length, ⟨h.xid, h.src, p⟩⟩] }
  else s

/-- MBX_RSP supplies the results of MBX_RELAY. -/
def State.mbxReplied (s : State) (p : Nat) (h : Header) (b : List Byte) : State :=
  s.relayReplied p h .mbox (fun r t => t.finish r.chan (ansOk b))

/-- REC: the record is written, its sender answered, and a FLEET_NOTE posted. -/
def State.recArrives (s : State) (p : Nat) (h : Header) (b : List Byte) : State :=
  let a := bytesAt b 0 8
  match s.relayWrite p h.src a (b.drop 8) with
  | (true, t) =>
    let t := t.fnzSend p 4 2 h.xid h.src (natLe 2 snOk)
    ({ t with fenuz := { t.fenuz with notes := t.fenuz.notes ++ [(a, h.src)] } }).postNote
  | (false, t) => t.fnzSend p 4 2 h.xid h.src (natLe 2 snBadField)

/-- REC_ACK completes REC_SEND. -/
def State.recAcked (s : State) (p : Nat) (h : Header) (b : List Byte) : State :=
  let rc := bytesAt b 0 2
  s.relayReplied p h .record (fun r t => t.finish r.chan (if rc = snOk then ansOk [] else if rc = snBadField then ansField 8 else ansErr rc))

/-- A relay request has had no reply for 1 s (R359). -/
def State.relayExpires (s : State) (xid : Nat) : State :=
  match s.fenuz.relays.find? (fun r => r.xid = xid && !r.dead && usPassed r.at_ s.clock 1000000) with
  | none => s
  | some r =>
    ({ s with fenuz := { s.fenuz with relays := s.fenuz.relays.map (fun (x : Relay) => if x = r then { x with dead := true } else x) } }).finish
      r.chan (ansErr snNotFound)

/-- Whether a port is to measure its delays: at each link-up, and 10 s after the last time (R400). -/
def State.calIsDue (s : State) (p : Nat) : Bool :=
  s.bit .fnzPort 0 p && (decide (p ∈ s.fenuz.calDue) ||
    match tabGet none s.fenuz.lastCal p with | some t => usPassed t s.clock 10000000 | none => true)

/-- A loopback measurement (R400): what it finds corrects the port's stamp points, and the port sends nothing until it is over. -/
def State.loopbackRuns (s : State) (p : Nat) (m : Loopback) : State :=
  if s.calIsDue p then
    { s with fenuz := { s.fenuz with lastCal := tabSet none s.fenuz.lastCal p (some s.clock), calDue := s.fenuz.calDue.filter (· ≠ p)
                                     calUntil := tabSet 0 s.fenuz.calUntil p (s.clock + calLength)
                                     delays := tabSet (0, 0) s.fenuz.delays p (m.tx, m.rx) } }
  else s

/-! ### The rows -/

/-- SYNC_REQ (R351). -/
def execSyncReq (p : Fin 2) (f : Frame) (t2 t3 : Nat) (s : State) : Result :=
  liveAt s t3 (·.fnzRow p f 1 1 (fun h b t => t.syncServed p t2 t3 h b))
/-- SYNC_RSP (R351 to R353): the join step alone may take Time back. -/
def execSyncRsp (p : Fin 2) (f : Frame) (t4 : ExchangeEnd) (s : State) : Result :=
  .next (if s.power.coldReset then s else aside s (((s.pass t4.time).fnzRow p f 1 2 (fun h b t => t.syncAnswered p t4.time t4.across h b)).afterwards))
/-- ANNOUNCE (R350). -/
def execAnnounce (p : Fin 2) (f : Frame) (now : Nat) (s : State) : Result :=
  liveAt s now (·.fnzRow p f 1 3 (fun h b t => t.announceHeard p h b))
/-- ANNOUNCE_PERIOD (R350). -/
def execAnnouncePeriod (now : Nat) (s : State) : Result := liveAt s now (·.announces)
/-- SYNC_PERIOD (R351). -/
def execSyncPeriod (now : Nat) (s : State) : Result := liveAt s now (·.syncStarts)
/-- PARENT_LOSS (R350). -/
def execParentLoss (now : Nat) (s : State) : Result := liveAt s now (·.parentLoss)
/-- GM_SILENCE (R350). -/
def execGmSilence (now : Nat) (s : State) : Result := liveAt s now (·.gmSilence)
/-- HELLO (R354, R355). -/
def execHello (p : Fin 2) (f : Frame) (s : State) : Result := live s (·.fnzRow p f 2 1 (fun h b t => t.helloHeard p h b))
/-- CHALLENGE (R354, R355). -/
def execChallenge (p : Fin 2) (f : Frame) (s : State) : Result := live s (·.fnzRow p f 2 2 (fun _ b t => t.challengeHeard p b))
/-- PROOF (R354, R355). -/
def execProof (p : Fin 2) (f : Frame) (s : State) : Result := live s (·.fnzRow p f 2 3 (fun h b t => t.proofHeard p h b))
/-- GRANT (R354, R355). -/
def execGrant (p : Fin 2) (f : Frame) (s : State) : Result := live s (·.fnzRow p f 2 4 (fun _ b t => t.grantHeard b))
/-- JOIN_STEP_TIMEOUT (R355). -/
def execJoinStepTimeout (now : Nat) (s : State) : Result := liveAt s now (unlocked (·.joinTimeout))
/-- ADMISSION_LAPSE (R354). -/
def execAdmissionLapse (node : BitVec 18) (now : Nat) (s : State) : Result := liveAt s now (·.admissionLapses node.toNat)
/-- ATT_REQ (R348). -/
def execAttReq (p : Fin 2) (f : Frame) (s : State) : Result := live s (·.fnzRow p f 2 5 (fun h b t => t.attRequested p h b))
/-- ATT_RSP (R359). -/
def execAttRsp (p : Fin 2) (f : Frame) (s : State) : Result := liveM s (·.fnzRow p f 2 6 (fun h b t => t.reportArrives p h b))
/-- MBX_REQ (R358). -/
def execMbxReq (p : Fin 2) (f : Frame) (s : State) : Result := live s (·.fnzRow p f 3 1 (fun h b t => t.mbxRequested p h b))
/-- MBX_RSP (R358). -/
def execMbxRsp (p : Fin 2) (f : Frame) (s : State) : Result := live s (·.fnzRow p f 3 2 (fun h b t => t.mbxReplied p h b))
/-- REC (R359). -/
def execRecRecv (p : Fin 2) (f : Frame) (s : State) : Result := liveM s (·.fnzRow p f 4 1 (fun h b t => t.recArrives p h b))
/-- REC_ACK (R348). -/
def execRecAck (p : Fin 2) (f : Frame) (s : State) : Result := live s (·.fnzRow p f 4 2 (fun h b t => t.recAcked p h b))
/-- RELAY_TIMEOUT (R359). -/
def execRelayTimeout (xid : BitVec 16) (now : Nat) (s : State) : Result := liveAt s now (unlocked (·.relayExpires xid.toNat))
/-- FRAME_FORWARD (R349). -/
def execFrameForward (p : Fin 2) (f : Frame) (s : State) : Result := live s (·.fnzReceive p f (fun _ _ t => t))
/-- FNZ_LOOPBACK_CAL (R400). -/
def execFnzLoopbackCal (p : Fin 2) (meas : Loopback) (s : State) : Result := liveAt s meas.time (·.loopbackRuns p meas)

end Sys2Proof.Machine
end

