-- ==== Sys2Proof/Machine/RegRows.lean ====
section
/-! DEFINITION. The commands that read or write one register: each performs its access as R54 to R58 say, and the register does
the rest (`State.readReg`, `State.writeReg`). An operand's data stand in their place in the register, so a high half is
bits [63:32]. -/

namespace Sys2Proof.Machine

/-- A register is read by a master, and the master gets the bits covered. -/
def State.regRead (s : State) (m : BitVec 8) (r : Reg) (acc : Acc) : State :=
  let (v, t) := s.readReg m.toNat r acc
  t.reply (accBytes acc v)

/-- REGISTER_WRITE (R6, R55): of the register at an offset, or of its high half, 4 bytes further on, by either's offset; an offset that is
not aligned so is refused (R54, R56). -/
def execRegisterWrite (m : BitVec 8) (off : Nat) (acc : Acc) (data : BitVec 64) (s : State) : Result :=
  liveC s (fun s =>
    if acc = .hi ∧ off % 4 = 0 then s.spaceWrite m.toNat (0x1000000000 + off / 8 * 8 + 4) acc data.toNat
    else if off % 8 = 0 then s.spaceWrite m.toNat (0x1000000000 + off) acc data.toNat
    else s.unmapped m.toNat (0x1000000000 + off) true)

/-- Whether a master is a channel processor or a mover (R10). -/
def engineMaster (m : Nat) : Bool := (1 ≤ m && m ≤ 0x10) || (0x20 ≤ m && m < 0x60)

/-- Whether nothing answers an access: outside the map or refused by R54, and whether it is an unmapped offset (R56). -/
def refusedAt (a n : Nat) : Bool :=
  match placeOf a with
  | .store => false
  | .outside => true
  | _ => (accOf a n).isNone

def unmappedAt (a : Nat) : Bool :=
  match placeOf (a / 8 * 8) with
  | .regs off => (regAt? off).isNone
  | .chime off => (chimeAt? off).isNone
  | _ => false

/-- What an access that R54 or R47 refuses does to the mover or channel processor that makes it (R56, R186, R249): the mover's ACTIVE
transfer in zone 0, or the channel whose command read or record write it is, has its bus error; of one that the state shows nothing of
there is the record alone, in direct mode's form. -/
def State.engineRefused (s : State) (m a : Nat) (write : Bool) : State :=
  let f := failWith 5 (if write then 0x21 else 0x20) 0 (if write then 2 else 1) (if write then a else a / 64 * 64) 0
  let alone := s.fault m 0x05 0xFFF (busArg f false) a
  if s.locked then alone
  else if 0x20 ≤ m then
    match (s.mover (m - 0x20)).active with
    | some t =>
      if (if write then t.zd else t.zs) = 0 then
        (s.failNow (m - 0x20) { f with off := t.offOf (min t.total (a - (if write then t.dst else t.src))) }).work (m - 0x20)
      else alone
    | none => alone
  else match s.chans.find? (fun e => cpDomain e.1 = m && (if write then e.2.cpWrites && e.2.head.cmd.zd = 0
      else e.2.phase = .fetch && s.progZone e.1 = 0 && s.rg .chnCur e.1 / 64 = a / 64)) with
    | some (c, ch) => if write then s.cpError c { f with addr := ch.head.cmd.dst } false else s.fetchFails c { f with fetch := true }
    | none => alone

/-- UNMAPPED_ACCESS (R56). -/
def execUnmappedAccess (m : BitVec 8) (addr : BitVec 64) (len : Nat) (write : Bool) (s : State) : Result :=
  liveC s (fun s =>
    let a := addr.toNat
    let back := if write then [] else ones len
    if refusedAt a len then
      if engineMaster m.toNat then
        { (s.engineRefused m.toNat a write) with bus := ⟨[], false, some 5⟩ }
      else (s.unmapped m.toNat a write).reply back
    else if unmappedAt a then (s.unmapped m.toNat a write).reply back
    else s)

/-- TIME_NOW_LO_READ (R36). -/
def execTimeNowLoRead (m : BitVec 8) (acc : Acc) (s : State) : Result := live s (·.regRead m ⟨.timeNowLo, 0, 0⟩ acc)
/-- TIME_CTL_WRITE (R32). -/
def execTimeCtlWrite (m : BitVec 8) (acc : Acc) (data : BitVec 64) (s : State) : Result :=
  live s (·.writeReg m.toNat ⟨.timeCtl, 0, 0⟩ acc data.toNat)
/-- LOG_LOST_READ (R6). -/
def execLogLostRead (m : BitVec 8) (acc : Acc) (s : State) : Result := live s (·.regRead m ⟨.logLost, 0, 0⟩ acc)
/-- LCK_SEM_READ (R58). -/
def execLckSemRead (m : BitVec 8) (n : Fin 256) (acc : Acc) (s : State) : Result := live s (·.regRead m ⟨.lckSem, n, 0⟩ acc)
/-- LCK_SEM_WRITE (R58). -/
def execLckSemWrite (m : BitVec 8) (n : Fin 256) (acc : Acc) (data : BitVec 64) (s : State) : Result :=
  live s (·.writeReg m.toNat ⟨.lckSem, n, 0⟩ acc data.toNat)

/-- MBX_IN_POST (R67). -/
def execMbxInPost (m : BitVec 8) (c : Fin 32) (acc : Acc) (s : State) : Result := live s (·.regRead m ⟨.mbxInPost, c, 0⟩ acc)
/-- MBX_OUT_POST (R67). -/
def execMbxOutPost (m : BitVec 8) (c : Fin 32) (acc : Acc) (s : State) : Result := live s (·.regRead m ⟨.mbxOutPost, c, 0⟩ acc)
/-- MBX_IN_POP (R70). -/
def execMbxInPop (m : BitVec 8) (c : Fin 32) (s : State) : Result := live s (·.writeReg m.toNat ⟨.mbxInPop, c, 0⟩ .lo 1)
/-- MBX_OUT_POP (R70). -/
def execMbxOutPop (m : BitVec 8) (c : Fin 32) (s : State) : Result := live s (·.writeReg m.toNat ⟨.mbxOutPop, c, 0⟩ .lo 1)

/-- A write of one bit of a mailbox's MBX_CTL that leaves PORT as it is. -/
def State.mbxCtlBit (s : State) (m : BitVec 8) (c b : Nat) : State :=
  s.writeReg m.toNat ⟨.mbxCtl, c, 0⟩ .lo (putField 11 10 (fieldOf 11 10 (s.view ⟨.mbxCtl, c, 0⟩)) (2 ^ b))

/-- FLUSH_IN (R72). -/
def execFlushIn (m : BitVec 8) (c : Fin 32) (s : State) : Result := live s (·.mbxCtlBit m c 0)
/-- FLUSH_OUT (R72). -/
def execFlushOut (m : BitVec 8) (c : Fin 32) (s : State) : Result := live s (·.mbxCtlBit m c 1)
/-- BUMP_IN (R68). -/
def execBumpIn (m : BitVec 8) (c : Fin 32) (s : State) : Result := live s (·.mbxCtlBit m c 8)
/-- BUMP_OUT (R68). -/
def execBumpOut (m : BitVec 8) (c : Fin 32) (s : State) : Result := live s (·.mbxCtlBit m c 9)
/-- MBX_STALE_CLEAR (R73). -/
def execMbxStaleClear (m : BitVec 8) (c : Fin 32) (s : State) : Result :=
  live s (·.writeReg m.toNat ⟨.mbxStat, c, 0⟩ .hi (2 ^ 48))
/-- MBX_RTO_WRITE (R73). -/
def execMbxRtoWrite (m : BitVec 8) (c : Fin 32) (acc : Acc) (data : BitVec 64) (s : State) : Result :=
  live s (·.writeReg m.toNat ⟨.mbxRto, c, 0⟩ acc data.toNat)
/-- MBX_READ_TIMEOUT (R73). -/
def execMbxReadTimeout (c : Fin 32) (now : Nat) (s : State) : Result := liveAt s now (·.readTimeout c)

/-- CHM_SQ (R138, R145). -/
def execChmSq (_m : BitVec 8) (q : Fin 4096) (acc : Acc) (s : State) : Result := live s (·.chimeWrite q false acc 0)
/-- CHM_CQ (R138, R139). -/
def execChmCq (_m : BitVec 8) (q : Fin 4096) (acc : Acc) (data : BitVec 64) (s : State) : Result :=
  live s (·.chimeWrite q true acc data.toNat)
/-- SQ_ENABLE (R140, R156). -/
def execSqEnable (m : BitVec 8) (q : Fin 4096) (s : State) : Result := live s (·.writeReg m.toNat ⟨.sqCtl, q, 0⟩ .lo 1)
/-- SQ_DISABLE (R156, R157). -/
def execSqDisable (m : BitVec 8) (q : Fin 4096) (s : State) : Result := live s (·.writeReg m.toNat ⟨.sqCtl, q, 0⟩ .lo 0)
/-- CQ_ENABLE (R153). -/
def execCqEnable (m : BitVec 8) (q : Fin 4096) (s : State) : Result := live s (·.writeReg m.toNat ⟨.cqCtl, q, 0⟩ .lo 1)
/-- CQ_DISABLE (R153). -/
def execCqDisable (m : BitVec 8) (q : Fin 4096) (s : State) : Result := live s (·.writeReg m.toNat ⟨.cqCtl, q, 0⟩ .lo 0)

/-- CHN_STOP (R183). -/
def execChnStop (m : BitVec 8) (ch : Fin 4096) (s : State) : Result := liveC s (·.writeReg m.toNat ⟨.chnCtl, ch, 0⟩ .lo 1)
/-- CHN_RESUME (R184, R185). -/
def execChnResume (m : BitVec 8) (ch : Fin 4096) (s : State) : Result := liveC s (·.writeReg m.toNat ⟨.chnCtl, ch, 0⟩ .lo 2)
/-- REL_RETRY (R187). -/
def execRelRetry (m : BitVec 8) (ch : Fin 4096) (s : State) : Result := liveC s (·.writeReg m.toNat ⟨.chnCtl, ch, 0⟩ .lo 0x10)
/-- REL_SKIP_ON (R187): `rd` is the read of a chain's last member over a link. -/
def execRelSkipOn (_m : BitVec 8) (ch : Fin 4096) (rd : ReadResult) (s : State) : Result := freeC s (·.relSkip ch rd)
/-- REL_ABORT (R187). -/
def execRelAbort (m : BitVec 8) (ch : Fin 4096) (s : State) : Result := liveC s (·.writeReg m.toNat ⟨.chnCtl, ch, 0⟩ .lo 0x30)

/-- MOV_GO (R233). -/
def execMovGo (m : BitVec 8) (mv : Fin 64) (s : State) : Result := liveC s (·.writeReg m.toNat ⟨.movCtl, mv, 0⟩ .lo 1)
/-- MOV_CANCEL (R254). -/
def execMovCancel (m : BitVec 8) (mv : Fin 64) (s : State) : Result := liveC s (·.writeReg m.toNat ⟨.movCtl, mv, 0⟩ .lo 2)
/-- MOV_DROP_SH (R235). -/
def execMovDropSh (m : BitVec 8) (mv : Fin 64) (s : State) : Result := liveC s (·.writeReg m.toNat ⟨.movCtl, mv, 0⟩ .lo 4)
/-- MOV_REL_RETRY (R252). -/
def execMovRelRetry (m : BitVec 8) (mv : Fin 64) (s : State) : Result := liveC s (·.writeReg m.toNat ⟨.movCtl, mv, 0⟩ .lo 0x10)
/-- MOV_REL_ABORT (R252). -/
def execMovRelAbort (m : BitVec 8) (mv : Fin 64) (s : State) : Result := liveC s (·.writeReg m.toNat ⟨.movCtl, mv, 0⟩ .lo 0x30)
/-- MOV_CFG_WRITE (R230). -/
def execMovCfgWrite (m : BitVec 8) (mv : Fin 64) (acc : Acc) (data : BitVec 64) (s : State) : Result :=
  live s (·.writeReg m.toNat ⟨.movCfg, mv, 0⟩ acc data.toNat)
/-- MOV_MODE_CHANGE (R230). -/
def execMovModeChange (mv : Fin 64) (s : State) : Result := live s (unlocked (·.modeChange mv))

/-- ARB_COMMIT (R291). -/
def execArbCommit (m : BitVec 8) (s : State) : Result := live s (·.writeReg m.toNat ⟨.arbCommit, 0, 0⟩ .lo 1)
/-- ARB_TETHER_READ (R6). -/
def execArbTetherRead (m : BitVec 8) (n : Fin 72) (acc : Acc) (s : State) : Result := live s (·.regRead m ⟨.arbTether, n, 0⟩ acc)
/-- CAR_FIRE (R304). -/
def execCarFire (m : BitVec 8) (chn : Fin 256) (s : State) : Result := liveC s (·.writeReg m.toNat ⟨.carFire, 0, 0⟩ .lo chn)
/-- CAR_MERGE_CNT_READ (R6). -/
def execCarMergeCntRead (m : BitVec 8) (acc : Acc) (s : State) : Result := live s (·.regRead m ⟨.carMergeCnt, 0, 0⟩ acc)

/-- IRC_MC_EOI (R319). -/
def execIrcMcEoi (m : BitVec 8) (core : Fin 4) (src : Fin 1024) (s : State) : Result :=
  live s (·.writeReg m.toNat ⟨.ircMcEoi, core, 0⟩ .lo src)
/-- IRC_VCOMP (R321). -/
def execIrcVcomp (m : BitVec 8) (port : Fin 2) (vec : Fin 8192) (s : State) : Result :=
  live s (·.writeReg m.toNat ⟨.ircVcomp, port, vec⟩ .full 0)
/-- IRC_SRC_WRITE (R324). -/
def execIrcSrcWrite (m : BitVec 8) (n : Fin 1024) (acc : Acc) (data : BitVec 64) (s : State) : Result :=
  live s (·.writeReg m.toNat ⟨.ircSrc, n, 0⟩ acc data.toNat)
/-- IRC_DAMP_READ (R6, R323). -/
def execIrcDampRead (m : BitVec 8) (g : Fin 64) (acc : Acc) (s : State) : Result := live s (·.regRead m ⟨.ircDamp, g, 0⟩ acc)

/-- FLT_ERR_POP (R329). -/
def execFltErrPop (m : BitVec 8) (s : State) : Result := live s (·.writeReg m.toNat ⟨.fltErrPop, 0, 0⟩ .lo 1)
/-- FLT_ERR_LOST_READ (R6). -/
def execFltErrLostRead (m : BitVec 8) (acc : Acc) (s : State) : Result := live s (·.regRead m ⟨.fltErrLost, 0, 0⟩ acc)
/-- FLT_STALE_READ (R6). -/
def execFltStaleRead (m : BitVec 8) (acc : Acc) (s : State) : Result := live s (·.regRead m ⟨.fltStale, 0, 0⟩ acc)
/-- FLT_TMO_CNT_READ (R6). -/
def execFltTmoCntRead (m : BitVec 8) (acc : Acc) (s : State) : Result := live s (·.regRead m ⟨.fltTmoCnt, 0, 0⟩ acc)
/-- GCTL_LOCK_FORCE (R338, R339). -/
def execGctlLockForce (m : BitVec 8) (s : State) : Result := live s (·.writeReg m.toNat ⟨.gctlLock, 0, 0⟩ .lo 4)
/-- LOCKDOWN_QUIESCED (R339). -/
def execLockdownQuiesced (s : State) : Result := live s (·.lockQuiesced)

/-- FNZ_PORT_READ (R6). -/
def execFnzPortRead (m : BitVec 8) (p : Fin 2) (acc : Acc) (s : State) : Result := live s (·.regRead m ⟨.fnzPort, p, 0⟩ acc)
/-- LNK_RETRAIN (R364): of back-end link `k`. -/
def execLnkRetrain (m : BitVec 8) (k : Fin 8) (s : State) : Result :=
  liveC s (fun s => s.writeReg m.toNat ⟨.lnkCtl, k + 2, 0⟩ .lo (putField 4 4 1 (s.view ⟨.lnkCtl, k + 2, 0⟩)))
/-- LNK_BIF_WRITE (R370). -/
def execLnkBifWrite (m : BitVec 8) (port : Fin 4) (split : Bool) (s : State) : Result :=
  liveC s (fun s =>
    let r : Reg := ⟨.lnkCtl, 2 + 2 * port, 0⟩
    s.writeReg m.toNat r .lo (putField 8 8 (b2n split) (s.view r)))
/-- LNK_DISABLE_WRITE (R370). -/
def execLnkDisableWrite (m : BitVec 8) (k : Fin 8) (disable : Bool) (s : State) : Result :=
  liveC s (fun s =>
    let r : Reg := ⟨.lnkCtl, k + 2, 0⟩
    s.writeReg m.toNat r .lo (putField 9 9 (b2n disable) (s.view r)))
/-- LNK_EVT_READ (R6). -/
def execLnkEvtRead (m : BitVec 8) (k : Fin 10) (acc : Acc) (s : State) : Result := live s (·.regRead m ⟨.lnkEvt, k, 0⟩ acc)
/-- BKP_IRQ (R379). -/
def execBkpIrq (m : BitVec 8) (drv : Fin 8) (data : BitVec 64) (s : State) : Result :=
  live s (·.writeReg m.toNat ⟨.bkpIrq, drv + 2, 0⟩ .full data.toNat)
/-- GCTL_RST_WARM (R388, R389). -/
def execGctlRstWarm (m : BitVec 8) (s : State) : Result := live s (·.writeReg m.toNat ⟨.gctlRst, 0, 0⟩ .lo 1)

/-- PWR_VREQ_WRITE (R394). -/
def execPwrVreqWrite (m : BitVec 8) (acc : Acc) (data : BitVec 64) (s : State) : Result :=
  live s (·.writeReg m.toNat ⟨.pwrVreq, 0, 0⟩ acc data.toNat)
/-- PWR_VRM_WRITE (R394). -/
def execPwrVrmWrite (m : BitVec 8) (acc : Acc) (data : BitVec 64) (s : State) : Result :=
  live s (·.writeReg m.toNat ⟨.pwrVrm, 0, 0⟩ acc data.toNat)
/-- PWR_LANE_WRITE (R397). -/
def execPwrLaneWrite (m : BitVec 8) (acc : Acc) (data : BitVec 64) (s : State) : Result :=
  liveC s (·.writeReg m.toNat ⟨.pwrLane, 0, 0⟩ acc data.toNat)
/-- ANA_PACE_READ (R6). -/
def execAnaPaceRead (m : BitVec 8) (i : Fin 16) (acc : Acc) (s : State) : Result := live s (·.regRead m ⟨.anaPace, i, 0⟩ acc)
/-- GPIO_CFG_WRITE (R424). -/
def execGpioCfgWrite (m : BitVec 8) (k : Fin 16) (acc : Acc) (data : BitVec 64) (s : State) : Result :=
  live s (·.writeReg m.toNat ⟨.gpioCfg, k, 0⟩ acc data.toNat)

/-- LOG_FLUSH (R44): `cut` says that half of a record had arrived. -/
def execLogFlush (_m : BitVec 8) (cut : Bool) (s : State) : Result := live s (·.logFlushAll cut)

/-! ### Inbound requests (R48, R49, R54, R288, R369) -/

/-- The zone-0 address of an inbound request. -/
def targetAddr : MemTarget → Nat
  | .bar i off =>
    if i = 0 then 0x1000000000 + off.toNat % 0x4000000
    else if i = 1 then off.toNat % 0x40000000
    else 0x1004000000 + off.toNat % 0x1000000
  | .zone0 a => a.toNat

/-- Whether a master may send a request to a target: a host by its BARs, a drive or a Fenuz relay by the zone-0 address (R48, R49). -/
def mayReach (m : Nat) : MemTarget → Bool
  | .bar _ _ => m = 0x70 || m = 0x71
  | .zone0 _ => 0x74 ≤ m && m ≤ 0x79

/-- An inbound request that the part does not support is answered Unsupported Request, and has no effect (R363); a host endpoint
notes it in its AER register (bit PRESUMED from the PCIe Base Specification, log entry 98). -/
def State.unsupported (s : State) (m : Nat) : State :=
  let t := { s with bus := ⟨[], false, some 1⟩ }
  if m = 0x70 ∨ m = 0x71 then t.setPort (m % 16) { t.port (m % 16) with aer := putField 20 20 1 (t.port (m % 16)).aer } else t

/-- A read of the Central Store cut at aligned 512-byte boundaries, carried by requester 71 (R288). -/
def State.inRead (s : State) (m a n : Nat) : Nat → List Byte × Bool × State
  | 0 => ([], false, s)
  | fuel + 1 =>
    if n = 0 then ([], false, s)
    else
      let k := min n (blockLeft a)
      let (d, p, t) := s.otherRead m 71 a k
      let (e, p', u) := t.inRead m (a + k) (n - k) fuel
      (d ++ e, p || p', u)

/-- Bytes of one aligned 512-byte block written where their enables say; of a poisoned write every word touched becomes
uncorrectable (R369). -/
def State.inBlock (s : State) (m a : Nat) (w : List (Nat × Byte)) (poisoned : Bool) : State :=
  match placeOf a with
  | .store =>
    if s.underTest a then s
    else
      let t := s.storeWrite 71 w m
      if poisoned then
        (wordsOf (w.map (fun e => t.phys e.1))).foldl (fun t x =>
          let v : WordState := match tabGet .sound t.store.words x with | .poisoned k => .poisoned k | _ => .poisoned 255
          { t with store := { t.store with words := tabSet .sound t.store.words x v } }) t
      else t
  | _ => s.unmapped m a true

/-- A write of the Central Store cut at aligned 512-byte boundaries. -/
def State.inWrite (s : State) (m a : Nat) (d : List Byte) (be : List Bool) (poisoned : Bool) : Nat → State
  | 0 => s
  | fuel + 1 =>
    if d = [] then s
    else
      let k := min d.length (blockLeft a)
      let w := ((List.range k).filter (fun i => (be[i]?).getD true)).map (fun i => (a + i, (d[i]?).getD 0))
      (s.inBlock m a w poisoned).inWrite m (a + k) (d.drop k) (be.drop k) poisoned fuel

/-- INBOUND_MEMORY_REQUEST: the byte enables of a read matter in the register space and the Chime window alone (R54). -/
def State.inbound (s : State) (m : Nat) : MemRequest → State
  | .unsupported => s.unsupported m
  | .read tg n be =>
    let a := targetAddr tg
    if !mayReach m tg then s.unsupported m
    else match placeOf a with
    | .store =>
      let (d, p, t) := s.inRead m a n (n + 1)
      { t with bus := ⟨d, p, none⟩ }
    | _ =>
      if be.any (!·) then (s.unmapped m a false).reply (ones n)
      else
        let (d, p, t) := s.otherRead m 71 a n
        { t with bus := ⟨d, p, none⟩ }
  | .write tg d be poisoned =>
    let a := targetAddr tg
    if !mayReach m tg then s.unsupported m
    else match placeOf a with
    | .store => s.inWrite m a d be poisoned (d.length + 1)
    | _ => if poisoned || be.any (!·) then s.unmapped m a true else s.otherWrite m 71 a d

/-- INBOUND_MEMORY_REQUEST (R48, R49, R288, R369). -/
def execInboundMemoryRequest (m : BitVec 8) (req : MemRequest) (s : State) : Result :=
  liveC s (·.inbound m.toNat req)

end Sys2Proof.Machine
end

