-- ==== Sys2Proof/Machine/AnaRows.lean ====
section
/-! DEFINITION. The commands of the analogue core (R398, R399, R403 to R405), of tamper detection (R406 to R411), the DRBG's reseeding
(R271) and the vault's scrub (R413). -/

namespace Sys2Proof.Machine

/-- The link of a SerDes lane (R398). -/
def State.laneLink (s : State) (n : Nat) : Nat :=
  if n < 32 then n / 16
  else if n < 64 then
    let p := (n - 32) / 8
    if s.bifurcated p && 4 ≤ (n - 32) % 8 then 3 + 2 * p else 2 + 2 * p
  else n - 54

/-- Whether a link is in L0 (R374). -/
def State.inL0 (s : State) (k : Nat) : Bool :=
  if k < 10 then s.fld .lnkStat 19 16 k = 3 else s.bit .fnzPort 0 (k - 10)

/-- LANE_PATH_SWAP (R398): the paths of a lane exchange roles, and a completed adaptation after its link entered L0 shows. -/
def execLanePathSwap (lane : Fin 66) (adapted : Bool) (now : Nat) (s : State) : Result :=
  liveAt s now (fun s =>
    let n := lane.val
    let t := { s with ana := { s.ana with laneRole := tabSet false s.ana.laneRole n (!tabGet false s.ana.laneRole n) } }
    if adapted && t.inL0 (t.laneLink n) then t.setBit .anaLane (n % 64) true (n / 64) else t)

/-- TDC_ROLE_SWAP (R399): the converter that was being calibrated has completed, and the two of the stamp point exchange roles. -/
def execTdcRoleSwap (dom : Fin 128) (now : Nat) (s : State) : Result :=
  liveAt s now (fun s =>
    let d := dom.val
    let r := tabGet false s.ana.tdcRole d
    { s with ana := { s.ana with tdcRole := tabSet false s.ana.tdcRole d (!r)
                                 tdcCal := tabSet none s.ana.tdcCal (2 * d + b2n (!r)) (some s.clock) } })

/-! ### Entropy and the DRBG -/

/-- An instance is seeded anew. -/
def State.reseed (s : State) (i : Nat) : State :=
  { s with crypto := { s.crypto with drbg := tabSet drbg0 s.crypto.drbg i (s.seeding i) } }

/-- DRBG_RESEED (R271): due after 2^16 requests, 1 s, or a loss of the seed; from entropy that passes its tests. -/
def execDrbgReseed (inst : Fin 6) (now : Nat) (s : State) : Result :=
  liveCAt s now (fun s =>
    let d := tabGet drbg0 s.crypto.drbg inst
    if s.bit .anaCal 4 && (!d.seeded || 2 ^ 16 ≤ d.requests || usPassed d.seedTime s.clock 1000000) then (s.reseed inst).drbgResume
    else s)

/-- A health test of the entropy source fails (R272, R404). -/
def State.entropyFails (s : State) (test : Nat) : State :=
  if test = 0 ∨ s.bit .anaCal 5 then s
  else
    let t := s.fault 0x7F 0x0E 0 test 0
    let t := (t.setBit .anaCal 4 false).addFld .anaCal 47 40 1
    let dead := 16 ≤ t.fld .anaCal 47 40
    let t := t.setBit .anaCal 5 dead
    let drbg := (t.crypto.drbg.map (fun e => (e.1, { e.2 with seeded := false }))).filter (fun e => e.2 ≠ drbg0)
    { t with ana := { t.ana with startupRuns := !dead }, crypto := { t.crypto with drbg := drbg } }

/-- Whether 41 consecutive bits are equal: test 1 of R403. `n` bits equal to `b` come just before. -/
def repeated (b : Bool) (n : Nat) : List Bool → Bool
  | [] => false
  | x :: r => if x = b then 41 ≤ n + 1 || repeated b (n + 1) r else repeated x 1 r

/-- Whether a window's first value occurs 795 times or more in it: test 2 of R403. -/
def disproportionate (w : List Bool) : Bool := 795 ≤ (w.filter (· = w.headD false)).length

/-- The number of the test that raw bits, from the start of a window on, or their rate fail, 0 for none (R403): while the start-up test
runs, a failure of test 1 or 2 is that of test 3. -/
def State.testFailed (s : State) (raw : RawBits) : Nat :=
  match raw with
  | .slow n => if n < 32 then 4 else 0
  | .bits l =>
    let n := if repeated false 0 l then 1
      else if (List.range (l.length / 1024 + 1)).any (fun i => disproportionate ((l.drop (1024 * i)).take 1024)) then 2 else 0
    if n ≠ 0 ∧ s.ana.startupRuns then 3 else n

/-- ENTROPY_HEALTH_FAIL (R403, R404). -/
def execEntropyHealthFail (raw : RawBits) (s : State) : Result := live s (fun s => s.entropyFails (s.testFailed raw))

/-- A root key that tamper erased is drawn anew, and MC0 starts from ROM (R409). -/
def State.redraw (s : State) : State :=
  if s.power.romDue then
    let v := s.vault
    let t := { s with vault := { v with drk := some (v.drkDraws + 1), drkDraws := v.drkDraws + 1, erased := false, drkNew := true } }
    t.romStart (decide (t.fld .gctlRst 11 8 ≤ 3))
  else s

/-- The start-up test passes (R404): ENT_OK returns and every instance reseeds. -/
def State.entropyPasses (s : State) : State :=
  if s.ana.startupRuns then
    let t := s.setBit .anaCal 4 true
    let t := (List.range 6).foldl (fun t i => t.reseed i) { t with ana := { t.ana with startupRuns := false } }
    t.redraw
  else s

/-- ENTROPY_STARTUP_PASS (R404, R409). -/
def execEntropyStartupPass (s : State) : Result := liveC s (·.entropyPasses.drbgResume)

/-! ### Sensors (R405) -/

/-- A temperature reading: its register, and the alarm that it latches. -/
def State.tempReading (s : State) (i : Nat) (v : BitVec 16) : State :=
  let t := s.setFld .anaTemp 15 0 v.toNat i
  let t := if sext 16 (t.fld .anaSalarm 63 48) < v.toInt then t.setBit .anaSalarm 0 true else t
  if v.toInt < sext 16 (t.fld .anaSalarm 47 32) then t.setBit .anaSalarm 1 true else t

/-- A rail's reading, and the alarm that it latches. -/
def State.voltReading (s : State) (r : Nat) (v : BitVec 12) : State :=
  let t := s.setFld .anaVolt 11 0 v.toNat r
  if railOk r v.toNat then t else t.setBit .anaSalarm (8 + r) true

/-- TEMP_SENSOR_REFRESH (R405): the readings of sensors 0 to 7 in order. -/
def execTempSensorRefresh (readings : List (BitVec 16)) (now : Nat) (s : State) : Result :=
  liveAt s now (fun s => ((readings.take 8).foldl (fun (a : Nat × State) v => (a.1 + 1, a.2.tempReading a.1 v)) (0, s)).2)

/-- The readings of rails 0 to 4 in order; that of VDDA is the third (R399, R405). -/
def State.voltReadings (s : State) (l : List (BitVec 12)) : State :=
  let t := ((l.take 5).foldl (fun (a : Nat × State) v => (a.1 + 1, a.2.voltReading a.1 v)) (0, s)).2
  { t with ana := { t.ana with vddaRead := t.ana.vddaRead || 3 ≤ l.length } }

/-- VOLT_SENSOR_REFRESH (R405). -/
def execVoltSensorRefresh (readings : List (BitVec 12)) (now : Nat) (s : State) : Result := liveAt s now (·.voltReadings readings)

/-! ### Tamper -/

/-- Whether a source is armed (R407). -/
def State.armed (s : State) (src : Nat) : Bool := src ≤ 9 && s.vault.armWord.testBit src

/-- NOW of a source. -/
def State.setDetecting (s : State) (src : Nat) (v : Bool) : State :=
  { s with ana := { s.ana with detecting := putField src src (b2n v) s.ana.detecting } }

/-- The key material that a tamper event zeroises beyond what Lockdown does (R408 step 2). -/
def State.tamperZeroise (s : State) : State :=
  let t := s.zeroiseCache
  { t with crypto := { t.crypto with cache := [], listed := [] }
           mbx := (t.mbx.map (fun e => (e.1, { e.2 with key := none }))).filter (fun e => e.2 ≠ mailbox0)
           fenuz := { t.fenuz with join := t.fenuz.join.map (fun j => { j with kj := [] })
                                   sponsoring := t.fenuz.sponsoring.map (fun j => { j with kj := [] }) } }

/-- An armed source detects in RUN (R408). -/
def State.tamperRuns (s : State) (src arg : Nat) : State :=
  if s.power.vaon ∧ src ≠ 9 ∧ s.armed src then
    let now := s.time.now
    let t := ((s.setDetecting src true).setBit .anaTampSeen src true).tamperRecord 0 src (min 255 (s.vault.tampCnt + 1)) arg now
    let t := match t.fenuz.join with | some j => t.joinFails j.chan snHwFault | none => t
    (t.lockdown 0x7F 3 src).tamperZeroise.tamperErase src arg now true
  else s

/-- What a TAMPER record tells of what a source senses (R411). -/
def senseArg : TamperSense → Nat
  | .pin _ => 0
  | .other v => v.toNat

/-- A source senses: of TAMPER_IN the level, which stands until it changes, and whether that is the active one (R406, R423). -/
def State.senses (s : State) (src : Nat) : TamperSense → Bool × State
  | .pin l =>
    if src < 4 then
      let t := { s with ana := { s.ana with tamperIn := tabSet .open_ s.ana.tamperIn src l } }
      let on := t.pinActive t.vault.armWord src
      (on, if on then t else t.setDetecting src false)
    else (false, s)
  | .other _ => (4 ≤ src, s)

/-- The level that the part drives on TMESH_A (R406): a bit of the sequence from the seed of the last cold reset, a new one every 500 ns,
while VAON is there. -/
def State.meshDriven (s : State) : Bool :=
  s.power.vaon && Config.meshBit s.ana.meshSeed ((s.clock - s.ana.meshSince) * 2000000 / second)

/-- TAMPER_DETECT (R408). -/
def execTamperDetect (src : Fin 10) (sense : TamperSense) (s : State) : Result :=
  live s (fun s =>
    if s.armed src then
      let (on, t) := s.senses src sense
      if on then t.tamperRuns src (senseArg sense) else t
    else s)

/-- The sources that work in STANDBY too (R406). -/
def bothStates (src : Nat) : Bool := src ≤ 4 || src = 7 || src = 8

/-- TAMPER_DETECT_STANDBY (R406, R410): in STANDBY, or while the part is in cold reset. -/
def execTamperDetectStandby (src : Fin 10) (sense : TamperSense) (s : State) : Result :=
  .next (noRewind s (if s.power.coldReset ∧ s.power.vaon ∧ bothStates src ∧ s.armed src then
    let (on, t) := s.senses src sense
    if on then (t.setDetecting src true).tamperErase src (senseArg sense) s.time.now false else t
  else s))

/-- A source that detects and is not armed, where it works, shows (R406, R407). -/
def State.tamperShows (s : State) (src : Nat) : State :=
  if s.armed src ∨ (s.power.coldReset ∧ ¬ bothStates src) then s
  else
    let t := s.setDetecting src true
    if t.power.coldReset then t else t.setBit .anaTampSeen src true

/-- TAMPER_SEEN (R406, R407): a disarmed source detects, or any source detects no longer: TAMPER_IN by its level, the others without a
sense. -/
def execTamperSeen (src : Fin 10) (sense : Option TamperSense) (s : State) : Result :=
  .next (noRewind s (
    if s.power.vaon = false then s
    else match sense with
      | none => if 4 ≤ src.val then s.setDetecting src false else s
      | some x =>
        let (on, t) := s.senses src x
        if on then t.tamperShows src else t))

/-- VAULT_SCRUB (R413): once each 24 h of Time, the words in which bits were corrected are rewritten, and uncorrectable ones counted,
each word once. -/
def execVaultScrub (corrected uncorrectable : List Nat) (now : Nat) (s : State) : Result :=
  liveAt s now (fun s =>
    if usPassed s.vault.lastScrub s.clock 86400000000 then
      let words := fun (l : List Nat) => (l.filter (· < vaultEnd)).eraseDups
      let t := (words corrected).foldl (fun t w => t.vaultPut [w] id) s
      let t := t.addFld .vltStat 15 8 (words uncorrectable).length
      { t with vault := { t.vault with badWords := (t.vault.badWords ++ words uncorrectable).eraseDups, lastScrub := t.clock } }
    else s)

end Sys2Proof.Machine
end

