-- ==== Sys2Proof/Machine/ChanRows.lean ====
section
/-! DEFINITION. The commands of channels, movers, crypto units, the key cache and the arbiters (R160 to R276, R287 to R295, R333 to
R336). -/

namespace Sys2Proof.Machine

/-- COMMAND_FETCH (R162, R163, R188). -/
def execCommandFetch (ch : Fin 4096) (rd : ReadResult) (s : State) : Result := freeC s (·.fetched ch rd)

/-- MOVE (R198). -/
def execMove (ch : Fin 4096) (s : State) : Result := freeC s (·.dataStart ch 0x01)
/-- XFORM (R199 to R204). -/
def execXform (ch : Fin 4096) (s : State) : Result := freeC s (·.dataStart ch 0x02)
/-- SEAL (R205). -/
def execSeal (ch : Fin 4096) (s : State) : Result := freeC s (·.dataStart ch 0x03)
/-- UNSEAL (R205). -/
def execUnseal (ch : Fin 4096) (s : State) : Result := freeC s (·.dataStart ch 0x04)
/-- DIGEST (R206). -/
def execDigest (ch : Fin 4096) (s : State) : Result := freeC s (·.dataStart ch 0x05)
/-- SIGN (R207). -/
def execSign (ch : Fin 4096) (s : State) : Result := freeC s (·.dataStart ch 0x06)
/-- VERIFY (R208). -/
def execVerify (ch : Fin 4096) (s : State) : Result := freeC s (·.dataStart ch 0x07)
/-- FILL (R209). -/
def execFill (ch : Fin 4096) (s : State) : Result := freeC s (·.dataStart ch 0x08)
/-- COMPARE (R210). -/
def execCompare (ch : Fin 4096) (s : State) : Result := freeC s (·.dataStart ch 0x09)
/-- CONT (R162, R216). -/
def execCont (ch : Fin 4096) (rd : ReadResult) (s : State) : Result := freeC s (·.memberReached ch rd)

/-- STAMP (R215). -/
def execStamp (ch : Fin 4096) (s : State) : Result := freeC s (·.doStamp ch)
/-- TIC (R217). -/
def execTic (ch : Fin 4096) (s : State) : Result := freeC s (·.doTic ch)
/-- BRANCH (R218). -/
def execBranch (ch : Fin 4096) (s : State) : Result := freeC s (·.doBranch ch)
/-- WAIT (R219). -/
def execWait (ch : Fin 4096) (s : State) : Result := freeC s (·.doWait ch)
/-- SIGNAL (R221). -/
def execSignal (ch : Fin 4096) (s : State) : Result := freeC s (·.doSignal ch)
/-- HOLD (R222). -/
def execHold (ch : Fin 4096) (s : State) : Result := freeC s (·.doHold ch)
/-- NOP (R223). -/
def execNop (ch : Fin 4096) (s : State) : Result := freeC s (·.doNop ch)
/-- POST (R224, R225). -/
def execPost (ch : Fin 4096) (s : State) : Result := freeC s (·.doPost ch)

/-- WAIT_TIMEOUT (R219). -/
def execWaitTimeout (ch : Fin 4096) (now : Nat) (s : State) : Result := freeCAt s now (·.waitExpires ch)
/-- HOLD_TARGET_REACHED (R222). -/
def execHoldTargetReached (ch : Fin 4096) (now : Nat) (s : State) : Result := freeCAt s now (·.holdReached ch)
/-- ZERO_LENGTH_READ_DONE (R179): `ok` is the completion's status, which changes nothing. -/
def execZeroLengthReadDone (ch : Fin 4096) (zone : BitVec 4) (_ok : Bool) (s : State) : Result :=
  freeC s (·.zeroRead ch zone.toNat)
/-- CP_WRITE_RESPONSE (R186, R215, R225). -/
def execCpWriteResponse (ch : Fin 4096) (res : WriteResult) (s : State) : Result := freeC s (·.cpWritten ch res)

/-- LOOP_GUARD_EXHAUSTED (R189). -/
def execLoopGuardExhausted (ch : Fin 4096) (s : State) : Result := freeC s (·.loopEnd ch)
/-- COMMAND_TIMEOUT (R335). -/
def execCommandTimeout (ch : Fin 4096) (now : Nat) (s : State) : Result := freeCAt s now (·.commandTimeout ch)
/-- GRACE_EXHAUSTED (R334). -/
def execGraceExhausted (ch : Fin 4096) (now : Nat) (s : State) : Result := freeCAt s now (·.graceEnds ch)

/-- MOVER_TAKEN (R231). -/
def execMoverTaken (s : State) : Result := freeC s (·.takeMover)
/-- CRYPTO_UNIT_TAKEN (R257). -/
def execCryptoUnitTaken (kind : UnitKind) (s : State) : Result := freeC s (·.takeUnit kind)
/-- P521_OPERATION_COMPLETE (R257). -/
def execP521OperationComplete (unit : Fin 4) (s : State) : Result := freeC s (·.p521Complete unit)
/-- KEY_FILL_START (R115, R268). -/
def execKeyFillStart (s : State) : Result := live s (unlocked (·.evictDue.fillStart))
/-- KEY_FILL_COMPLETE (R268, R269): on fill engine `n`. -/
def execKeyFillComplete (n : Fin 4) (s : State) : Result := freeC s (·.fillComplete n)
/-- KEY_CACHE_EVICTION (R115). -/
def execKeyCacheEviction (s : State) : Result := live s (unlocked (·.evictDue))
/-- COUNT_ONLY_TO_LIST (R115, R116). -/
def execCountOnlyToList (s : State) : Result := live s (unlocked (·.listCountOnly))

/-- ARB_GRANT (R289), in Lockdown too (R296). -/
def execArbGrant (seg : Fin 64) (s : State) : Result := liveC s (·.arbGrant seg)
/-- TETHER_RELEASE (R247). -/
def execTetherRelease (n : Fin 72) (now : Nat) (s : State) : Result := freeCAt s now (·.tetherRelease n)
/-- BURST_READ_DATA (R237, R248, R258): `upsets` struck the store before the read (R279). -/
def execBurstReadData (mv : Fin 64) (rd : ReadResult) (upsets : List Upset) (s : State) : Result :=
  freeC s (fun s => ((s.upset upsets).burstData mv rd).retryCredits)
/-- BURST_WRITE_RESPONSE (R229, R248, R250). -/
def execBurstWriteResponse (mv : Fin 64) (res : WriteResult) (s : State) : Result :=
  freeC s (fun s => (s.burstWritten mv res).retryCredits)
/-- PCIE_COMPLETION_TIMEOUT (R248, R367). -/
def execPcieCompletionTimeout (mv : Fin 64) (now : Nat) (s : State) : Result :=
  freeCAt s now (fun s => (s.readTimesOut mv).retryCredits)

end Sys2Proof.Machine
end

