-- ==== Sys2Proof/Machine/EventRows.lean ====
section
/-! DEFINITION. Events of Carillon sources and deferred strikes (R298 to R306), the interrupt controller's deliveries and messages
(R316 to R323), and GPIO edges (R424). -/

namespace Sys2Proof.Machine

/-- The oldest waiting event of a source is routed (log entry 17). -/
def State.routeEvent (s : State) (src : Nat) : State :=
  match s.events.find? (·.source = src) with
  | some e => ({ s with events := s.events.erase e }).sourceEvent src e.time e.hop
  | none => s

/-- CAR_SOURCE_EVENT (R298, R300). -/
def execCarSourceEvent (src : Fin 2048) (s : State) : Result := liveC s (·.routeEvent src)
/-- DEFERRED_STRIKE (R306): in Lockdown too, for a firing that has begun completes at every target (R309). -/
def execDeferredStrike (s : State) : Result := liveC s (·.deferredStrike)

/-- IRQ_DELIVERY (R316): the decision of the core, or the commit point of the entry it has in progress (log entry 18). -/
def execIrqDelivery (core : Fin 4) (s : State) : Result :=
  live s (fun s => if (s.core core).entry.isSome then s.commitEntry core else s.decideEntryMc core)
/-- IRQ_LATE_ARRIVAL (R317). -/
def execIrqLateArrival (core : Fin 4) (s : State) : Result := live s (·.lateArrival core)
/-- HANDLER_RETURN (R318, R320). -/
def execHandlerReturn (core : Fin 4) (s : State) : Result := live s (·.handlerReturns core)
/-- MSIX_MESSAGE (R321). -/
def execMsixMessage (port : Fin 2) (s : State) : Result := live s (·.nextMessage port)

/-- The hold on a vector has ended (R322): if its condition is still true, the port issues its next message, which is the vector's
own unless another vector that can go out comes before it (R315) or the Damper holds it. -/
def State.holdEnds (s : State) (port v : Nat) : State :=
  let s := s.idledNow
  if s.vecPending port v && !s.vecHeld port v then s.nextMessage port else s

/-- MSIX_HOLD_END (R322). -/
def execMsixHoldEnd (port : Fin 2) (vec : Fin 8192) (s : State) : Result := live s (·.holdEnds port vec)
/-- DAMPER_INTERVAL_END (R323). -/
def execDamperIntervalEnd (g : Fin 64) (now : Nat) (s : State) : Result := liveAt s now (·.damperEnd g)

/-- A GPIO level that has held (R424): a level that EDGE names is an event of source 0x1D0 + k. -/
def State.gpioChange (s : State) (k : Nat) (level : Bool) : State :=
  if s.ana.gpioIn.testBit k = level then s
  else
    let t := { s with ana := { s.ana with gpioIn := putField k k (b2n level) s.ana.gpioIn } }
    let e := t.fld .gpioCfg 5 4 k
    if (level && e.testBit 0) || (!level && e.testBit 1) then t.emit (0x1D0 + k) (t.time.now + 1) 0 else t

/-- GPIO_EDGE (R424). -/
def execGpioEdge (k : Fin 16) (level : Bool) (s : State) : Result := live s (·.gpioChange k level)

end Sys2Proof.Machine
end

