-- ==== Sys2Proof/Machine/LinkRows.lean ====
section
/-! DEFINITION. The commands of the links (R330 to R332, R337, R362 to R377): link state, errors, presence, Recovery, host
configuration space and host port resets. -/

namespace Sys2Proof.Machine

/-- LINK_CE (R330 to R332). -/
def execLinkCe (k : Fin 12) (kind : Fin 7) (now : Nat) (s : State) : Result :=
  liveCAt s now (fun s =>
    if kind.val ≠ 0 ∧ (kind.val = 6 ↔ 10 ≤ k.val) then s.linkCeEvent k kind else s)

/-- A late result of an abandoned access is counted and recorded, and goes no further (R337). `idx` says which access of the
link's it is of, `cause` the failure it reports, 0 for data. -/
def State.staleArrives (s : State) (k idx cause : Nat) : State :=
  match (s.stale.filter (·.link = k))[idx]? with
  | some a => ({ s with stale := s.stale.erase a }).staleRecord a.domain 2 a.unit (k + cause * 2 ^ 8) a.addr
  | none => s

/-- STALE_COMPLETION (R337). -/
def execStaleCompletion (k : Fin 12) (idx : Nat) (cause : BitVec 8) (s : State) : Result :=
  live s (·.staleArrives k idx cause.toNat)

/-- DL_UP (R364, R373). -/
def execDlUp (k : Fin 12) (speed : Fin 7) (width : Nat) (flit : Bool) (s : State) : Result :=
  liveC s (·.linkComesUp k speed width flit)
/-- DL_DOWN (R375 to R377). -/
def execDlDown (k : Fin 12) (s : State) : Result := liveC s (·.linkDown k)

/-- The rate of a link changes while it is up (R373); at 64 GT/s the link is in FLIT mode (R363). -/
def State.speedChange (s : State) (k v : Nat) : State :=
  let v' := min v (s.maxSpeed k)
  if s.linkUp k ∧ v ≠ 0 ∧ s.fld .lnkStat 6 4 k ≠ v' then
    ((s.setFld .lnkStat 6 4 v' k).setBit .lnkStat 2 (s.bit .lnkStat 2 k || v' = 6) k).linkEvent k 2
  else s

/-- Its width changes while it is up (R373). -/
def State.widthChange (s : State) (k v : Nat) : State :=
  if s.linkUp k ∧ v ≠ 0 ∧ s.fld .lnkStat 12 8 k ≠ min v (s.maxWidth k) then
    (s.setFld .lnkStat 12 8 (min v (s.maxWidth k)) k).linkEvent k 3
  else s

/-- LINK_SPEED_CHANGE (R373). -/
def execLinkSpeedChange (k : Fin 10) (speed : Fin 7) (s : State) : Result := live s (·.speedChange k speed)
/-- LINK_WIDTH_CHANGE (R373). -/
def execLinkWidthChange (k : Fin 10) (width : Nat) (s : State) : Result := live s (·.widthChange k width)

/-- The level of BKP_PRSNT_N, which a reset does not change (R422). -/
def State.presenceLevel (s : State) (k : Nat) (p : Bool) : State := s.setLink k { s.link k with present := p }

/-- Presence Detect of a root port's link changes (R372): a drive that is removed takes its link down. -/
def State.presenceChange (s : State) (k : Nat) (p : Bool) : State :=
  if s.linkPresent k ∧ s.bit .lnkStat 1 k ≠ p then
    let t := (s.setBit .lnkStat 1 p k).linkEvent k 4
    if p then t else t.linkDown k
  else s

/-- PRESENCE_DETECT_CHANGE (R372, R373). -/
def execPresenceDetectChange (k : Fin 8) (present : Bool) (s : State) : Result :=
  liveC (s.presenceLevel (k + 2) present) (·.presenceChange (k + 2) present)

/-- The Root Error Status of a root port after a message of severity `sev` (R363, R372; bits PRESUMED from the PCIe Base Specification,
log entry 98): ERR_COR received and more than one of them; ERR_FATAL or ERR_NONFATAL received and more than one; the first uncorrectable
one was fatal; non-fatal and fatal messages received. -/
def rootStatus (sev v : Nat) : Nat :=
  if sev = 0 then v ||| (if v.testBit 0 then 2 else 1)
  else
    v ||| (if v.testBit 2 then 8 else 4 + (if sev = 2 then 16 else 0)) ||| (if sev = 1 then 32 else 64)

/-- An error message from a drive is latched in LNK_EVT and in AER (R372): severity 0 correctable, 1 non-fatal, 2 fatal. -/
def State.errMessage (s : State) (k sev : Nat) : State :=
  if s.linkPresent k then
    (s.setLink k { s.link k with aer := rootStatus sev (s.link k).aer }).linkEvent k (5 + sev)
  else s

/-- ERR_COR (R372). -/
def execErrCor (k : Fin 8) (s : State) : Result := live s (·.errMessage (k + 2) 0)
/-- ERR_NONFATAL (R372). -/
def execErrNonfatal (k : Fin 8) (s : State) : Result := live s (·.errMessage (k + 2) 1)
/-- ERR_FATAL (R372). -/
def execErrFatal (k : Fin 8) (s : State) : Result := live s (·.errMessage (k + 2) 2)

/-- RECOVERY_ENTRY (R374). -/
def execRecoveryEntry (k : Fin 10) (now : Nat) (s : State) : Result := liveCAt s now (·.enterRecovery k)
/-- RECOVERY_EXIT (R374). -/
def execRecoveryExit (k : Fin 10) (now : Nat) (s : State) : Result := liveCAt s now (·.leaveRecovery k)

/-- What a host endpoint's configuration header and its Device Capabilities read (R365). -/
structure Identity where
  deviceId : Nat
  vendorId : Nat
  classCode : Nat
  revision : Nat
  maxPayload : Nat
  tableOffset : Nat
  pbaOffset : Nat
  vectors : Nat
  deriving DecidableEq, Repr

/-- The identity of both host endpoints (R365): MSI-X Table and PBA by their offsets in the port's link block. -/
def hostIdentity : Identity := ⟨0x9840, Config.vendorId, 0x108000, 0xA1, 512, 0x80000, 0xA0000, 8192⟩

/-- A host's write of its endpoint's configuration space or MSI-X Table. -/
def State.configWrite (s : State) (p : Nat) (w : ConfigWrite) : State :=
  let c := s.port p
  match w with
  | .msixEnable v => s.setPort p { c with msixEnable := v }
  | .functionMask v => s.setPort p { c with functionMask := v }
  | .tableMask v m => s.setMsix p v { s.msix p v with masked := m }
  | .busMaster v => s.setPort p { c with busMaster := v }
  | .d3hot v => s.setPort p { c with d3hot := v }
  | .tableData v d => s.setMsix p v { s.msix p v with data := d }
  | .completionTimeout us => s.setPort p { c with ctoUs := us }
  | .tenBitTags v => s.setPort p { c with tenBitTags := v }
  | .maxPayload n => s.setPort p { c with maxPayload := min n hostIdentity.maxPayload }
  | .completionTimeoutDisable v => s.setPort p { c with ctoDisable := v }
  | .maxReadRequest n => s.setPort p { c with maxRead := n }
  | .aspmL1 v => s.setPort p { c with aspmL1 := v }
  | .tableAddress v a => s.setMsix p v { s.msix p v with addr := BitVec.ofNat 64 (a.toNat / 4 * 4) }

/-- CONFIG_SPACE_WRITE (R322, R365 to R368). -/
def execConfigSpaceWrite (port : Fin 2) (w : ConfigWrite) (s : State) : Result :=
  live s (fun s => (s.configWrite port w).idledNow)
/-- FUNCTION_LEVEL_RESET (R366). -/
def execFunctionLevelReset (port : Fin 2) (s : State) : Result := live s (·.functionReset port)
/-- HOT_RESET (R366, R387, R388). -/
def execHotReset (port : Fin 2) (s : State) : Result := live s (·.functionReset port)

/-- PERST_N of a host port is asserted (R68, R377, R388): the link goes down, the function is reset, and IN_EP advances where
MBX_CTL.PORT names the port. -/
def State.perstFalls (s : State) (p : Nat) : State :=
  if s.bit .lnkStat 1 p then
    let t := ((s.linkDown p).setBit .lnkStat 1 false p).functionReset p
    (List.range 32).foldl (fun t c => if t.fld .mbxCtl 11 10 c = p + 1 then t.bumpEpoch c false else t) t
  else s

/-- The level of a PERST_N input, which a reset does not change. -/
def State.perstLevel (s : State) (p : Nat) (high : Bool) : State :=
  { s with power := { s.power with perstHigh := tabSet false s.power.perstHigh p high } }

/-- HOST_PERST_ASSERT (R377). -/
def execHostPerstAssert (port : Fin 2) (s : State) : Result := liveC (s.perstLevel port false) (·.perstFalls port)
/-- HOST_PERST_DEASSERT (R362, R384): the endpoint may train. -/
def execHostPerstDeassert (port : Fin 2) (s : State) : Result := live (s.perstLevel port true) (·.setBit .lnkStat 1 true port)

/-- BKP_PERST_N of a link goes high once its time low is over (R389, R422). -/
def State.perstReleased (s : State) (k : Nat) : State :=
  match (s.link k).perstAt with
  | some t => if t ≤ s.clock then s.setLink k { s.link k with perstAt := none } else s
  | none => s

/-- BKP_PERST_RELEASE (R389, R422). -/
def execBkpPerstRelease (k : Fin 8) (now : Nat) (s : State) : Result := liveAt s now (·.perstReleased (k + 2))

end Sys2Proof.Machine
end

