-- ==== Sys2Proof/Machine/PowerRows.lean ====
section
/-! DEFINITION. The commands of rails, resets, the regulator and the pace monitors (R381 to R397), the sideband target and the TAP
(R425 to R427). Those of rails, resets and the always-on domain act in cold reset too. -/

namespace Sys2Proof.Machine

/-- RAILS_UP (R34, R382): Time restarts where VAON is gone too. -/
def execRailsUp (offTime : Nat) (s : State) : Result := .next (aside s (s.railsRise offTime))
/-- SYS_RST_ASSERT (R387): without VAON Time restarts. -/
def execSysRstAssert (s : State) : Result := .next (aside s s.rstAssert)
/-- SUPERVISOR_TRIP (R381): without VAON Time restarts. -/
def execSupervisorTrip (rail : Fin 5) (s : State) : Result := .next (aside s (s.railTrip rail))
/-- SYS_RST_RELEASE (R384). -/
def execSysRstRelease (s : State) : Result := .next (noRewind s s.rstRelease)
/-- VAON_LOST (R386). -/
def execVaonLost (s : State) : Result := .next (noRewind s s.vaonFalls)
/-- VAON_RETURN (R34, R386, R410). -/
def execVaonReturn (s : State) : Result := .next (aside s s.vaonRises)

/-- PMBUS_TRANSACTION_DONE (R394, R426). -/
def execPmbusTransactionDone (ans : PmbusAnswer) (s : State) : Result := live s (·.pmbusDone ans)
/-- SIDEBAND_BUS_FREE (R426): a regulator transaction that lost arbitration is sent again. -/
def execSidebandBusFree (s : State) : Result :=
  live s (fun s => { s with power := { s.power with lostArb := false } })

/-- A pace monitor's reading (R392): PACE, and the lowest since the last read of ANA_PACE, which left MIN 0. -/
def State.paceReading (s : State) (i v : Nat) : State :=
  let m := s.fld .anaPace 42 32 i
  (s.setFld .anaPace 10 0 v i).setFld .anaPace 42 32 (if m = 0 then v else min m v) i

/-- PACE_REFRESH (R392, R395): the readings of monitors 0 to 15 in order. -/
def execPaceRefresh (readings : List (BitVec 11)) (now : Nat) (s : State) : Result :=
  liveAt s now (fun s =>
    (((readings.take 16).map BitVec.toNat).foldl (fun (a : Nat × State) v => (a.1 + 1, a.2.paceReading a.1 v)) (0, s)).2.paceBelow)

/-! ### The sideband target -/

/-- The value that a command byte reads, none where the target does not acknowledge it (R425). -/
def State.sidebandValue (s : State) (cmd : Nat) : Option Nat :=
  if cmd = 0x00 then some devWord
  else if cmd = 0x01 then some (s.view ⟨.gctlLock, 0, 0⟩)
  else if cmd = 0x02 then some (s.view ⟨.gctlRst, 0, 0⟩)
  else if 0x10 ≤ cmd ∧ cmd ≤ 0x17 then some (s.view ⟨.anaTemp, cmd - 0x10, 0⟩)
  else if 0x18 ≤ cmd ∧ cmd ≤ 0x1C then some (s.view ⟨.anaVolt, cmd - 0x18, 0⟩)
  else if 0x20 ≤ cmd ∧ cmd ≤ 0x2F then some (putField 42 32 0 (s.view ⟨.anaPace, cmd - 0x20, 0⟩))
  else if cmd = 0x30 then some (s.view ⟨.anaSalarm, 0, 0⟩)
  else if cmd = 0x31 then some (s.view ⟨.anaTampEvt, 0, 0⟩)
  else if cmd = 0x32 then some (s.view ⟨.vltStat, 0, 0⟩)
  else if cmd = 0x33 then some (s.view ⟨.pwrAon, 0, 0⟩)
  else if cmd = 0x34 then some (s.view ⟨.timeStat, 0, 0⟩)
  else if cmd = 0x35 then some (s.view ⟨.pwrPaceWin, 0, 0⟩)
  else none

/-- The bytes of a transaction with the sideband target (R425): its address, 0x58 + SB_ASEL, the command byte, the address of the read,
and the value. -/
def State.sidebandBytes (s : State) (cmd v : Nat) : List Byte :=
  let a := (0x58 + s.side.asel) * 2
  natLe 1 a ++ natLe 1 cmd ++ natLe 1 (a + 1) ++ natLe 8 v

/-- What the sideband target answers. -/
def State.sidebandAnswer (s : State) (cmd : Nat) : Sideband :=
  match (if s.power.coldReset then none else s.sidebandValue cmd) with
  | some v => { s.side with value := BitVec.ofNat 64 v, pec := smbusPec (s.sidebandBytes cmd v), acked := true }
  | none => { s.side with acked := false }

/-- SIDEBAND_READ (R425, R426): a write of one command byte and a read; a write of any other length is not acknowledged. -/
def execSidebandRead (written : List Byte) (s : State) : Result :=
  .next (noRewind s { s with side := match written with
    | [cmd] => s.sidebandAnswer cmd.toNat
    | _ => { s.side with acked := false } })

/-! ### The TAP -/

/-- The IDCODE register (R427). -/
def idcodeWord : Nat := 0x19840000 + Config.jedecId % 2048 * 2 + 1

/-- What drives the pins under an instruction, by IEEE 1149.1 and 1149.6 (R427, log entry 112). -/
def TapInstr.drives : TapInstr → PinDrive
  | .bypass | .idcode | .samplePreload => .part
  | .extest | .extestPulse | .extestTrain | .clamp => .boundary
  | .highz => .nothing

/-- The TAP takes an instruction while its pins have their supply (R422); those that drive pins only while SYS_RST_N is low, and BYPASS in
their place at other times; BYPASS and IDCODE capture their registers (R427). -/
def State.tapLoads (s : State) (i : TapInstr) : State :=
  if s.power.state ≠ .run then s
  else
    let i := if i.drives = .part || s.power.rstLow then i else .bypass
    let cap := if i = .idcode then idcodeWord else if i = .samplePreload then s.side.captured else 0
    { s with side := { s.side with tap := i, captured := cap, pins := i.drives } }

/-- BYPASS (R427). -/
def execBypass (s : State) : Result := .next (noRewind s (s.tapLoads .bypass))
/-- IDCODE (R427). -/
def execIdcode (s : State) : Result := .next (noRewind s (s.tapLoads .idcode))
/-- SAMPLE_PRELOAD (R427): the boundary register holds the pins as they were sampled, or the levels loaded for them. -/
def execSamplePreload (pins : List (Pin × Bool)) (s : State) : Result :=
  let t := s.tapLoads .samplePreload
  .next (noRewind s (if s.power.state = .run then { t with side := { t.side with boundary := pins } } else t))
/-- EXTEST (R427). -/
def execExtest (s : State) : Result := .next (noRewind s (s.tapLoads .extest))
/-- EXTEST_PULSE (R427). -/
def execExtestPulse (s : State) : Result := .next (noRewind s (s.tapLoads .extestPulse))
/-- EXTEST_TRAIN (R427). -/
def execExtestTrain (s : State) : Result := .next (noRewind s (s.tapLoads .extestTrain))
/-- HIGHZ (R427). -/
def execHighz (s : State) : Result := .next (noRewind s (s.tapLoads .highz))
/-- CLAMP (R427). -/
def execClamp (s : State) : Result := .next (noRewind s (s.tapLoads .clamp))

end Sys2Proof.Machine
end

