-- ==== Sys2Proof/Machine/SessRows.lean ====
section
/-! DEFINITION. Snima's session, operator, attestation and firmware groups (R115 to R128) and the folding of counts (R115). -/

namespace Sys2Proof.Machine

/-! ### Counts (R115, R117) -/

/-- A context with units added to USED, which saturates (R110). -/
def ctxAddUsed (b : List Byte) (n : Nat) : List Byte :=
  b.take 0x2C ++ natLe 4 (satAdd 0xFFFFFFFF (ctxUsed b) n) ++ b.drop 0x30

/-- A count that goes into USED while a fill of its session is in progress is taken by the fill as pending (R115, R276): it stands in the
USED of the contexts its commands read. -/
def Fill.withTaken (f : Fill) (n : Nat) : Fill := { f with waiters := f.waiters.map (fun w => (w.1, ctxAddUsed w.2 n)) }

/-- Every count of a session leaves the entries and the write-back list; what it comes to. -/
def State.takeCounts (s : State) (i : Nat) : Nat × State :=
  let k := s.crypto
  let n := ((k.cache.filter (·.sess = i)).map (·.count)).sum + ((k.listed.filter (·.sess = i)).map (·.count)).sum
  (n, { s with crypto := { k with
    fills := k.fills.map (fun (f : Fill) => if f.sess = i then f.withTaken (s.pendingUnits i f.epoch) else f)
    cache := (k.cache.filter (fun e => !(e.sess = i && !e.keyed))).map (fun (e : CacheEntry) => if e.sess = i then { e with count := 0 } else e)
    listed := k.listed.filter (·.sess ≠ i) } })

/-- A session's entries and fills are invalid for later lookups (R117 step 1). -/
def State.revoke (s : State) (i : Nat) : State :=
  let k := s.crypto
  { s with crypto := { k with
      cache := k.cache.map (fun (e : CacheEntry) => if e.sess = i then { e with live := false } else e)
      fills := k.fills.map (fun (f : Fill) => if f.sess = i then { f with revoked := true } else f) } }

/-! ### Contexts (R110 to R113) -/

/-- A context from the first 48 bytes of a policy image, with EPOCH, USED and a key wrapped under a key-encryption key; `tail` is
what follows the binding of R112 (R121). -/
def ctxBuild (kek : List Byte) (i : Nat) (pol : List Byte) (epoch used : Nat) (tail key : List Byte) : List Byte :=
  let head := pol.take 2 ++ natLe 1 (klenOf (bytesAt pol 0 1)) ++ natLe 1 0 ++ natLe 4 epoch ++ (pol.drop 8).take 0x24 ++ natLe 4 used
  fitBytes 128 (head ++ Algo.kwpWrap (contextKey kek (bindingOf i head ++ tail)) key)

/-- A policy image with WRAP set or clear. -/
def withWrap (w : Bool) (b : List Byte) : List Byte :=
  let f := bytesAt b 1 1
  b.take 1 ++ natLe 1 (f / 2 * 2 + b2n w) ++ b.drop 2

/-- The key of a context that passes R113 as it stands (R120). -/
def State.ctxKeyAt (s : State) (i : Nat) (b : List Byte) : Option (List Byte) :=
  if ctxShapeOk b && tabGet 0 s.vault.gens i = ctxEpoch b then unwrapCtx s.dkek i b else none

/-! ### The frame of a session command (R82, R117, R120) -/

/-- The session that a request names. -/
def sessOf (b : List Byte) : Nat := bytesAt b 0 8 % 2 ^ 20

/-- The first bad field of a request with a POLICY image (R119). -/
def policyBad (b : List Byte) (ktypeOk : Bool) : Option Nat :=
  let w0 := bytesAt b 8 8
  let w1 := bytesAt b 0x10 8
  firstBad [(2 ^ 20 ≤ bytesAt b 0 8, 0), (fieldOf 63 11 w0 ≠ 0 || w0.testBit 8 || !ktypeOk, 8),
    (fieldOf 31 24 w1 ≠ 0 || fieldOf 15 14 w1 ≠ 0 || fieldOf 8 7 w1 ≠ 0, 0x10), (fieldOf 63 16 (bytesAt b 0x30 8) ≠ 0, 0x30)]

/-- A request that names only a session. -/
def sessBad (b : List Byte) : Option Nat := firstBad [(2 ^ 20 ≤ bytesAt b 0 8, 0)]

/-- A session command: its fields are judged, its context is read, and where the checks of R82 pass, it is carried out. `ctxBad` is a
check of step 7 that needs the context; `gen` says that the command needs the session's generation word (R413). -/
def State.sessTurn (s : State) (c cmd : Nat) (b : List Byte) (bad : Option Nat) (ctxBad : List Byte → Option Nat) (gen : Bool)
    (stateOk : State → Nat → List Byte → Bool) (go : Nat → List Byte → State → Turn × State) : Turn × State :=
  let i := sessOf b
  match s.judge c cmd b bad (decide (i < 2 ^ s.snima.layout.sessLog2)) true true with
  | some t => (t, s)
  | none => match s.mcRead (sessAddr i) 128 with
    | (none, t) => (fails snHwFault, t)
    | (some x, t) => match ctxBad x with
      | some f => (badField f, t)
      | none =>
        if gen && t.vaultBad [vaultGen i] then (fails snHwFault, t)
        else if !stateOk t i x then (fails snState, t)
        else go i x t

/-- A change of a session (R117). `mk` makes, of the counts taken and the new generation, the writes that come before the new context,
and that context; `draw` says that the generation is drawn anew (R413). -/
def State.sessChange (s : State) (i : Nat) (draw : Bool) (mk : Nat → Nat → State → List Byte × State) (res : Nat → List Byte) : Turn × State :=
  match s.vaultWrite (vaultGen i) with
  | none => (fails snHwFault, s)
  | some _ =>
    let t := s.revoke i
    if t.crypto.fills.any (·.sess = i) then (.runs 0 0, t)
    else
      let (n, t) := t.takeCounts i
      let j := i / 2 * 2
      let (w, t) := if draw then t.draw 0 8 else ([], t)
      let g0 := if draw then bytesAt w 0 4 else if i = j then (tabGet 0 t.vault.gens i + 1) % 2 ^ 32 else tabGet 0 t.vault.gens j
      let g1 := if draw then bytesAt w 4 4 else if i = j then tabGet 0 t.vault.gens (j + 1) else (tabGet 0 t.vault.gens i + 1) % 2 ^ 32
      let g := if i = j then g0 else g1
      let (x, t) := mk n g t
      match t.vaultWrite (vaultGen i) with
      | none => (fails snHwFault, t)
      | some t =>
        let t := { t with vault := { t.vault with gens := tabSet 0 (tabSet 0 t.vault.gens j g0) (j + 1) g1
                                                  badWords := t.vault.badWords.filter (· ≠ vaultGen i) } }
        (doneOk (res g), t.mcWrite (sessAddr i) x)

/-- The context of a session that is destroyed (R120). -/
def emptyCtx (epoch : Nat) : List Byte := fitBytes 128 (natLe 4 0 ++ natLe 4 epoch)

/-- A session takes a new key (R118, R119). While the root key is erased nothing can be wrapped, and the answer is SN_HW_FAULT (DESIGN
CHOICE, log entry 121). -/
def State.sessNew (s : State) (i : Nat) (pol : List Byte) (used : Nat) (key : List Byte) (res : Nat → List Byte) : Turn × State :=
  match s.dkek with
  | none => (fails snHwFault, s)
  | some k => s.sessChange i false (fun _ g t => (ctxBuild k i pol g used [] key, t)) res

/-! ### The session commands (R119 to R121) -/

/-- KTYPE of a request's POLICY, and the POLICY image. -/
def polKtype (b : List Byte) : Nat := bytesAt b 8 1
def polOf (b : List Byte) : List Byte := (b.drop 8).take 48

/-- LEN of SESS_IMPORT follows from KTYPE; of a reserved KTYPE, and of KTYPE 0, any length that some KTYPE of a key gives (DESIGN CHOICE,
log entry 108). -/
def importLen (b : List Byte) : Bool :=
  let n := b.length
  let k := polKtype b
  if 1 ≤ k && k ≤ 5 then n = 0x38 + klenOf k else n = 0x38 + 72 || n = 0x38 + 40 || n = 0x38 + 80

/-- The key of SESS_IMPORT, where it unwraps under KT (R118). -/
def State.importKey (s : State) (c : Nat) (b : List Byte) : Option (List Byte) :=
  match (s.box c).key with
  | none => none
  | some k => match Algo.kwpUnwrap k.wrapKey (b.drop 0x38) with
    | some p => if keyOk (polKtype b) p then some p else none
    | none => none

/-- SESS_IMPORT. -/
def sessImportTurn : Handler := fun c b _ s =>
  let k := polKtype b
  let key := s.importKey c b
  let bad := (policyBad b (1 ≤ k && k ≤ 5)).or (firstBad [(key.isNone, 0x38)])
  s.sessTurn c 0x0300 b bad (fun _ => none) true (fun _ _ x => ctxKtype x = 0) (fun i _ t =>
    match key with
    | none => (badField 0x38, t)
    | some p => t.sessNew i (polOf b) 0 p (natLe 8))

/-- SESS_GENERATE. -/
def sessGenerateTurn : Handler := fun c b _ s =>
  let k := polKtype b
  s.sessTurn c 0x0301 b (policyBad b (1 ≤ k && k ≤ 4)) (fun _ => none) true (fun _ _ x => ctxKtype x = 0) (fun i _ t =>
    if !t.drbgReady 0 then (fails snHwFault, t)
    else match (if k = 4 then t.drawScalar 0 else t.drawGood 0 (plainLen k) (keyOk k) 128) with
      | (p, t) => t.sessNew i (polOf b) 0 p (fun g => if k = 4 then natLe 4 g ++ Algo.publicPoint p else natLe 8 g))

/-- SESS_EXPORT. What the policy forbids is denied after SN_STATE (R82, R120; DESIGN CHOICE, log entry 118). -/
def sessExportTurn : Handler := fun c b _ s =>
  s.sessTurn c 0x0302 b (sessBad b) (fun _ => none) true (fun t i x => (t.ctxKeyAt i x).isSome) (fun i x t =>
    if !ctxExport x then (fails snDenied, t)
    else match t.ctxKeyAt i x, (t.box c).key with
      | some p, some k => (doneOk (natLe 4 (ctxEpoch x) ++ Algo.kwpWrap k.wrapKey p), t)
      | _, _ => (fails snState, t))

/-- SESS_POLICY: the counts go into USED. -/
def sessPolicyTurn : Handler := fun c b _ s =>
  s.sessTurn c 0x0303 b (policyBad b true) (fun x => firstBad [(ctxKtype x ≠ 0 && polKtype b ≠ ctxKtype x, 8)]) true
    (fun t i x => (t.ctxKeyAt i x).isSome) (fun i x t =>
      match t.ctxKeyAt i x, t.dkek with
      | some p, some k => t.sessChange i false
          (fun n g t => (ctxBuild k i (polOf b) g (satAdd 0xFFFFFFFF (ctxUsed x) n) [] p, t)) (natLe 8)
      | _, _ => (fails snState, t))

/-- SESS_DESTROY. -/
def sessDestroyTurn : Handler := fun c b _ s =>
  s.sessTurn c 0x0304 b (sessBad b) (fun _ => none) false (fun _ _ x => ctxKtype x ≠ 0) (fun i _ t =>
    let lost := t.vaultBad [vaultGen i]
    if lost && !t.drbgReady 0 then (fails snHwFault, t)
    else t.sessChange i lost (fun _ g t => (emptyCtx g, t)) (natLe 8))

/-- The counts of a session that belong to its present epoch go into USED; the others are discarded (R115). -/
def State.foldCounts (s : State) (i : Nat) (x : List Byte) : List Byte × State :=
  let n := s.pendingUnits i (ctxEpoch x)
  let t := (s.takeCounts i).2
  if n = 0 then (x, t) else (ctxAddUsed x n, t.mcWrite (sessAddr i) (ctxAddUsed x n))

/-- SESS_QUERY. -/
def sessQueryTurn : Handler := fun c b _ s =>
  s.sessTurn c 0x0305 b (sessBad b) (fun _ => none) false (fun _ _ _ => true) (fun i x t =>
    let (y, t) := t.foldCounts i x
    (doneOk (y.take 0x30), t))

/-- The trailer of a migration record (R121). -/
def State.trailer (s : State) : List Byte :=
  natLe 8 (s.time.now % 2 ^ 64) ++ natLe 8 (s.time.now / 2 ^ 64 % 2 ^ 16) ++ natLe 8 s.vault.node ++ natLe 8 0

/-- SESS_MIGRATE_OUT. What the policy forbids is denied after SN_STATE (R82, R120; DESIGN CHOICE, log entry 118). -/
def sessMigrateOutTurn : Handler := fun c b _ s =>
  let a := bytesAt b 8 8
  let bad := (sessBad b).or (firstBad [(a % 64 ≠ 0 || !s.inData a 160, 8)])
  s.sessTurn c 0x0306 b bad (fun _ => none) true (fun t i x => t.vault.member && (t.ctxKeyAt i x).isSome) (fun i x t =>
    if !ctxMigrate x then (fails snDenied, t)
    else match t.ctxKeyAt i x, t.fkek with
      | some p, some k => t.sessChange i false (fun n g t =>
          let tr := t.trailer
          let rec_ := ctxBuild k 0 (withWrap true x) 0 (satAdd 0xFFFFFFFF (ctxUsed x) n) tr p ++ tr
          (emptyCtx g, t.mcWrite a rec_)) (natLe 8)
      | _, _ => (fails snHwFault, t))

/-- The key of a migration record, where it unwraps under FKEK (R121). -/
def State.recordKey (s : State) (r : List Byte) : Option (List Byte) :=
  let x := r.take 128
  let tr := r.drop 128
  let shape := 1 ≤ ctxKtype x && ctxKtype x ≤ 5 && ctxWrap x = 1 && ctxEpoch x = 0 && ctxKlen x = klenOf (ctxKtype x)
  match s.fkek with
  | none => none
  | some k =>
    if shape then
      match Algo.kwpUnwrap (contextKey k (bindingOf 0 x ++ tr)) (ctxKey x) with
      | some p => if keyOk (ctxKtype x) p then some p else none
      | none => none
    else none

/-- Whether fleet Time lies more than 60 s after a record's export. -/
def State.recordOld (s : State) (r : List Byte) : Bool :=
  let t := bytesAt r 0x80 8 + bytesAt r 0x88 2 * 2 ^ 64
  t + 60 * second < s.time.now

/-- SESS_ADOPT. ADDR may be any address at which the record's 160 bytes lie in the Central Store; any other is a bad field 8 (DESIGN CHOICE,
log entry 109). -/
def sessAdoptTurn : Handler := fun c b _ s =>
  let a := bytesAt b 8 8
  let bad := (sessBad b).or (firstBad [(!inStore a 160, 8)])
  s.sessTurn c 0x0307 b bad (fun _ => none) true (fun t _ x => t.vault.member && ctxKtype x = 0) (fun i _ t =>
    match t.mcRead a 160 with
    | (none, t) => (fails snHwFault, t)
    | (some r, t) => match t.recordKey r with
      | none => (badField 8, t)
      | some p =>
        if t.recordOld r then (fails snState, t)
        else t.sessNew i (withWrap false r) (ctxUsed r) p (natLe 8))

/-- USED_FOLD (R115): the first listed count whose session no command holds goes into USED. -/
def State.usedFold (s : State) : State :=
  if !s.snimaUp then s
  else match s.crypto.listed.find? (fun e => !s.held 32 [.session e.sess]) with
    | none => s
    | some e =>
      let t := { s with crypto := { s.crypto with listed := s.crypto.listed.erase e } }
      if 2 ^ t.snima.layout.sessLog2 ≤ e.sess then t
      else match t.mcRead (sessAddr e.sess) 128 with
        | (none, t) => t
        | (some x, t) =>
          if ctxEpoch x = e.epoch then
            let t := { t with crypto := { t.crypto with fills := t.crypto.fills.map (fun (f : Fill) =>
              if f.sess = e.sess ∧ f.epoch = e.epoch then f.withTaken e.count else f) } }
            t.mcWrite (sessAddr e.sess) (ctxAddUsed x e.count)
          else t

/-! ### Operator slots (R119, R122) -/

def State.slotAt (s : State) (k : Nat) : Option (List Byte) := tabGet none s.vault.slots k

def State.setSlot (s : State) (k : Nat) (p : Option (List Byte)) : Turn × State :=
  if s.vaultBad (slotWords k) then (fails snHwFault, s)
  else match s.vaultWrites (slotWords k) with
    | none => (fails snHwFault, s)
    | some t => (doneOk [], { t with vault := { t.vault with slots := tabSet none t.vault.slots k p } })

/-- OPER_CLAIM. -/
def operClaimTurn : Handler := fun c b _ s =>
  match s.judge c 0x0308 b (firstBad [(!Algo.pointOk b, 0)]) true (decide (s.slotMap = 0)) true with
  | some t => (t, s)
  | none => s.setSlot 0 (some b)

/-- OPER_ENROLL. -/
def operEnrollTurn : Handler := fun c b _ s =>
  let w := bytesAt b 0 8
  let p := (b.drop 8).take 67
  match s.judge c 0x0309 b (firstBad [(16 ≤ w, 0), (!Algo.pointOk p, 8)]) true (s.slotAt w).isNone true with
  | some t => (t, s)
  | none => s.setSlot w (some p)

/-- The channels opened under a slot lose their keys. -/
def State.dropSlot (s : State) (k : Nat) : State :=
  (List.range 32).foldl (fun t c => match (t.box c).key with
    | some x => if x.slot = k then t.dropKey c else t
    | none => t) s

/-- OPER_REVOKE. The last slot is denied once it is found (R82, R122; DESIGN CHOICE, log entry 118). -/
def operRevokeTurn : Handler := fun c b _ s =>
  let w := bytesAt b 0 8
  match s.judge c 0x030A b (firstBad [(16 ≤ w, 0)]) (s.slotAt w).isSome true true with
  | some t => (t, s)
  | none =>
    if s.slotMap = 2 ^ w then (fails snDenied, s)
    else match s.setSlot w none with
      | (t, u) => (t, if (s.slotAt w).isSome && (u.slotAt w).isNone then u.dropSlot w else u)

/-- OPER_LIST. The slot table is hashed as R124 lays it out (DESIGN CHOICE, log entry 122). -/
def operListTurn : Handler := fun _ _ _ s =>
  if s.vaultBad ((List.range 16).flatMap slotWords) then (fails snHwFault, s)
  else (doneOk (natLe 4 s.slotMap ++ Algo.hash 3 s.slotTable), s)

/-! ### Attestation (R123, R124) -/

/-- ATT_REPORT. -/
def attReportTurn : Handler := fun c b _ s =>
  let a := bytesAt b 0 8
  match s.judge c 0x0400 b (firstBad [(a % 64 ≠ 0 || !s.inData a 356, 0)]) true true true with
  | some t => (t, s)
  | none =>
    if s.signReady && !s.vaultBad ((List.range 16).flatMap slotWords ++ [vaultBoot] ++ fleetWords) then
      let (r, t) := s.report ((b.drop 8).take 32)
      (doneOk (natLe 4 356 ++ Algo.hash 3 r), t.mcWrite a r)
    else (fails snHwFault, s)

/-- ATT_CERT. -/
def attCertTurn : Handler := fun c b _ s =>
  let a := bytesAt b 0 8
  match s.judge c 0x0401 b (firstBad [(a % 64 ≠ 0 || !s.inData a Config.cert.length, 0)]) true true true with
  | some t => (t, s)
  | none =>
    if s.vaultBad certWords then (fails snHwFault, s)
    else (doneOk (natLe 8 Config.cert.length), s.mcWrite a Config.cert)

/-! ### Firmware (R125 to R128) -/

/-- The boot record is written (R125). -/
def State.setRecord (s : State) (r : Nat) (after : AfterPost) : Turn × State :=
  match s.vaultWrites [vaultBoot] with
  | none => (fails snHwFault, s)
  | some t => (.answer (ansOk []) after, { t with vault := { t.vault with bootRecord := r } })

/-- What RESTART names. -/
def restartOf (n : Nat) : AfterPost := if n = 1 then .restart else if n = 2 then .warmReset else .nothing

/-- The slot that is not ACTIVE. -/
def State.otherSlot (s : State) : Bool := !recActive s.vault.bootRecord

/-- A slot of the flash is erased, and takes an image (R104, R127). -/
def State.eraseSlot (s : State) (b : Bool) : State :=
  { s with flash := s.flash.filter (fun e => !(slotBase b ≤ e.1 && e.1 < slotBase b + 0x400000)) }
def State.writeSlot (s : State) (b : Bool) (img : List Byte) : State :=
  { s with flash := (atAddr (slotBase b) img).foldl (fun m e => tabSet 0xFF m e.1 e.2) (s.eraseSlot b).flash }

/-- FW_STAGE: `flashOk` says that the slot was erased, written and read back without an error. The payload has 16 bytes, and what its length
word holds above [31:0] counts as reserved (DESIGN CHOICE, log entry 123). -/
def fwStageTurn (flashOk : Bool) : Handler := fun c b _ s =>
  let a := bytesAt b 0 8
  let n := bytesAt b 8 8
  let bad := firstBad [(a % 4096 ≠ 0 || 0x40000000 ≤ a, 0), (n < 516 || 0x400000 < n || 0x40000000 < a + n, 8)]
  match s.judge c 0x0500 b bad true (!recTrial s.vault.bootRecord) true with
  | some t => (t, s)
  | none =>
    if s.vaultBad [vaultBoot] then (fails snHwFault, s)
    else match s.mcRead a n with
      | (none, t) => (fails snHwFault, t)
      | (some img, t) =>
        let r := t.imageCheck img
        if r = 3 ∨ r = 4 then (fails snSigBad, t)
        else if r ≠ 0 then (badField 0, t)
        else if n ≠ 512 + imgBody img then (badField 8, t)
        else if flashOk then (doneOk [], t.writeSlot t.otherSlot img)
        else (fails snHwFault, t.eraseSlot t.otherSlot)

/-- FW_ACTIVATE. -/
def fwActivateTurn : Handler := fun c b _ s =>
  let w := bytesAt b 0 8
  let r := s.vault.bootRecord
  let bad := firstBad [(w % 8 = 0 || w.testBit 3 || fieldOf 5 4 w = 3 || 64 ≤ w, 0)]
  if s.vaultBad [vaultBoot] && bad.isNone then (fails snHwFault, s)
  else match s.judge c 0x0501 b bad true (!recTrial r && s.imageCheck (s.slotImage s.otherSlot) = 0) true with
    | some t => (t, s)
    | none => s.setRecord (putField 4 2 (w % 8) (putField 1 1 1 r)) (restartOf (fieldOf 5 4 w))

/-- FW_COMMIT. -/
def fwCommitTurn : Handler := fun c b _ s =>
  let w := bytesAt b 0 8
  let r := s.vault.bootRecord
  let bad := firstBad [(2 ≤ w, 0)]
  let fromTrial := s.fld .gctlBoot 11 8 = (if s.otherSlot then 2 else 1)
  if s.vaultBad [vaultBoot] && bad.isNone then (fails snHwFault, s)
  else match s.judge c 0x0502 b bad true (recTrial r && fromTrial) true with
    | some t => (t, s)
    | none =>
      let r := putField 0 0 (b2n s.otherSlot) (putField 1 1 0 r)
      s.setRecord (if w = 1 then putField 63 32 (max (minSvn r) s.snima.svn) r else r) .nothing

/-- FW_ROLLBACK. -/
def fwRollbackTurn : Handler := fun c b _ s =>
  let w := bytesAt b 0 8
  let r := s.vault.bootRecord
  let bad := firstBad [(w % 16 ≠ 0 || fieldOf 5 4 w = 3 || 64 ≤ w, 0)]
  if s.vaultBad [vaultBoot] && bad.isNone then (fails snHwFault, s)
  else match s.judge c 0x0503 b bad true (recTrial r) true with
    | some t => (t, s)
    | none => s.setRecord (putField 1 1 0 r) (restartOf (fieldOf 5 4 w))

/-- VERSION and SVN of a slot, 0 where it does not verify. -/
def State.slotVersion (s : State) (b : Bool) : List Byte :=
  let img := s.slotImage b
  if s.imageCheck img = 0 then natLe 4 (imgVersion img) ++ natLe 4 (imgSvn img) else natLe 8 0

/-- FW_STATUS. -/
def fwStatusTurn : Handler := fun c b _ s =>
  match s.judge c 0x0504 b none true true true with
  | some t => (t, s)
  | none =>
    if s.vaultBad [vaultBoot] then (fails snHwFault, s)
    else (doneOk (natLe 8 s.vault.bootRecord ++ s.slotVersion false ++ s.slotVersion true), s)

/-! ### The rows -/

/-- SESS_IMPORT (R119, R120). -/
def execSessImport (c : Fin 32) (s : State) : Result := liveM s (·.snimaAct c 0x0300 1 importLen sessImportTurn)
/-- SESS_GENERATE (R119, R120). -/
def execSessGenerate (c : Fin 32) (s : State) : Result := liveM s (·.snimaAct c 0x0301 1 (lenIs 56) sessGenerateTurn)
/-- SESS_EXPORT (R118, R120). -/
def execSessExport (c : Fin 32) (s : State) : Result := liveM s (·.snimaAct c 0x0302 1 (lenIs 8) sessExportTurn)
/-- SESS_POLICY (R117, R119). -/
def execSessPolicy (c : Fin 32) (s : State) : Result := liveM s (·.snimaAct c 0x0303 1 (lenIs 56) sessPolicyTurn)
/-- SESS_DESTROY (R117, R120, R413). -/
def execSessDestroy (c : Fin 32) (s : State) : Result := liveM s (·.snimaAct c 0x0304 1 (lenIs 8) sessDestroyTurn)
/-- SESS_QUERY (R115, R119). -/
def execSessQuery (c : Fin 32) (s : State) : Result := liveM s (·.snimaAct c 0x0305 0 (lenIs 8) sessQueryTurn)
/-- SESS_MIGRATE_OUT (R117, R121). -/
def execSessMigrateOut (c : Fin 32) (s : State) : Result := liveM s (·.snimaAct c 0x0306 1 (lenIs 16) sessMigrateOutTurn)
/-- SESS_ADOPT (R121). -/
def execSessAdopt (c : Fin 32) (s : State) : Result := liveM s (·.snimaAct c 0x0307 1 (lenIs 16) sessAdoptTurn)
/-- USED_FOLD (R115). -/
def execUsedFold (s : State) : Result := liveM s (·.usedFold)
/-- OPER_CLAIM (R122). -/
def execOperClaim (c : Fin 32) (s : State) : Result := live s (·.snimaAct c 0x0308 0 (lenIs 67) operClaimTurn)
/-- OPER_ENROLL (R122). -/
def execOperEnroll (c : Fin 32) (s : State) : Result := live s (·.snimaAct c 0x0309 1 (lenIs 75) operEnrollTurn)
/-- OPER_REVOKE (R122). -/
def execOperRevoke (c : Fin 32) (s : State) : Result := live s (·.snimaAct c 0x030A 1 (lenIs 8) operRevokeTurn)
/-- OPER_LIST (R119). -/
def execOperList (c : Fin 32) (s : State) : Result := live s (·.snimaAct c 0x030B 0 (lenIs 0) operListTurn)
/-- ATT_REPORT (R123, R124). -/
def execAttReport (c : Fin 32) (s : State) : Result := liveM s (·.snimaAct c 0x0400 0 (lenIs 40) attReportTurn)
/-- ATT_CERT (R124). -/
def execAttCert (c : Fin 32) (s : State) : Result := liveM s (·.snimaAct c 0x0401 0 (lenIs 8) attCertTurn)
/-- FW_STAGE (R127). -/
def execFwStage (c : Fin 32) (flashOk : Bool) (s : State) : Result := liveM s (·.snimaAct c 0x0500 1 (lenIs 16) (fwStageTurn flashOk))
/-- FW_ACTIVATE (R127). -/
def execFwActivate (c : Fin 32) (s : State) : Result := live s (·.snimaAct c 0x0501 1 (lenIs 8) fwActivateTurn)
/-- FW_COMMIT (R127). -/
def execFwCommit (c : Fin 32) (s : State) : Result := live s (·.snimaAct c 0x0502 1 (lenIs 8) fwCommitTurn)
/-- FW_ROLLBACK (R127). -/
def execFwRollback (c : Fin 32) (s : State) : Result := live s (·.snimaAct c 0x0503 1 (lenIs 8) fwRollbackTurn)
/-- FW_STATUS (R127). -/
def execFwStatus (c : Fin 32) (s : State) : Result := live s (·.snimaAct c 0x0504 0 (lenIs 0) fwStatusTurn)

end Sys2Proof.Machine
end

