-- ==== Sys2Proof/Machine/StoreRows.lean ====
section
/-! DEFINITION. What the Central Store does by itself: zeroing (R282), scrub (R283) and the retirement of pages (R285, R286). -/

namespace Sys2Proof.Machine

/-! ### Retirement -/

/-- The requester that a scrub's records name (R328). -/
def reqScrub : Nat := 0xFF

/-- One word of a page copied into a spare page through the code (R285): a single error is corrected on the way, an uncorrectable
word arrives poisoned. -/
def State.copyWord (s : State) (w v : Nat) : State :=
  let s := match tabGet .sound s.store.words w with
    | .single => s.corrected reqScrub w
    | _ => s
  { s with store := { s.store with
      mem := memWrite s.store.mem (v * 8) (memRead s.store.mem (w * 8) 8)
      words := tabSet .sound s.store.words v (tabGet .sound s.store.words w) } }

/-- The remap entries after page `p` has gone into the spare page of index `j`: an entry whose spare page `p` was moves there, and
its own becomes invalid (R285; log entry 40). -/
def remapMoved (t : Tab (Option Nat)) (p j : Nat) : Tab (Option Nat) :=
  match (t.find? (fun e => sparePage e.1 = p)) with
  | some (i, some q) => tabSet none (tabSet none t j (some q)) i none
  | _ => tabSet none t j (some p)

/-- A lasting page goes into the lowest free spare page. -/
def State.moveOut (s : State) (p : Nat) : State :=
  if s.bit .cstCtl 1 ∧ p ∈ s.store.lasting then
    match s.freeSpare with
    | none => s
    | some j =>
      let q := sparePage j
      let t := s.fault 0x61 0x08 (segOf (p * 4096)) (p + j * 2 ^ 18) (q * 4096)
      let t := (List.range 512).foldl (fun t i => t.copyWord (p * 512 + i) (q * 512 + i)) t
      let m := remapMoved t.store.remap p j
      let t := { t with store := { t.store with remap := m, lasting := t.store.lasting.filter (· ≠ p), unret := t.store.unret.filter (· ≠ p) } }
      t.vaultPut [vaultRetired + j / 2] (fun v => { v with retired := m })
  else s

/-- A request that waits at an arbiter for a page that has moved is withdrawn, and its burst is presented again where the page now is
(R285, step 6). -/
def State.presentAgain (s : State) (r : ArbReq) : State :=
  match (s.mover r.req).active.bind (fun t => (t.bursts.find? (·.num = r.burst)).map (fun b => (t, b))) with
  | none => s
  | some (t, b) =>
    let b' := { b with stage := if r.write then .writeWait else .readWait, credits := [] }
    ((s.dropBursts r.req [b]).setActive r.req { t with bursts := setBurst t.bursts b' }).run r.req

/-- The requests of commands' own accesses for a page that has moved (R285, step 6): what waits at its old place is withdrawn, and the
command presents it anew where the page now is; inbound requests keep their order of arrival, and a burst granted before stays so. -/
def State.rowsMove (s : State) (p : Nat) : State :=
  let anew := fun (r : ArbReq) => if r.row && r.page = some p then s.rowReq r.req r.write (r.burst / 512) r.lines else r
  let t := s.withdraw (fun r => r.page = some p)
  { t with arb := { t.arb with inbound := s.arb.inbound.map anew, made := s.arb.made.map anew } }

/-- PAGE_RETIRED, once no burst to the page holds a grant (R285, R296). -/
def State.retirePage (s : State) (p : Nat) : State :=
  let s := (s.arb.holder.map (·.1)).foldl (fun t g => t.giveUpRow g) s
  if s.arb.holder.any (fun e => e.2.any (fun r => r.page = some p)) then s
  else
    let held := s.arb.presented.filter (fun r => !r.row && r.page = some p)
    let t := s.moveOut p
    if p ∈ t.store.lasting then t else (held.foldl (fun t r => t.presentAgain r) (t.rowsMove p)).stayInPlace

/-- PAGE_RETIRED (R285). -/
def execPageRetired (page : Fin 262144) (s : State) : Result := liveC s (·.retirePage page)

/-! ### Scrub -/

/-- The words of a segment. -/
def segWords : Nat := 2 ^ 21

/-- CST_SCRUB.PERIOD as it acts, in units of 2^-40 s. -/
def State.scrubPeriod (s : State) : Nat := max 60 (s.fld .cstScrub 31 0) * second

/-- Whether a word is scrubbed: of the spare segments only pages in use (R283). -/
def State.scrubbed (s : State) (w : Nat) : Bool :=
  let p := w / 512
  p * 4096 < s.snima.layout.spareBase || s.store.remap.any (fun e => sparePage e.1 = p)

/-- Up to `n` words more of a segment's pass are read and corrected (R283); a pass that has read its last word waits for its period
to end. -/
def State.scrubStep (s : State) (g n : Nat) : State :=
  let start := tabGet 0 s.store.scrubStart g
  let s := if segWords ≤ tabGet 0 s.store.scrubPos g ∧ start + s.scrubPeriod ≤ s.clock then
      { s with store := { s.store with scrubPos := tabSet 0 s.store.scrubPos g 0
                                       scrubStart := tabSet 0 s.store.scrubStart g s.clock } }
    else s
  let pos := tabGet 0 s.store.scrubPos g
  let k := min n (segWords - pos)
  let words := (List.range k).map (fun i => g * segWords + pos + i)
  let t := (words.filter s.scrubbed).foldl (fun t w => t.readWord reqScrub w) s
  let t := if k = 0 then t else t.setFld .cstScrub 49 32 ((g * segWords + pos + k - 1) / 512)
  { t with store := { t.store with scrubPos := tabSet 0 t.store.scrubPos g (pos + k) } }

/-- Whether scrub runs in a segment: enabled, and the segment neither released nor under self-test. -/
def State.scrubOn (s : State) (g : Nat) : Bool :=
  s.bit .cstCtl 0 && s.fld .cstSeg 1 0 g ≠ 1 && s.fld .cstSeg 1 0 g ≠ 2

/-- Whether a segment's pass is behind: it has read less of the segment than has gone by of its period, or the pass is read and the next
is due. -/
def State.scrubBehind (s : State) (g : Nat) : Bool :=
  tabGet 0 s.store.scrubPos g * s.scrubPeriod < (s.clock - tabGet 0 s.store.scrubStart g) * segWords

/-- SCRUB_READ (R283): a handshake in which no request waits at the segment. -/
def execScrubRead (seg : Fin 64) (words : Nat) (upsets : List Upset) (s : State) : Result :=
  live s (fun s =>
    let s := s.upset upsets
    if s.scrubOn seg && !s.arb.presented.any (·.seg = seg) && (tabGet none s.arb.holder seg).isNone then s.scrubStep seg words else s)

/-- SCRUB_CATCH_UP (R283): one line, whatever waits. -/
def execScrubCatchUp (seg : Fin 64) (now : Nat) (upsets : List Upset) (s : State) : Result :=
  liveAt s now (fun s =>
    let s := s.upset upsets
    if s.scrubOn seg && s.scrubBehind seg then s.scrubStep seg 8 else s)

/-! ### Zeroing -/

/-- STORE_ZERO_COMPLETE (R45, R282). -/
def execStoreZeroComplete (s : State) : Result :=
  live s (fun s => if s.store.zeroing then
    { s with store := { s.store with zeroing := false }, log := { s.log with hold := false } } else s)

end Sys2Proof.Machine
end

