-- ==== Sys2Proof/Machine/TimeRows.lean ====
section
/-! DEFINITION. The commands of the time core and the stamp-log writer (R20 to R46). Each says what Time it is where Time is what
makes it due; one that is not due changes nothing else (log entry 2). -/

namespace Sys2Proof.Machine

/-- TIME_STATUS (R40). -/
def execTimeStatus (now : Nat) (s : State) : Result := liveAt s now (fun s => s.statusSecond s.time.now)
/-- PPS_IN_EDGE (R32). -/
def execPpsInEdge (rising : Bool) (now : Nat) (s : State) : Result := liveAt s now (·.ppsEdge rising)
/-- PPS_OUT_RISE (R35). -/
def execPpsOutRise (now : Nat) (s : State) : Result := liveAt s now (·.ppsRises)
/-- PPS_OUT_FALL (R35). -/
def execPpsOutFall (now : Nat) (s : State) : Result := liveAt s now (·.ppsFalls)
/-- REFERENCE_LOST (R33). -/
def execReferenceLost (now : Nat) (s : State) : Result := liveAt s now (·.refLost)
/-- REFERENCE_RETURN (R33). -/
def execReferenceReturn (now : Nat) (s : State) : Result := liveAt s now (·.refReturns)
/-- REFERENCE_LOCKED (R33, R353). -/
def execReferenceLocked (now : Nat) (s : State) : Result := liveAt s now (·.refLocks)
/-- ALWAYS_LOGGED_RECORD_ENTRY (R42). -/
def execAlwaysLoggedRecordEntry (s : State) : Result := live s (·.logEnter)
/-- LOG_LOST_RECORD (R42). -/
def execLogLostRecord (s : State) : Result := live s (·.logLost)
/-- LOG_BATCH_WRITE (R43). -/
def execLogBatchWrite (s : State) : Result := liveM s (·.logBatch)
/-- LOG_TMO_EXPIRY (R43). -/
def execLogTmoExpiry (now : Nat) (s : State) : Result := liveMAt s now (·.logTimeout)

end Sys2Proof.Machine
end

