-- ==== Sys2Proof/Machine/Dispatch.lean ====
section
/-! DEFINITION. One arm for each command of the table: its meaning. -/

namespace Sys2Proof.Machine

/-- The effect of a command on everything but the queue. -/
def exec (i : Instr) (s : State) : Host.Outcome State Fault Refusal :=
  match i with
  | .registerWrite m off acc data => Sys2Proof.Machine.execRegisterWrite m off acc data s
  | .unmappedAccess m addr len write => Sys2Proof.Machine.execUnmappedAccess m addr len write s
  | .timeNowLoRead m acc => Sys2Proof.Machine.execTimeNowLoRead m acc s
  | .timeCtlWrite m acc data => Sys2Proof.Machine.execTimeCtlWrite m acc data s
  | .timeStatus now => Sys2Proof.Machine.execTimeStatus now s
  | .ppsInEdge rising now => Sys2Proof.Machine.execPpsInEdge rising now s
  | .ppsOutRise now => Sys2Proof.Machine.execPpsOutRise now s
  | .ppsOutFall now => Sys2Proof.Machine.execPpsOutFall now s
  | .referenceLost now => Sys2Proof.Machine.execReferenceLost now s
  | .referenceReturn now => Sys2Proof.Machine.execReferenceReturn now s
  | .alwaysLoggedRecordEntry => Sys2Proof.Machine.execAlwaysLoggedRecordEntry s
  | .logLostRecord => Sys2Proof.Machine.execLogLostRecord s
  | .logBatchWrite => Sys2Proof.Machine.execLogBatchWrite s
  | .logTmoExpiry now => Sys2Proof.Machine.execLogTmoExpiry now s
  | .logFlush m cut => Sys2Proof.Machine.execLogFlush m cut s
  | .logLostRead m acc => Sys2Proof.Machine.execLogLostRead m acc s
  | .lckSemRead m n acc => Sys2Proof.Machine.execLckSemRead m n acc s
  | .lckSemWrite m n acc data => Sys2Proof.Machine.execLckSemWrite m n acc data s
  | .mbxInPost m c acc => Sys2Proof.Machine.execMbxInPost m c acc s
  | .mbxOutPost m c acc => Sys2Proof.Machine.execMbxOutPost m c acc s
  | .mbxInPop m c => Sys2Proof.Machine.execMbxInPop m c s
  | .mbxOutPop m c => Sys2Proof.Machine.execMbxOutPop m c s
  | .flushIn m c => Sys2Proof.Machine.execFlushIn m c s
  | .flushOut m c => Sys2Proof.Machine.execFlushOut m c s
  | .bumpIn m c => Sys2Proof.Machine.execBumpIn m c s
  | .mbxRtoWrite m c acc data => Sys2Proof.Machine.execMbxRtoWrite m c acc data s
  | .bumpOut m c => Sys2Proof.Machine.execBumpOut m c s
  | .mbxStaleClear m c => Sys2Proof.Machine.execMbxStaleClear m c s
  | .mbxReadTimeout c now => Sys2Proof.Machine.execMbxReadTimeout c now s
  | .snimaResponsePosted c => Sys2Proof.Machine.execSnimaResponsePosted c s
  | .devInfo c => Sys2Proof.Machine.execDevInfo c s
  | .devHealth c => Sys2Proof.Machine.execDevHealth c s
  | .operNonce c => Sys2Proof.Machine.execOperNonce c s
  | .operOpen c => Sys2Proof.Machine.execOperOpen c s
  | .drvAttach c ans => Sys2Proof.Machine.execDrvAttach c ans s
  | .operClose c => Sys2Proof.Machine.execOperClose c s
  | .devRestart c => Sys2Proof.Machine.execDevRestart c s
  | .layoutGet c => Sys2Proof.Machine.execLayoutGet c s
  | .layoutSet c => Sys2Proof.Machine.execLayoutSet c s
  | .cqCreate c => Sys2Proof.Machine.execCqCreate c s
  | .driveReadyTimeout c now => Sys2Proof.Machine.execDriveReadyTimeout c now s
  | .sqCreate c => Sys2Proof.Machine.execSqCreate c s
  | .sqDelete c => Sys2Proof.Machine.execSqDelete c s
  | .cqDelete c => Sys2Proof.Machine.execCqDelete c s
  | .qQuery c => Sys2Proof.Machine.execQQuery c s
  | .drvList c => Sys2Proof.Machine.execDrvList c s
  | .drvAdmin c ans => Sys2Proof.Machine.execDrvAdmin c ans s
  | .drvDetach c => Sys2Proof.Machine.execDrvDetach c s
  | .drvAdminTimeout c now => Sys2Proof.Machine.execDrvAdminTimeout c now s
  | .segRelease c => Sys2Proof.Machine.execSegRelease c s
  | .segReturn c => Sys2Proof.Machine.execSegReturn c s
  | .storeBist c ans => Sys2Proof.Machine.execStoreBist c ans s
  | .cryptoKat c ans => Sys2Proof.Machine.execCryptoKat c ans s
  | .calStatus c => Sys2Proof.Machine.execCalStatus c s
  | .tampArm c => Sys2Proof.Machine.execTampArm c s
  | .bootStaged => Sys2Proof.Machine.execBootStaged s
  | .sessImport c => Sys2Proof.Machine.execSessImport c s
  | .sessGenerate c => Sys2Proof.Machine.execSessGenerate c s
  | .sessExport c => Sys2Proof.Machine.execSessExport c s
  | .sessPolicy c => Sys2Proof.Machine.execSessPolicy c s
  | .sessDestroy c => Sys2Proof.Machine.execSessDestroy c s
  | .fwStage c flashOk => Sys2Proof.Machine.execFwStage c flashOk s
  | .sessQuery c => Sys2Proof.Machine.execSessQuery c s
  | .sessMigrateOut c => Sys2Proof.Machine.execSessMigrateOut c s
  | .sessAdopt c => Sys2Proof.Machine.execSessAdopt c s
  | .operClaim c => Sys2Proof.Machine.execOperClaim c s
  | .operEnroll c => Sys2Proof.Machine.execOperEnroll c s
  | .usedFold => Sys2Proof.Machine.execUsedFold s
  | .operRevoke c => Sys2Proof.Machine.execOperRevoke c s
  | .operList c => Sys2Proof.Machine.execOperList c s
  | .attReport c => Sys2Proof.Machine.execAttReport c s
  | .attCert c => Sys2Proof.Machine.execAttCert c s
  | .fwActivate c => Sys2Proof.Machine.execFwActivate c s
  | .countOnlyToList => Sys2Proof.Machine.execCountOnlyToList s
  | .fwCommit c => Sys2Proof.Machine.execFwCommit c s
  | .fwRollback c => Sys2Proof.Machine.execFwRollback c s
  | .fwStatus c => Sys2Proof.Machine.execFwStatus c s
  | .fleetStatus c => Sys2Proof.Machine.execFleetStatus c s
  | .fleetCreate c => Sys2Proof.Machine.execFleetCreate c s
  | .keyCacheEviction => Sys2Proof.Machine.execKeyCacheEviction s
  | .fleetAdmit c => Sys2Proof.Machine.execFleetAdmit c s
  | .fleetJoin c => Sys2Proof.Machine.execFleetJoin c s
  | .fleetLeave c => Sys2Proof.Machine.execFleetLeave c s
  | .timeSet c => Sys2Proof.Machine.execTimeSet c s
  | .mbxRelay c => Sys2Proof.Machine.execMbxRelay c s
  | .chmSq m q acc => Sys2Proof.Machine.execChmSq m q acc s
  | .fleetAttest c => Sys2Proof.Machine.execFleetAttest c s
  | .recSend c => Sys2Proof.Machine.execRecSend c s
  | .bootImageLoaded readOk => Sys2Proof.Machine.execBootImageLoaded readOk s
  | .chmCq m q acc data => Sys2Proof.Machine.execChmCq m q acc data s
  | .sqEnable m q => Sys2Proof.Machine.execSqEnable m q s
  | .sqDisable m q => Sys2Proof.Machine.execSqDisable m q s
  | .cqEnable m q => Sys2Proof.Machine.execCqEnable m q s
  | .cqDisable m q => Sys2Proof.Machine.execCqDisable m q s
  | .fetchGrant => Sys2Proof.Machine.execFetchGrant s
  | .windowDataReturn q data => Sys2Proof.Machine.execWindowDataReturn q data s
  | .tailReadReturn q word => Sys2Proof.Machine.execTailReadReturn q word s
  | .headReadReturn q word => Sys2Proof.Machine.execHeadReadReturn q word s
  | .ringReadFail q kind cause => Sys2Proof.Machine.execRingReadFail q kind cause s
  | .repollExpiry q now => Sys2Proof.Machine.execRepollExpiry q now s
  | .sqeStart q => Sys2Proof.Machine.execSqeStart q s
  | .sqeResume q => Sys2Proof.Machine.execSqeResume q s
  | .sqeStop q => Sys2Proof.Machine.execSqeStop q s
  | .sqeNop q => Sys2Proof.Machine.execSqeNop q s
  | .dispatch q => Sys2Proof.Machine.execDispatch q s
  | .notBeforeReached ch now => Sys2Proof.Machine.execNotBeforeReached ch now s
  | .cqePost q => Sys2Proof.Machine.execCqePost q s
  | .ballastToRing q => Sys2Proof.Machine.execBallastToRing q s
  | .heldCqeToBallast q => Sys2Proof.Machine.execHeldCqeToBallast q s
  | .commandFetch ch rd => Sys2Proof.Machine.execCommandFetch ch rd s
  | .move ch => Sys2Proof.Machine.execMove ch s
  | .xform ch => Sys2Proof.Machine.execXform ch s
  | .seal ch => Sys2Proof.Machine.execSeal ch s
  | .unseal ch => Sys2Proof.Machine.execUnseal ch s
  | .digest ch => Sys2Proof.Machine.execDigest ch s
  | .nvme ch rd => Sys2Proof.Machine.execNvme ch rd s
  | .sign ch => Sys2Proof.Machine.execSign ch s
  | .verify ch => Sys2Proof.Machine.execVerify ch s
  | .fill ch => Sys2Proof.Machine.execFill ch s
  | .compare ch => Sys2Proof.Machine.execCompare ch s
  | .stamp ch => Sys2Proof.Machine.execStamp ch s
  | .cont ch rd => Sys2Proof.Machine.execCont ch rd s
  | .tic ch => Sys2Proof.Machine.execTic ch s
  | .branch ch => Sys2Proof.Machine.execBranch ch s
  | .wait ch => Sys2Proof.Machine.execWait ch s
  | .signal ch => Sys2Proof.Machine.execSignal ch s
  | .hold ch => Sys2Proof.Machine.execHold ch s
  | .waitTimeout ch now => Sys2Proof.Machine.execWaitTimeout ch now s
  | .nop ch => Sys2Proof.Machine.execNop ch s
  | .post ch => Sys2Proof.Machine.execPost ch s
  | .holdTargetReached ch now => Sys2Proof.Machine.execHoldTargetReached ch now s
  | .driveCompletion drv cid dw0 status => Sys2Proof.Machine.execDriveCompletion drv cid dw0 status s
  | .nvmeCompletionTimeout ch now => Sys2Proof.Machine.execNvmeCompletionTimeout ch now s
  | .driveCqScan drv qid => Sys2Proof.Machine.execDriveCqScan drv qid s
  | .bkpIrq m drv data => Sys2Proof.Machine.execBkpIrq m drv data s
  | .zeroLengthReadDone ch zone ok => Sys2Proof.Machine.execZeroLengthReadDone ch zone ok s
  | .cpWriteResponse ch res => Sys2Proof.Machine.execCpWriteResponse ch res s
  | .chnStop m ch => Sys2Proof.Machine.execChnStop m ch s
  | .chnResume m ch => Sys2Proof.Machine.execChnResume m ch s
  | .relRetry m ch => Sys2Proof.Machine.execRelRetry m ch s
  | .relSkipOn m ch rd => Sys2Proof.Machine.execRelSkipOn m ch rd s
  | .relAbort m ch => Sys2Proof.Machine.execRelAbort m ch s
  | .loopGuardExhausted ch => Sys2Proof.Machine.execLoopGuardExhausted ch s
  | .commandTimeout ch now => Sys2Proof.Machine.execCommandTimeout ch now s
  | .graceExhausted ch now => Sys2Proof.Machine.execGraceExhausted ch now s
  | .moverTaken => Sys2Proof.Machine.execMoverTaken s
  | .cryptoUnitTaken kind => Sys2Proof.Machine.execCryptoUnitTaken kind s
  | .keyFillStart => Sys2Proof.Machine.execKeyFillStart s
  | .keyFillComplete n => Sys2Proof.Machine.execKeyFillComplete n s
  | .movGo m mv => Sys2Proof.Machine.execMovGo m mv s
  | .movCancel m mv => Sys2Proof.Machine.execMovCancel m mv s
  | .movDropSh m mv => Sys2Proof.Machine.execMovDropSh m mv s
  | .movRelRetry m mv => Sys2Proof.Machine.execMovRelRetry m mv s
  | .movRelAbort m mv => Sys2Proof.Machine.execMovRelAbort m mv s
  | .movCfgWrite m mv acc data => Sys2Proof.Machine.execMovCfgWrite m mv acc data s
  | .movModeChange mv => Sys2Proof.Machine.execMovModeChange mv s
  | .arbGrant seg => Sys2Proof.Machine.execArbGrant seg s
  | .tetherRelease n now => Sys2Proof.Machine.execTetherRelease n now s
  | .burstReadData mv rd upsets => Sys2Proof.Machine.execBurstReadData mv rd upsets s
  | .burstWriteResponse mv res => Sys2Proof.Machine.execBurstWriteResponse mv res s
  | .pageRetired page => Sys2Proof.Machine.execPageRetired page s
  | .scrubRead seg words upsets => Sys2Proof.Machine.execScrubRead seg words upsets s
  | .scrubCatchUp seg now upsets => Sys2Proof.Machine.execScrubCatchUp seg now upsets s
  | .storeZeroComplete => Sys2Proof.Machine.execStoreZeroComplete s
  | .arbCommit m => Sys2Proof.Machine.execArbCommit m s
  | .arbTetherRead m n acc => Sys2Proof.Machine.execArbTetherRead m n acc s
  | .carSourceEvent src => Sys2Proof.Machine.execCarSourceEvent src s
  | .carFire m chn => Sys2Proof.Machine.execCarFire m chn s
  | .deferredStrike => Sys2Proof.Machine.execDeferredStrike s
  | .carMergeCntRead m acc => Sys2Proof.Machine.execCarMergeCntRead m acc s
  | .irqDelivery core => Sys2Proof.Machine.execIrqDelivery core s
  | .irqLateArrival core => Sys2Proof.Machine.execIrqLateArrival core s
  | .handlerReturn core => Sys2Proof.Machine.execHandlerReturn core s
  | .ircMcEoi m core src => Sys2Proof.Machine.execIrcMcEoi m core src s
  | .ircVcomp m port vec => Sys2Proof.Machine.execIrcVcomp m port vec s
  | .msixMessage port => Sys2Proof.Machine.execMsixMessage port s
  | .msixHoldEnd port vec => Sys2Proof.Machine.execMsixHoldEnd port vec s
  | .damperIntervalEnd g now => Sys2Proof.Machine.execDamperIntervalEnd g now s
  | .ircSrcWrite m n acc data => Sys2Proof.Machine.execIrcSrcWrite m n acc data s
  | .ircDampRead m g acc => Sys2Proof.Machine.execIrcDampRead m g acc s
  | .fltErrPop m => Sys2Proof.Machine.execFltErrPop m s
  | .fltErrLostRead m acc => Sys2Proof.Machine.execFltErrLostRead m acc s
  | .fltStaleRead m acc => Sys2Proof.Machine.execFltStaleRead m acc s
  | .fltTmoCntRead m acc => Sys2Proof.Machine.execFltTmoCntRead m acc s
  | .linkCe k kind now => Sys2Proof.Machine.execLinkCe k kind now s
  | .staleCompletion k idx cause => Sys2Proof.Machine.execStaleCompletion k idx cause s
  | .gctlLockForce m => Sys2Proof.Machine.execGctlLockForce m s
  | .lockdownQuiesced => Sys2Proof.Machine.execLockdownQuiesced s
  | .pcieCompletionTimeout mv now => Sys2Proof.Machine.execPcieCompletionTimeout mv now s
  | .syncReq p f t2 t3 => Sys2Proof.Machine.execSyncReq p f t2 t3 s
  | .syncRsp p f t4 => Sys2Proof.Machine.execSyncRsp p f t4 s
  | .announce p f now => Sys2Proof.Machine.execAnnounce p f now s
  | .announcePeriod now => Sys2Proof.Machine.execAnnouncePeriod now s
  | .syncPeriod now => Sys2Proof.Machine.execSyncPeriod now s
  | .parentLoss now => Sys2Proof.Machine.execParentLoss now s
  | .gmSilence now => Sys2Proof.Machine.execGmSilence now s
  | .hello p f => Sys2Proof.Machine.execHello p f s
  | .challenge p f => Sys2Proof.Machine.execChallenge p f s
  | .proof p f => Sys2Proof.Machine.execProof p f s
  | .grant p f => Sys2Proof.Machine.execGrant p f s
  | .joinStepTimeout now => Sys2Proof.Machine.execJoinStepTimeout now s
  | .admissionLapse node now => Sys2Proof.Machine.execAdmissionLapse node now s
  | .attReq p f => Sys2Proof.Machine.execAttReq p f s
  | .attRsp p f => Sys2Proof.Machine.execAttRsp p f s
  | .mbxReq p f => Sys2Proof.Machine.execMbxReq p f s
  | .mbxRsp p f => Sys2Proof.Machine.execMbxRsp p f s
  | .fnzPortRead m p acc => Sys2Proof.Machine.execFnzPortRead m p acc s
  | .recRecv p f => Sys2Proof.Machine.execRecRecv p f s
  | .recAck p f => Sys2Proof.Machine.execRecAck p f s
  | .relayTimeout xid now => Sys2Proof.Machine.execRelayTimeout xid now s
  | .frameForward p f => Sys2Proof.Machine.execFrameForward p f s
  | .fnzLoopbackCal p now => Sys2Proof.Machine.execFnzLoopbackCal p now s
  | .dlUp k speed width flit => Sys2Proof.Machine.execDlUp k speed width flit s
  | .dlDown k => Sys2Proof.Machine.execDlDown k s
  | .linkSpeedChange k speed => Sys2Proof.Machine.execLinkSpeedChange k speed s
  | .linkWidthChange k width => Sys2Proof.Machine.execLinkWidthChange k width s
  | .presenceDetectChange k present => Sys2Proof.Machine.execPresenceDetectChange k present s
  | .errCor k => Sys2Proof.Machine.execErrCor k s
  | .errNonfatal k => Sys2Proof.Machine.execErrNonfatal k s
  | .errFatal k => Sys2Proof.Machine.execErrFatal k s
  | .recoveryEntry k now => Sys2Proof.Machine.execRecoveryEntry k now s
  | .recoveryExit k now => Sys2Proof.Machine.execRecoveryExit k now s
  | .lnkRetrain m k => Sys2Proof.Machine.execLnkRetrain m k s
  | .lnkBifWrite m port split => Sys2Proof.Machine.execLnkBifWrite m port split s
  | .lnkDisableWrite m k disable => Sys2Proof.Machine.execLnkDisableWrite m k disable s
  | .lnkEvtRead m k acc => Sys2Proof.Machine.execLnkEvtRead m k acc s
  | .inboundMemoryRequest m req => Sys2Proof.Machine.execInboundMemoryRequest m req s
  | .configSpaceWrite port w => Sys2Proof.Machine.execConfigSpaceWrite port w s
  | .functionLevelReset port => Sys2Proof.Machine.execFunctionLevelReset port s
  | .hotReset port => Sys2Proof.Machine.execHotReset port s
  | .hostPerstAssert port => Sys2Proof.Machine.execHostPerstAssert port s
  | .hostPerstDeassert port => Sys2Proof.Machine.execHostPerstDeassert port s
  | .railsUp offTime => Sys2Proof.Machine.execRailsUp offTime s
  | .sysRstAssert => Sys2Proof.Machine.execSysRstAssert s
  | .supervisorTrip rail => Sys2Proof.Machine.execSupervisorTrip rail s
  | .sysRstRelease => Sys2Proof.Machine.execSysRstRelease s
  | .gctlRstWarm m => Sys2Proof.Machine.execGctlRstWarm m s
  | .vaonLost => Sys2Proof.Machine.execVaonLost s
  | .vaonReturn => Sys2Proof.Machine.execVaonReturn s
  | .pwrVreqWrite m acc data => Sys2Proof.Machine.execPwrVreqWrite m acc data s
  | .pwrVrmWrite m acc data => Sys2Proof.Machine.execPwrVrmWrite m acc data s
  | .pmbusTransactionDone ans => Sys2Proof.Machine.execPmbusTransactionDone ans s
  | .paceRefresh readings now => Sys2Proof.Machine.execPaceRefresh readings now s
  | .anaPaceRead m i0 acc => Sys2Proof.Machine.execAnaPaceRead m i0 acc s
  | .pwrLaneWrite m acc data => Sys2Proof.Machine.execPwrLaneWrite m acc data s
  | .lanePathSwap lane adapted now => Sys2Proof.Machine.execLanePathSwap lane adapted now s
  | .tdcRoleSwap dom now => Sys2Proof.Machine.execTdcRoleSwap dom now s
  | .backgroundKat ans now => Sys2Proof.Machine.execBackgroundKat ans now s
  | .drbgReseed inst now => Sys2Proof.Machine.execDrbgReseed inst now s
  | .entropyHealthFail test => Sys2Proof.Machine.execEntropyHealthFail test s
  | .entropyStartupPass => Sys2Proof.Machine.execEntropyStartupPass s
  | .tempSensorRefresh readings now => Sys2Proof.Machine.execTempSensorRefresh readings now s
  | .voltSensorRefresh readings now => Sys2Proof.Machine.execVoltSensorRefresh readings now s
  | .tamperDetect src arg => Sys2Proof.Machine.execTamperDetect src arg s
  | .tamperDetectStandby src arg => Sys2Proof.Machine.execTamperDetectStandby src arg s
  | .tamperSeen src detecting => Sys2Proof.Machine.execTamperSeen src detecting s
  | .vaultScrub corrected uncorrectable now => Sys2Proof.Machine.execVaultScrub corrected uncorrectable now s
  | .gpioEdge k level => Sys2Proof.Machine.execGpioEdge k level s
  | .gpioCfgWrite m k acc data => Sys2Proof.Machine.execGpioCfgWrite m k acc data s
  | .sidebandRead cmd => Sys2Proof.Machine.execSidebandRead cmd s
  | .bypass => Sys2Proof.Machine.execBypass s
  | .idcode => Sys2Proof.Machine.execIdcode s
  | .samplePreload pins => Sys2Proof.Machine.execSamplePreload pins s
  | .extest => Sys2Proof.Machine.execExtest s
  | .extestPulse => Sys2Proof.Machine.execExtestPulse s
  | .extestTrain => Sys2Proof.Machine.execExtestTrain s
  | .highz => Sys2Proof.Machine.execHighz s
  | .clamp => Sys2Proof.Machine.execClamp s
  | .referenceLocked now => Sys2Proof.Machine.execReferenceLocked now s
  | .p521OperationComplete unit => Sys2Proof.Machine.execP521OperationComplete unit s
  | .bkpPerstRelease k now => Sys2Proof.Machine.execBkpPerstRelease k now s
  | .sidebandBusFree => Sys2Proof.Machine.execSidebandBusFree s
  | .undefinedSnimaCommand c => Sys2Proof.Machine.execUndefinedSnimaCommand c s

end Sys2Proof.Machine
end

