-- ==== Sys2Proof/Safety.lean ====
section
/-! DEFINITION. What claims about runs speak of: when the part answers commands, which commands cold reset and Lockdown stop,
which registers there are, and the canonical form of the state's memories. -/

namespace Sys2Proof.Machine

/-- The part is out of cold reset: commands reach it (R387). -/
abbrev Running (s : State) : Prop := s.power.coldReset = false

/-- The part runs and is not in Lockdown (R339). -/
abbrev Free (s : State) : Prop := Running s ∧ s.locked = false

/-- The registers that the map lists (R53): as many of each kind as it says; only back-end links have a window and an interrupt
register. -/
def Reg.valid (r : Reg) : Bool :=
  if r.kind.isLink then r.i < 10 && r.j = 0 && (2 ≤ r.i || (r.kind ≠ .bkpWin && r.kind ≠ .bkpIrq))
  else r.i < r.kind.info.n1 && r.j < r.kind.info.n2

/-- A register after a read that clears the bits `gone` of it. -/
def State.afterRead (s : State) (r : Reg) (gone : Nat) : State :=
  if gone = 0 then s else s.setRg r.kind (s.rg r.kind r.i r.j &&& (2 ^ 64 - 1 - gone)) r.i r.j

/-- A data command that moves bytes waits for a mover, behind those that came before it. -/
def State.waitsForMover (s : State) (c : Nat) : State :=
  (fun (t : State) => { t with moverWait := t.moverWait ++ [c] }) (s.setChan c { s.chan c with stage := .moverWait })

/-- A data command that moves nothing ends at once, all of its chain with it (R191). -/
def State.movesNothing (s : State) (c : Nat) : State :=
  let ch := s.chan c
  (s.setChan c { ch with pos := ch.chain.length - 1 }).endCmd c (if ch.chain.any (·.cmd.dry) then 0x02 else 0x00) 0 0

/-- Snima takes a message of command `cmd` at mailbox `c` and lets it through (R74 to R88): Snima runs and is not busy there, no test
of the DRBG holds a command that draws (R103), the message `q` is next, it carries the mailbox's epoch, and its MAC, class, flags and length pass. `t` is the state that its handler
meets. -/
def State.snimaTakes (s : State) (c cmd cls : Nat) (lenOk : List Byte → Bool) (q : Pending) (t : State) (drop : Bool) : Prop :=
  s.snimaUp = true ∧ (drawsRandom cmd && s.snima.kats.any (·.1 = 3)) = false ∧ (s.box c).busy = none ∧
    ∃ u, s.takeMsg c (fun n => n = cmd) = some (q, u) ∧ msgEpoch q.msg = u.epoch c false ∧
      u.gate c cls true lenOk q.msg = (.pass drop, t)

/-- A frame of one kind reaches the part at port `p` and is for it (R343, R347 to R350): the port is up, the frame is good and of this
fleet, it did not start here, and it is addressed to this node (an ANNOUNCE to all). -/
abbrev State.hears (s : State) (p : Nat) (f : Frame) (kind sub : Nat) : Prop :=
  let h := headerOf f.bytes
  s.bit .fnzPort 0 p = true ∧ frameGood f = true ∧ s.fleetFits h = true ∧ (s.locked = false ∨ kind = 1) ∧
    (s.vault.member && h.src = s.vault.node) = false ∧ h.kind = kind ∧ h.sub = sub ∧
    h.dst = (if kind = 1 ∧ sub = 3 then 0x3FFFF else s.fnzNode) ∧ (kind = 1 ∨ s.snimaUp = true)

/-- The rows whose step the part does not begin in Lockdown (R339 step 2, R308): windows, entries, dispatches, commands, movers, crypto
units and the key cache's own work. -/
def heldInLockdown : Instr → Bool
  | .commandFetch _ _ | .move _ | .xform _ | .seal _ | .unseal _ | .digest _ | .sign _ | .verify _ | .fill _ | .compare _
  | .cont _ _ | .stamp _ | .tic _ | .branch _ | .wait _ | .signal _ | .hold _ | .nop _ | .post _ | .waitTimeout _ _
  | .holdTargetReached _ _ | .zeroLengthReadDone _ _ _ | .cpWriteResponse _ _ | .loopGuardExhausted _ | .commandTimeout _ _
  | .graceExhausted _ _ | .moverTaken | .cryptoUnitTaken _ | .p521OperationComplete _ | .keyFillStart | .keyFillComplete _
  | .keyCacheEviction | .countOnlyToList | .tetherRelease _ _ | .burstReadData _ _ _ | .burstWriteResponse _ _
  | .pcieCompletionTimeout _ _ | .nvme _ _ | .nvmeCompletionTimeout _ _ | .driveCqScan _ _
  | .joinStepTimeout _ | .relayTimeout _ _ | .fetchGrant | .tailReadReturn _ _ | .headReadReturn _ _
  | .ringReadFail _ _ _ | .repollExpiry _ _ | .sqeStart _ | .sqeResume _ | .sqeStop _ | .sqeNop _ | .dispatch _
  | .notBeforeReached _ _ | .cqePost _ | .ballastToRing _ | .heldCqeToBallast _ | .relSkipOn _ _ _ | .movModeChange _ => true
  | _ => false

/-- The rows after which Time may stand lower than before: the exchange that ends a join (R353), and those at which Time restarts, a cold
reset or the rails' rise without VAON and VAON's return (R34, R386). -/
def setsTimeBack : Instr → Bool
  | .syncRsp _ _ _ | .railsUp _ | .vaonReturn | .sysRstAssert | .supervisorTrip _ => true
  | _ => false

/-- Time is `T` or later, and no command that may set it back waits. -/
abbrev TimeFrom (T : Nat) (s : State) : Prop := T ≤ s.time.now ∧ ∀ c ∈ s.pending, setsTimeBack c = false

/-- The fields of a Stamp lie in their widths (R22). -/
abbrev Stamp.fits (x : Stamp) : Prop := x.time < 2 ^ 80 ∧ x.node < 2 ^ 18 ∧ x.domain < 2 ^ 8 ∧ x.seq < 2 ^ 22

/-- The rows that answer in cold reset too: power, the JTAG port, the sideband, the tamper sensors in standby, and the levels of the
PERST_N and BKP_PRSNT_N inputs. -/
def actsInColdReset : Instr → Bool
  | .railsUp _ | .sysRstAssert | .supervisorTrip _ | .sysRstRelease | .vaonLost | .vaonReturn | .sidebandRead _ | .bypass
  | .idcode | .samplePreload _ | .extest | .extestPulse | .extestTrain | .highz | .clamp | .tamperDetectStandby _ _
  | .tamperSeen _ _ | .hostPerstAssert _ | .hostPerstDeassert _ | .presenceDetectChange _ _ => true
  | _ => false

end Sys2Proof.Machine
end

