-- ==== Sys2Proof/WellFormed.lean ====
section
/-! DEFINITION. Which commands the surroundings of the part can send: masters of R10, Times of 80 bits, the lengths that
the part's units and the links' formats fix. A command that is not well formed still has its effect as written; nothing
outside the part makes one. -/

namespace Sys2Proof

/-- The master IDs of R10. -/
def masterOk (m : BitVec 8) : Bool :=
  let n := m.toNat
  n = 0 || (1 ≤ n && n ≤ 0x10) || (0x20 ≤ n && n ≤ 0x60) || n = 0x63 || (0x68 ≤ n && n ≤ 0x6B) || n = 0x70 || n = 0x71
    || (0x74 ≤ n && n ≤ 0x79)

/-- A Time of 80 bits (R20). -/
def timeOk (t : Nat) : Bool := t < 2 ^ 80

/-- A frame of at most 1,500 bytes of client data (R346). -/
def Frame.wf (f : Frame) : Bool := f.bytes.length ≤ 1500

/-- A link width (R362). -/
def widthOk (w : Nat) : Bool := w = 1 || w = 2 || w = 4 || w = 8 || w = 16

/-- A word of a Central Store word's upset lies in the store (R277). -/
def Upset.wf (u : Upset) : Bool := u.word < 2 ^ 27

/-- What a link read brings back in one burst: at most 512 bytes (R236). -/
def ReadResult.wf : ReadResult → Bool
  | .ok d => d.length ≤ 512
  | .fail .. => true

/-- An inbound request: a read of at most 4,096 bytes (R369), byte enables for every byte written. -/
def MemRequest.wf : MemRequest → Bool
  | .unsupported => true
  | .read _ n be => 0 < n && n ≤ 4096 && be.length = n
  | .write _ d be _ => 0 < d.length && be.length = d.length

/-- A configuration write as PCIe allows it. -/
def ConfigWrite.wf : ConfigWrite → Bool
  | .maxPayload n => n = 128 || n = 256 || n = 512
  | .completionTimeout us => (50 ≤ us && us ≤ 10000) || (16000 ≤ us && us ≤ 900000) || (1000000 ≤ us && us ≤ 64000000)
  | .maxReadRequest n => n = 128 || n = 256 || n = 512 || n = 1024 || n = 2048 || n = 4096
  | _ => true

/-- What the sensor of a tamper source tells (R406, R411): TAMPER_IN 0 to 3 their level, the mesh one of its four findings, the VDD glitch
and the temperature a value, the others nothing; source 9 has no sensor. -/
def TamperSense.wf (src : Nat) : TamperSense → Bool
  | .pin _ => src < 4
  | .other v =>
    if src = 4 then 1 ≤ v.toNat && v.toNat ≤ 4 else src = 5 || src = 6 || ((src = 7 || src = 8) && v = 0)

/-- Words of the vault, each named once (R413). -/
def vaultWordsOk (l : List Nat) : Bool := l.all (· < 0x100000) && l.eraseDups.length = l.length

/-- A command that the surroundings of the part can send. -/
def Instr.wf : Instr → Bool
  | .registerWrite m off _ _ => masterOk m && off < 0x4000000
  | .unmappedAccess m _ _ _ | .timeNowLoRead m _ | .timeCtlWrite m _ _ | .logFlush m _ | .logLostRead m _
  | .lckSemRead m _ _ | .lckSemWrite m _ _ _ | .mbxInPost m _ _ | .mbxOutPost m _ _ | .mbxInPop m _ | .mbxOutPop m _
  | .flushIn m _ | .flushOut m _ | .bumpIn m _ | .bumpOut m _ | .mbxStaleClear m _ | .mbxRtoWrite m _ _ _
  | .chmSq m _ _ | .chmCq m _ _ _ | .sqEnable m _ | .sqDisable m _ | .cqEnable m _ | .cqDisable m _
  | .bkpIrq m _ _ | .chnStop m _ | .chnResume m _ | .relRetry m _ | .relSkipOn m _ _ | .relAbort m _
  | .movGo m _ | .movCancel m _ | .movDropSh m _ | .movRelRetry m _ | .movRelAbort m _ | .movCfgWrite m _ _ _
  | .arbCommit m | .arbTetherRead m _ _ | .carFire m _ | .carMergeCntRead m _ | .ircMcEoi m _ _ | .ircVcomp m _ _
  | .ircSrcWrite m _ _ _ | .ircDampRead m _ _ | .fltErrPop m | .fltErrLostRead m _ | .fltStaleRead m _ | .fltTmoCntRead m _
  | .gctlLockForce m | .fnzPortRead m _ _ | .lnkRetrain m _ | .lnkBifWrite m _ _ | .lnkDisableWrite m _ _ | .lnkEvtRead m _ _
  | .gctlRstWarm m | .pwrVreqWrite m _ _ | .pwrVrmWrite m _ _ | .anaPaceRead m _ _ | .pwrLaneWrite m _ _
  | .gpioCfgWrite m _ _ _ => masterOk m
  | .inboundMemoryRequest m req => masterOk m && req.wf
  | .timeStatus now | .ppsInEdge _ now | .ppsOutRise now | .ppsOutFall now | .referenceLost now | .referenceReturn now
  | .logTmoExpiry now | .mbxReadTimeout _ now | .driveReadyTimeout _ now | .drvAdminTimeout _ now | .repollExpiry _ now
  | .notBeforeReached _ now | .waitTimeout _ now | .holdTargetReached _ now | .nvmeCompletionTimeout _ now
  | .commandTimeout _ now | .graceExhausted _ now | .tetherRelease _ now | .damperIntervalEnd _ now
  | .pcieCompletionTimeout _ now | .announcePeriod now | .syncPeriod now | .parentLoss now | .gmSilence now
  | .joinStepTimeout now | .admissionLapse _ now | .relayTimeout _ now | .recoveryEntry _ now
  | .recoveryExit _ now | .lanePathSwap _ _ now | .tdcRoleSwap _ now | .backgroundKat _ now | .drbgReseed _ now
  | .referenceLocked now | .bkpPerstRelease _ now => timeOk now
  | .linkCe _ kind now => timeOk now && kind ≠ 0
  | .syncReq _ f t2 t3 => f.wf && timeOk t2 && timeOk t3
  | .syncRsp _ f t4 => f.wf && timeOk t4.time
  | .announce _ f now => f.wf && timeOk now
  | .hello _ f | .challenge _ f | .proof _ f | .grant _ f | .attReq _ f | .attRsp _ f | .mbxReq _ f | .mbxRsp _ f
  | .recRecv _ f | .recAck _ f | .frameForward _ f => f.wf
  | .windowDataReturn _ d => 0 < d.length && d.length % 64 = 0
  | .commandFetch _ rd | .nvme _ rd | .cont _ rd => rd.wf
  | .burstReadData _ rd u => rd.wf && u.all Upset.wf
  | .scrubRead _ words u => 0 < words && u.all Upset.wf
  | .scrubCatchUp _ now u => timeOk now && u.all Upset.wf
  | .dlUp _ speed width _ => speed ≠ 0 && widthOk width
  | .linkSpeedChange _ speed => speed ≠ 0
  | .linkWidthChange _ width => widthOk width
  | .configSpaceWrite _ w => w.wf
  | .driveCqScan _ qid => qid ≤ 256
  | .paceRefresh r now => r.length = 16 && timeOk now
  | .tempSensorRefresh r now => r.length = 8 && timeOk now
  | .voltSensorRefresh r now => r.length = 5 && timeOk now
  | .vaultScrub c u now => vaultWordsOk c && vaultWordsOk u && timeOk now
  | .fnzLoopbackCal _ m => timeOk m.time
  | .tamperDetect src x | .tamperDetectStandby src x => x.wf src
  | .tamperSeen src none => 4 ≤ src.val
  | .tamperSeen src (some x) => x.wf src
  | .alwaysLoggedRecordEntry | .logLostRecord | .logBatchWrite | .snimaResponsePosted _
  | .devInfo _ | .devHealth _ | .operNonce _ | .operOpen _ | .operClose _ => true
  | .devRestart _ | .layoutGet _ | .layoutSet _ | .cqCreate _
  | .sqCreate _ | .sqDelete _ | .cqDelete _ | .qQuery _ | .drvList _ => true
  | .drvAttach _ _ | .drvDetach _ | .drvAdmin _ _ | .segRelease _
  | .segReturn _ | .storeBist _ _ | .cryptoKat _ _ | .calStatus _ | .tampArm _ => true
  | .bootStaged | .sessImport _ | .sessGenerate _ | .sessExport _
  | .sessPolicy _ | .sessDestroy _ | .sessQuery _ | .sessMigrateOut _ | .sessAdopt _ => true
  | .operClaim _ | .operEnroll _ | .operRevoke _ | .operList _
  | .attReport _ | .attCert _ | .fwStage _ _ | .fwActivate _ | .fwCommit _ => true
  | .fwRollback _ | .fwStatus _ | .fleetStatus _ | .fleetCreate _
  | .fleetAdmit _ | .fleetJoin _ | .fleetLeave _ | .timeSet _ | .mbxRelay _ => true
  | .fleetAttest _ | .recSend _ | .usedFold | .countOnlyToList
  | .keyCacheEviction | .bootImageLoaded _ | .fetchGrant | .tailReadReturn _ _ | .headReadReturn _ _ => true
  | .ringReadFail _ _ _ | .sqeStart _ | .sqeResume _ | .sqeStop _
  | .sqeNop _ | .dispatch _ | .cqePost _ | .ballastToRing _ | .heldCqeToBallast _ => true
  | .move _ | .xform _ | .seal _ | .unseal _ | .digest _ | .sign _ | .verify _ | .fill _ | .compare _ => true
  | .stamp _ | .tic _ | .branch _ | .wait _ | .signal _ | .hold _ | .nop _ | .post _ | .driveCompletion _ _ _ _ => true
  | .zeroLengthReadDone _ _ _ | .cpWriteResponse _ _ | .loopGuardExhausted _ | .moverTaken
  | .cryptoUnitTaken _ | .keyFillStart | .keyFillComplete _ | .movModeChange _ | .arbGrant _ => true
  | .burstWriteResponse _ _ | .pageRetired _ | .storeZeroComplete | .carSourceEvent _
  | .deferredStrike | .irqDelivery _ | .irqLateArrival _ | .handlerReturn _ | .msixMessage _ => true
  | .msixHoldEnd _ _ | .staleCompletion _ _ _ | .lockdownQuiesced | .dlDown _
  | .presenceDetectChange _ _ | .errCor _ | .errNonfatal _ | .errFatal _ | .functionLevelReset _ => true
  | .hotReset _ | .hostPerstAssert _ | .hostPerstDeassert _ | .railsUp _
  | .sysRstAssert | .supervisorTrip _ | .sysRstRelease | .vaonLost | .vaonReturn => true
  | .pmbusTransactionDone _ | .entropyHealthFail _ | .entropyStartupPass | .gpioEdge _ _ | .sidebandRead _ | .bypass => true
  | .idcode | .samplePreload _ | .extest | .extestPulse
  | .extestTrain | .highz | .clamp | .p521OperationComplete _ | .sidebandBusFree => true
  | .undefinedSnimaCommand _ => true

end Sys2Proof
end

