-- ==== Sys2Proof/Certificates/Slice0/Obligations.lean ====
section
/-! DEFINITION. The statements for the provers. The completion statements say, family by family, the next state that each command of
the table answers where it is due; the others state what the rules of the spec say of single values, of all commands, and of every
step. The premise `s.granted z` says that the accesses of the Central Store which a command makes by itself on its way to `z` are
granted at once; where one is not, the command waits and only its request stands (log entry 12). -/

open Sys2Proof Sys2Proof.Machine

/-! ### Where every command completes -/

/-- The commands of the time core complete (R32, R33, R35, R36, R40): with `p` the state at the command's Time, a whole second that
has passed gives its status record, the active edge of an enabled PPS_IN is stamped, PPS_OUT rises and falls, the reference is
lost, returns and locks, TIME_CTL is written, and a read of TIME_NOW_LO takes the master's snapshot. -/
def Obligations.TimeCoreCommandsComplete : Prop :=
  (∀ (s p u t : State) (now : Nat) (x : Stamp), p = s.pass now → Running s → p.time.lastSecond < p.time.now / second →
    u = { p with time := { p.time with lastSecond := p.time.lastSecond + 1 } } →
    u.logLost.stampAt 0 ((p.time.lastSecond + 1) * second) 0 = (x, t) →
    exec (.timeStatus now) s = .next (noRewind s
      ((t.logAlways ⟨x, 0x0F, t.timeState, 0, t.unc, t.alignNow⟩).emit 0x1C2 (x.time + 1) 0))) ∧
  (∀ (s p : State) (rising : Bool) (now : Nat), p = s.pass now → Running s → p.bit .timeCtl 1 = true →
    rising ≠ p.bit .timeCtl 2 → exec (.ppsInEdge rising now) s = .next (noRewind s (p.ppsEdge rising))) ∧
  (∀ (s p : State) (now : Nat), p = s.pass now → Running s → p.bit .timeCtl 0 = true → p.time.ppsOut = false →
    (p.time.ppsMark + (second - p.ppsOfs)) / second < (p.time.now + (second - p.ppsOfs)) / second →
    exec (.ppsOutRise now) s = .next (noRewind s
      (({ p with time := { p.time with ppsOut := true, ppsMark := p.time.now, ppsRise := p.clock } }).emit 0x1C1
        (p.time.now + 1) 0))) ∧
  (∀ (s p : State) (now : Nat), p = s.pass now → Running s → p.time.ppsOut = true →
    usPassed p.time.ppsRise p.clock (clampTo 1 200000 (p.fld .timePps 17 0)) = true →
    exec (.ppsOutFall now) s = .next (noRewind s { p with time := { p.time with ppsOut := false } })) ∧
  (∀ (s p t : State) (now : Nat), p = s.pass now → Running s → p.refSel ≠ 0 → p.timeState ≠ 3 →
    t = (p.setTimeState 3).setBit .timeStat 4 false →
    exec (.referenceLost now) s = .next (noRewind s { t with time := { t.time with lockRun := 0 } })) ∧
  (∀ (s p t : State) (now : Nat), p = s.pass now → Running s → p.refSel ≠ 0 → p.bit .timeStat 4 = false →
    t = (p.setTimeState 1).setBit .timeStat 4 true →
    exec (.referenceReturn now) s = .next (noRewind s { t with time := { t.time with lockRun := 0, fastSlew := true } })) ∧
  (∀ (s p t : State) (now : Nat), p = s.pass now → Running s → p.timeState = 1 → p.bit .timeStat 4 = true →
    (p.refSel = 1 ∨ (p.refSel = 2 ∧ 16 ≤ p.time.lockRun)) → t = p.setTimeState 2 →
    exec (.referenceLocked now) s = .next (noRewind s { t with time := { t.time with fastSlew := false } })) ∧
  (∀ (s t : State) (m : BitVec 8) (acc : Acc) (data : BitVec 64), Free s → acc ≠ .hi →
    t = s.setRg .timeCtl ((s.rg .timeCtl &&& (2 ^ 64 - 1 - 0x337)) ||| (data.toNat &&& (2 ^ 32 - 1) &&& 0x337)) →
    exec (.timeCtlWrite m acc data) s = .next (noRewind s (t.timeCtlActs (s.rg .timeCtl)))) ∧
  (∀ (s : State) (m : BitVec 8) (acc : Acc) (snap : Nat), Running s →
    snap = (if acc = .hi then tabGet 0 s.time.snaps m.toNat else s.time.now) →
    exec (.timeNowLoRead m acc) s = .next (noRewind s
      (({ s with time := { s.time with snaps := tabSet 0 s.time.snaps m.toNat snap } }).reply (accBytes acc (snap % 2 ^ 64)))))

/-- The commands of the stamp-log writer complete (R42 to R44): a waiting record enters the FIFO, the LOG_LOST record enters ahead
of later ones, a batch is taken, TMO takes what is left, and FLUSH discards the FIFO and stamps a LOG_FLUSH record. -/
def Obligations.StampLogCommandsComplete : Prop :=
  (∀ (s u : State) (r : LogRecord) (rest : List LogRecord), Running s → u = s.logLost → u.log.waiting = r :: rest →
    u.log.fifo.length < 512 →
    exec .alwaysLoggedRecordEntry s = .next (noRewind s (({ u with log := { u.log with waiting := rest } }).logPush r))) ∧
  (∀ (s t : State) (x : Stamp), Running s → 0 < s.log.lostDue → s.log.fifo.length < 512 →
    s.log.waiting.any (fun r => r.stamp.domain = 0) = false → s.stamp 0 0 = (x, t) →
    exec .logLostRecord s = .next (noRewind s
      (({ t with log := { t.log with lostDue := 0 } }).logPush ⟨x, 0x11, 0, 0, s.log.lostDue, 0⟩))) ∧
  (∀ (s : State), Running s → 16 ≤ s.log.fifo.length → ∀ z : State, z = s.logTake 16 → s.granted z = true →
    exec .logBatchWrite s = .next (noRewind s z)) ∧
  (∀ (s : State), Running s → s.log.fifo.length < 16 → s.fld .logTmo 23 0 = 0 →
    ∀ z : State, z = s.logTake 512 → s.granted z = true →
    exec .logBatchWrite s = .next (noRewind s z)) ∧
  (∀ (s p : State) (now t : Nat), p = s.pass now → Running s → p.log.since = some t →
    usPassed t p.clock (p.fld .logTmo 23 0) = true → ∀ z : State, z = p.logTake 512 → p.granted z = true →
    exec (.logTmoExpiry now) s = .next (noRewind s z)) ∧
  (∀ (s t u : State) (m : BitVec 8) (cut half : Bool) (n : Nat) (x : Stamp), Running s → half = (cut && !s.log.fifo.isEmpty) →
    n = s.log.fifo.length - b2n half → t = (s.setFld .logStat 41 32 n).setBit .logStat 16 half →
    ({ t with log := { t.log with fifo := [], since := none } }).logLost.stamp 0 0 = (x, u) →
    exec (.logFlush m cut) s = .next (noRewind s (u.logAlways ⟨x, 0x10, b2n half, 0, n, 0⟩)))

/-- Each row that is a register's read completes in every state of a running part, Lockdown too (R6, R54, R58): the master gets the
bits of the register that its access covers, and the bits that clear when read, as the spec's table gives them, are cleared where
the access covers them. A read of a free lock takes it and answers zero; one of a lock that is held answers who holds it. -/
def Obligations.RegisterReadsComplete : Prop :=
  (∀ (s : State) (m : BitVec 8) (acc : Acc), Running s →
    exec (.logLostRead m acc) s = .next (noRewind s
      ((s.afterRead ⟨.logLost, 0, 0⟩ (0xFFFFFFFF &&& accMask acc)).reply (accBytes acc (s.view ⟨.logLost, 0, 0⟩))))) ∧
  (∀ (s : State) (m : BitVec 8) (acc : Acc), Running s →
    exec (.carMergeCntRead m acc) s = .next (noRewind s
      ((s.afterRead ⟨.carMergeCnt, 0, 0⟩ (0xFFFFFFFF &&& accMask acc)).reply (accBytes acc (s.view ⟨.carMergeCnt, 0, 0⟩))))) ∧
  (∀ (s : State) (m : BitVec 8) (acc : Acc), Running s →
    exec (.fltErrLostRead m acc) s = .next (noRewind s
      ((s.afterRead ⟨.fltErrLost, 0, 0⟩ (0xFFFFFFFF &&& accMask acc)).reply (accBytes acc (s.view ⟨.fltErrLost, 0, 0⟩))))) ∧
  (∀ (s : State) (m : BitVec 8) (acc : Acc), Running s →
    exec (.fltStaleRead m acc) s = .next (noRewind s
      ((s.afterRead ⟨.fltStale, 0, 0⟩ (0xFFFFFFFF &&& accMask acc)).reply (accBytes acc (s.view ⟨.fltStale, 0, 0⟩))))) ∧
  (∀ (s : State) (m : BitVec 8) (acc : Acc), Running s →
    exec (.fltTmoCntRead m acc) s = .next (noRewind s
      ((s.afterRead ⟨.fltTmoCnt, 0, 0⟩ (0xFFFFFFFFFFFFFFFF &&& accMask acc)).reply (accBytes acc (s.view ⟨.fltTmoCnt, 0, 0⟩))))) ∧
  (∀ (s : State) (m : BitVec 8) (n : Fin 72) (acc : Acc), Running s →
    exec (.arbTetherRead m n acc) s = .next (noRewind s
      ((s.afterRead ⟨.arbTether, n, 0⟩ (0xFFFF00000000 &&& accMask acc)).reply (accBytes acc (s.view ⟨.arbTether, n, 0⟩))))) ∧
  (∀ (s : State) (m : BitVec 8) (g : Fin 64) (acc : Acc), Running s →
    exec (.ircDampRead m g acc) s = .next (noRewind s
      ((s.afterRead ⟨.ircDamp, g, 0⟩ (0xFFFF00000000 &&& accMask acc)).reply (accBytes acc (s.view ⟨.ircDamp, g, 0⟩))))) ∧
  (∀ (s : State) (m : BitVec 8) (p : Fin 2) (acc : Acc), Running s →
    exec (.fnzPortRead m p acc) s = .next (noRewind s
      ((s.afterRead ⟨.fnzPort, p, 0⟩ (0xFFFF000000000000 &&& accMask acc)).reply (accBytes acc (s.view ⟨.fnzPort, p, 0⟩))))) ∧
  (∀ (s : State) (m : BitVec 8) (k : Fin 10) (acc : Acc), Running s →
    exec (.lnkEvtRead m k acc) s = .next (noRewind s
      ((s.afterRead ⟨.lnkEvt, k, 0⟩ (0xFFFF000000000000 &&& accMask acc)).reply (accBytes acc (s.view ⟨.lnkEvt, k, 0⟩))))) ∧
  (∀ (s : State) (m : BitVec 8) (n : Fin 16) (acc : Acc), Running s →
    exec (.anaPaceRead m n acc) s = .next (noRewind s
      ((s.afterRead ⟨.anaPace, n, 0⟩ (0x7FF00000000 &&& accMask acc)).reply (accBytes acc (s.view ⟨.anaPace, n, 0⟩))))) ∧
  (∀ (s : State) (m : BitVec 8) (n : Fin 256) (acc : Acc), Running s → acc ≠ .hi → s.bit .lckSem 8 n = false →
    exec (.lckSemRead m n acc) s = .next (noRewind s ((s.setRg .lckSem (0x100 + m.toNat) n).reply (accBytes acc 0)))) ∧
  (∀ (s : State) (m : BitVec 8) (n : Fin 256) (acc : Acc), Running s → acc ≠ .hi → s.bit .lckSem 8 n = true →
    exec (.lckSemRead m n acc) s = .next (noRewind s (s.reply (accBytes acc (0x100 + s.fld .lckSem 7 0 n))))) ∧
  (∀ (s : State) (m : BitVec 8) (n : Fin 256), Running s →
    exec (.lckSemRead m n .hi) s = .next (noRewind s (s.reply (natLe 4 0))))

/-- The mailbox commands complete (R58, R66 to R68, R70, R72, R73): a post that is accepted enqueues the staged message and one
that is refused changes nothing; a pop takes the head and its record; a flush empties the FIFO and shows how many went; a bump
raises the epoch and drops the operator's key; a stale mailbox is cleared, its time-out set, and a head that waited too long makes
it stale. A write of a lock register sets it. -/
def Obligations.MailboxCommandsComplete : Prop :=
  (∀ (s t : State) (m : BitVec 8) (c : Fin 32) (acc : Acc), Running s → acc ≠ .hi →
    s.postRes c false (s.staged c false) = 0 → t = s.enqueue c false (s.staged c false) →
    exec (.mbxInPost m c acc) s = .next (noRewind s (t.reply (accBytes acc ((t.box c).inFifo.length * 2 ^ 16))))) ∧
  (∀ (s : State) (m : BitVec 8) (c : Fin 32) (acc : Acc) (r : Nat), Running s → acc ≠ .hi →
    s.postRes c false (s.staged c false) = r → r ≠ 0 →
    exec (.mbxInPost m c acc) s = .next (noRewind s (s.reply (accBytes acc (r + (s.box c).inFifo.length * 2 ^ 16))))) ∧
  (∀ (s : State) (m : BitVec 8) (c : Fin 32), Running s →
    exec (.mbxInPost m c .hi) s = .next (noRewind s (s.reply (natLe 4 0)))) ∧
  (∀ (s t : State) (m : BitVec 8) (c : Fin 32) (acc : Acc), Running s → acc ≠ .hi →
    s.postRes c true (s.staged c true) = 0 → t = s.enqueue c true (s.staged c true) →
    exec (.mbxOutPost m c acc) s = .next (noRewind s (t.reply (accBytes acc ((t.box c).outFifo.length * 2 ^ 16))))) ∧
  (∀ (s : State) (m : BitVec 8) (c : Fin 32) (acc : Acc) (r : Nat), Running s → acc ≠ .hi →
    s.postRes c true (s.staged c true) = r → r ≠ 0 →
    exec (.mbxOutPost m c acc) s = .next (noRewind s (s.reply (accBytes acc (r + (s.box c).outFifo.length * 2 ^ 16))))) ∧
  (∀ (s : State) (m : BitVec 8) (c : Fin 32), Running s →
    exec (.mbxOutPost m c .hi) s = .next (noRewind s (s.reply (natLe 4 0)))) ∧
  (∀ (s t : State) (m : BitVec 8) (c : Fin 32) (x : Stamp) (h : Msg) (r : List Msg), Running s → (s.box c).inFifo = h :: r →
    s.stamp 0x64 (h.enq + 1) = (x, t) →
    exec (.mbxInPop m c) s = .next (noRewind s ((t.logClass 6 ⟨x, 0x08, 0, c, msgArg h.bytes, 0⟩).setBox c
      { s.box c with inFifo := r, relayed := (s.box c).relayed.map (fun (y : Relayed) => { y with ahead := y.ahead - 1 }) }))) ∧
  (∀ (s t u : State) (m : BitVec 8) (c : Fin 32) (x : Stamp) (h : Msg) (r : List Msg), Running s → (s.box c).outFifo = h :: r →
    s.stamp 0x64 (h.enq + 1) = (x, t) → u = t.logClass 6 ⟨x, 0x08, 1, c, msgArg h.bytes, 0⟩ →
    exec (.mbxOutPop m c) s = .next (noRewind s (u.setBox c { s.box c with outFifo := r, timer := u.timerFrom c r }))) ∧
  (∀ (s : State) (m : BitVec 8) (c : Fin 32), Running s → ∃ t, exec (.flushIn m c) s = .next t ∧ (t.box c).inFifo = [] ∧
    (t.box c).outFifo = (s.box c).outFifo ∧ t.fld .mbxStat 22 16 c = (s.box c).inFifo.length % 128) ∧
  (∀ (s : State) (m : BitVec 8) (c : Fin 32), Running s → ∃ t, exec (.flushOut m c) s = .next t ∧ (t.box c).outFifo = [] ∧
    (t.box c).inFifo = (s.box c).inFifo ∧ t.fld .mbxStat 38 32 c = (s.box c).outFifo.length % 128) ∧
  (∀ (s : State) (m : BitVec 8) (c : Fin 32), Running s → ∃ t, exec (.bumpIn m c) s = .next t ∧
    t.epoch c false = (s.epoch c false + 1) % 2 ^ 32 ∧ t.epoch c true = s.epoch c true ∧ (t.box c).key = none) ∧
  (∀ (s : State) (m : BitVec 8) (c : Fin 32), Running s → ∃ t, exec (.bumpOut m c) s = .next t ∧
    t.epoch c true = (s.epoch c true + 1) % 2 ^ 32 ∧ t.epoch c false = s.epoch c false ∧ (t.box c).key = none) ∧
  (∀ (s : State) (m : BitVec 8) (c : Fin 32), Running s → s.bit .mbxStat 48 c = true → s.timerDue c = false →
    exec (.mbxStaleClear m c) s = .next (noRewind s ((s.setBit .mbxStat 48 false c).setBox c
      { s.box c with timer := s.timerFrom c (s.box c).outFifo }))) ∧
  (∀ (s : State) (m : BitVec 8) (c : Fin 32), Running s → s.bit .mbxStat 48 c = true → s.timerDue c = true →
    exec (.mbxStaleClear m c) s = .next (noRewind s ((s.setBit .mbxStat 48 false c).setBox c (s.box c)))) ∧
  (∀ (s : State) (m : BitVec 8) (c : Fin 32) (acc : Acc) (data : BitVec 64), Free s → acc ≠ .hi →
    exec (.mbxRtoWrite m c acc data) s = .next (noRewind s (s.newRto c (data.toNat % 2 ^ 24)))) ∧
  (∀ (s p : State) (c : Fin 32) (now t0 : Nat), p = s.pass now → Running s → (p.box c).timer = some t0 → p.rto c ≠ 0 →
    usPassed t0 p.clock (p.rto c) = true →
    exec (.mbxReadTimeout c now) s = .next (noRewind s ((p.setBit .mbxStat 48 true c).setBox c { p.box c with timer := none }))) ∧
  (∀ (s : State) (m : BitVec 8) (n : Fin 256) (acc : Acc) (data : BitVec 64), Running s → acc ≠ .hi →
    exec (.lckSemWrite m n acc data) s = .next (noRewind s
      (s.setRg .lckSem ((s.rg .lckSem n &&& (2 ^ 64 - 1 - 0x1FF)) ||| (data.toNat &&& 0x1FF)) n)))

/-- The queue engine's commands complete in a part that runs and is not in Lockdown (R133, R136, R138 to R146, R153, R156, R157):
Chimes mark the queue, enables and disables take effect, the arbiter's turn issues a window, reads return or fail, a poll interval
ends, entries are posted, moved from Ballast into the ring, and posted where room came. -/
def Obligations.QueueCommandsComplete : Prop :=
  (∀ (s : State) (m : BitVec 8) (q : Fin 4096) (acc : Acc), Free s → (s.sq q).exists_ = true → (s.sq q).en = true →
    indexMode (s.sq q).conf.cfg = true →
    exec (.chmSq m q acc) s = .next (noRewind s (s.setSq q { s.sq q with
      tailReads := (s.sq q).tailReads ++ [s.ringIssue (s.sq q).conf.cfg (s.sq q).conf.taddr], repoll := none
      cause := s.time.now }))) ∧
  (∀ (s : State) (m : BitVec 8) (q : Fin 4096) (acc : Acc), Free s → (s.sq q).exists_ = true → (s.sq q).en = true →
    indexMode (s.sq q).conf.cfg = false →
    exec (.chmSq m q acc) s = .next (noRewind s (s.setSq q { s.sq q with
      wake := true, repoll := none, cause := s.time.now, window := (s.sq q).window.map (fun w => { w with rung := true }) }))) ∧
  (∀ (s : State) (m : BitVec 8) (q : Fin 4096) (acc : Acc) (data : BitVec 64), Free s → (s.cq q).exists_ = true → acc ≠ .hi →
    indexMode (s.cq q).conf.cfg = true →
    exec (.chmCq m q acc data) s = .next (noRewind s (s.setCq q { s.cq q with
      headReads := (s.cq q).headReads ++ [s.ringIssue (s.cq q).conf.cfg (s.cq q).conf.haddr] }))) ∧
  (∀ (s : State) (m : BitVec 8) (q : Fin 4096) (acc : Acc) (data : BitVec 64), Free s → (s.cq q).exists_ = true → acc ≠ .hi →
    indexMode (s.cq q).conf.cfg = false →
    exec (.chmCq m q acc data) s = .next (noRewind s (s.newHead q (data.toNat % 2 ^ 16) (data.toNat.testBit 16)))) ∧
  (∀ (s : State) (m : BitVec 8) (q : Fin 4096), Free s → (s.sq q).exists_ = true → (s.sq q).en = false →
    exec (.sqEnable m q) s = .next (noRewind s (s.setSq q { s.sq q with en := true, wake := true }))) ∧
  (∀ (s : State) (m : BitVec 8) (q : Fin 4096), Free s → (s.sq q).exists_ = true → (s.sq q).en = true →
    exec (.sqDisable m q) s = .next (noRewind s (((s.setSq q { s.sq q with
      en := false, repoll := none, window := (s.sq q).window.map
        (fun w => { w with dropped := true }) }).closeBatches q .engine).2))) ∧
  (∀ (s : State) (m : BitVec 8) (q : Fin 4096), Free s → (s.cq q).exists_ = true →
    exec (.cqEnable m q) s = .next (noRewind s (s.setCq q { s.cq q with en := true }))) ∧
  (∀ (s : State) (m : BitVec 8) (q : Fin 4096), Free s → (s.cq q).exists_ = true →
    exec (.cqDisable m q) s = .next (noRewind s (s.setCq q { s.cq q with en := false }))) ∧
  (∀ (s : State) (l : List Nat) (q : Nat), Free s → s.fetch.accepting = true →
    (s.sqs.filter (fun e => e.2.window.isSome)).length < 256 → l = (s.sqs.map (·.1)).filter s.sqEligible →
    nextAfter s.fetch.lastUrgent (l.filter s.sqUrgent) = some q →
    exec .fetchGrant s = .next (noRewind s
      (({ s with fetch := { s.fetch with lastUrgent := q } }).issueWindow q (s.windowSlots q)))) ∧
  (∀ (s t : State) (l : List Nat) (q : Nat), Free s → s.fetch.accepting = true →
    (s.sqs.filter (fun e => e.2.window.isSome)).length < 256 → l = (s.sqs.map (·.1)).filter s.sqEligible → l ≠ [] →
    nextAfter s.fetch.lastUrgent (l.filter s.sqUrgent) = none →
    t = (if l.any (fun q => 0 < (s.sq q).credit) then s else s.newRound) →
    nextAfter t.fetch.lastWeighted (l.filter (fun q => 0 < (t.sq q).credit)) = some q →
    exec .fetchGrant s = .next (noRewind s
      (({ t with fetch := { t.fetch with lastWeighted := q } }).issueWindow q (min (t.sq q).credit (t.windowSlots q))))) ∧
  (∀ (s t : State) (q : Fin 4096) (data b : List Byte) (w : Window), Free s → (s.sq q).window = some w →
    s.ringHere (w.issued, w.link) = true → w.dropped = false → (s.sq q).en = true → s.windowBytes q w data = (.ok b, t) → t.fetch.accepting = true →
    ∀ z : State, z = t.windowData q w.slots b → s.granted z = true →
    exec (.windowDataReturn q data) s = .next (noRewind s z)) ∧
  (∀ (s t : State) (q : Fin 4096) (data b : List Byte) (w : Window), Free s → (s.sq q).window = some w →
    s.ringHere (w.issued, w.link) = true → s.windowBytes q w data = (.ok b, t) → w.dropped = true ∨ (s.sq q).en = false ∨ t.fetch.accepting = false →
    ∀ z : State, z = t.setSq q { t.sq q with window := none } → s.granted z = true →
    exec (.windowDataReturn q data) s = .next (noRewind s z)) ∧
  (∀ (s t : State) (q : Fin 4096) (word : BitVec 64) (v : Nat) (r : Nat × Option Nat) (l : List (Nat × Option Nat)), Free s →
    (s.sq q).tailReads = r :: l → s.ringHere r = true →
    s.indexWord (ringZone (s.sq q).conf.cfg) (s.sq q).conf.taddr r.2 word = (.ok v, t) →
    ∀ z : State, z = t.setSq q { t.sq q with tailReads := (t.sq q).tailReads.tail, tail := v % qSlots (s.sq q).conf.cfg } →
    s.granted z = true → exec (.tailReadReturn q word) s = .next (noRewind s z)) ∧
  (∀ (s t : State) (q : Fin 4096) (word : BitVec 64) (v : Nat) (r : Nat × Option Nat) (l : List (Nat × Option Nat)), Free s →
    (s.cq q).headReads = r :: l → s.ringHere r = true →
    s.indexWord (ringZone (s.cq q).conf.cfg) (s.cq q).conf.haddr r.2 word = (.ok v, t) →
    ∀ z : State, z = (t.setCq q { t.cq q with headReads := (t.cq q).headReads.tail }).newHead q v false → s.granted z = true →
    exec (.headReadReturn q word) s = .next (noRewind s z)) ∧
  (∀ (s : State) (q : Fin 4096) (cause : BitVec 8), Free s → (s.sq q).window.isSome = true →
    (cause = 3 → s.ctoPassed (s.ringIssued q .window).1 (s.ringIssued q .window).2 = true) →
    exec (.ringReadFail q .window cause) s = .next (noRewind s
      ((s.windowMismatch q).fault 0x60 0x04 q (cause.toNat * 2 ^ 8) (s.windowAddr q)))) ∧
  (∀ (s : State) (q : Fin 4096) (cause : BitVec 8), Free s → (s.sq q).tailReads ≠ [] →
    (cause = 3 → s.ctoPassed (s.ringIssued q .tail).1 (s.ringIssued q .tail).2 = true) →
    exec (.ringReadFail q .tail cause) s = .next (noRewind s
      ((s.setSq q (s.sq q).tailFails).fault 0x60 0x04 q (1 + cause.toNat * 2 ^ 8) (s.sq q).conf.taddr))) ∧
  (∀ (s : State) (q : Fin 4096) (cause : BitVec 8), Free s → (s.cq q).headReads ≠ [] →
    (cause = 3 → s.ctoPassed (s.ringIssued q .head).1 (s.ringIssued q .head).2 = true) →
    exec (.ringReadFail q .head cause) s = .next (noRewind s
      ((s.setCq q { s.cq q with headReads := (s.cq q).headReads.tail }).fault 0x60 0x04 q (2 + cause.toNat * 2 ^ 8)
        (s.cq q).conf.haddr))) ∧
  (∀ (s p : State) (q : Fin 4096) (now t0 : Nat), p = s.pass now → Free s → (p.sq q).repoll = some t0 → (p.sq q).en = true →
    nsPassed t0 p.clock (p.repollNs q) = true →
    exec (.repollExpiry q now) s = .next (noRewind s (p.setSq q { p.sq q with repoll := none, wake := true }))) ∧
  (∀ (s : State) (q : Fin 4096) (e : Cqe) (r : List Cqe), Free s → (s.cq q).due = e :: r → s.cqePlace q = true →
    ∀ z : State, z = (s.setCq q { s.cq q with due := r }).postCqe q e → s.granted z = true →
    exec (.cqePost q) s = .next (noRewind s z)) ∧
  (∀ (s : State) (q : Fin 4096), Free s → (s.cq q).en = true → 0 < (s.cq q).balCount → 0 < (s.cqLoad q).cqRoom q →
    ∀ z : State, z = s.ballastOut q → s.granted z = true →
    exec (.ballastToRing q) s = .next (noRewind s z)) ∧
  (∀ (s : State) (q : Fin 4096) (h : Holder) (e : Cqe) (r : List (Holder × Cqe)), Free s → (s.cq q).held = (h, e) :: r →
    (s.cq q).due = [] → s.cqePlace q = true →
    ∀ z : State, z = (((s.setCq q { s.cq q with held := r }).postCqe q e).holderFreed h).follows → s.granted z = true →
    exec (.heldCqeToBallast q) s = .next (noRewind s z))

/-- The entries of a submission queue take effect and complete in a part that is free to run (R132, R133, R149, R182 to R184):
START waits for a channel and is dispatched to the lowest idle one of the queue's set, RESUME restarts the program that its tag
names or ends at once, STOP asks it to stop, NOP ends at once; a program whose start time has come fetches its first command. -/
def Obligations.QueueEntryCommandsComplete : Prop :=
  (∀ (s : State) (q : Fin 4096) (h : HeldEntry) (r : List HeldEntry), Free s → (s.sq q).acts = h :: r → h.sop = 1 →
    exec (.sqeStart q) s = .next (noRewind s (s.setSq q { s.sq q with acts := r, starts := (s.sq q).starts ++ [h] }))) ∧
  (∀ (s t : State) (q : Fin 4096) (h : HeldEntry) (r : List HeldEntry) (c : Nat), Free s → (s.sq q).acts = h :: r → h.sop = 2 →
    t = s.setSq q { s.sq q with acts := r } → t.targetOf q h.tag = some c → (t.chan c).phase = .suspended →
    ∀ z : State, z =
      ((t.setChan c { t.chan c with sq := q, cause := max (t.chan c).cause h.cause }).resumeRun c (some h.num)).follows →
      s.granted z = true →
    exec (.sqeResume q) s = .next (noRewind s z)) ∧
  (∀ (s t : State) (q : Fin 4096) (h : HeldEntry) (r : List HeldEntry), Free s → (s.sq q).acts = h :: r → h.sop = 2 →
    t = s.setSq q { s.sq q with acts := r } → (∀ c, t.targetOf q h.tag = some c → (t.chan c).phase ≠ .suspended) →
    ∀ z : State, z = (t.decideEntry q h.num 0x12 h.cause .engine).2.follows → s.granted z = true →
    exec (.sqeResume q) s = .next (noRewind s z)) ∧
  (∀ (s t : State) (q : Fin 4096) (h : HeldEntry) (r : List HeldEntry) (c : Nat), Free s → (s.sq q).acts = h :: r → h.sop = 3 →
    t = s.setSq q { s.sq q with acts := r } → t.targetOf q h.tag = some c →
    ∀ z : State, z = ((t.decideEntry q h.num 0 h.cause .engine).2.chanStop c).follows → s.granted z = true →
    exec (.sqeStop q) s = .next (noRewind s z)) ∧
  (∀ (s t : State) (q : Fin 4096) (h : HeldEntry) (r : List HeldEntry), Free s → (s.sq q).acts = h :: r → h.sop = 3 →
    t = s.setSq q { s.sq q with acts := r } → t.targetOf q h.tag = none →
    ∀ z : State, z = (t.decideEntry q h.num 0x12 h.cause .engine).2.follows → s.granted z = true →
    exec (.sqeStop q) s = .next (noRewind s z)) ∧
  (∀ (s t : State) (q : Fin 4096) (h : HeldEntry) (r : List HeldEntry), Free s → (s.sq q).acts = h :: r → h.sop = 4 →
    t = s.setSq q { s.sq q with acts := r } →
    exec (.sqeNop q) s = .next (noRewind s (t.decideEntry q h.num 0 h.cause .engine).2)) ∧
  (∀ (s : State) (q : Fin 4096) (h : HeldEntry) (r : List HeldEntry) (c : Nat), Free s → (s.sq q).starts = h :: r →
    (s.setOf q).find? s.chanIdle = some c →
    ∀ z : State, z = ((s.setSq q { s.sq q with starts := r }).dispatchTo q c h).follows → s.granted z = true →
    exec (.dispatch q) s = .next (noRewind s z)) ∧
  (∀ (s p : State) (ch : Fin 4096) (now : Nat), p = s.pass now → Free s → (p.chan ch).phase = .waitStart →
    (p.chan ch).startAt ≤ p.time.now →
    ∀ z : State, z = (p.goFetch ch (p.rg .chnCur ch)).follows → p.granted z = true →
    exec (.notBeforeReached ch now) s = .next (noRewind s z))

/-- The commands that control a channel complete in a part that is free to run (R177 to R179, R182 to R187, R189, R333 to R335):
what STOP and RESUME do in each phase, the three releases of a halted program, the return of a command's bytes, of a zero-length
read and of the channel processor's own writes, the loop guard, the command time-out and the end of the grace period. -/
def Obligations.ChannelControlCommandsComplete : Prop :=
  (∀ (s : State) (m : BitVec 8) (ch : Fin 4096), Free s →
    ((s.chan ch).phase = .fetch ∧ (s.chan ch).waited = none) ∨ (s.chan ch).phase = .halted ∨
      ((s.chan ch).phase = .active ∧ (s.chan ch).stage ≠ .loopGuard) ∨ ((s.chan ch).phase = .draining ∧
        (s.chan ch).outcome = some 3) →
    ∀ z : State, z = (s.setChan ch { s.chan ch with stop := true }).follows → s.granted z = true →
    exec (.chnStop m ch) s = .next (noRewind s z)) ∧
  (∀ (s : State) (m : BitVec 8) (ch : Fin 4096), Free s → (s.chan ch).phase = .waitStart ∨ (s.chan ch).phase = .suspended →
    ∀ z : State, z = (s.endProgram ch 0x04).follows → s.granted z = true →
    exec (.chnStop m ch) s = .next (noRewind s z)) ∧
  (∀ (s : State) (m : BitVec 8) (ch : Fin 4096), Free s → (s.chan ch).phase = .waitEvent ∨ (s.chan ch).phase = .waitHold →
    ∀ z : State, z = (s.endCmd ch 0x04 0 0).follows → s.granted z = true →
    exec (.chnStop m ch) s = .next (noRewind s z)) ∧
  (∀ (s : State) (m : BitVec 8) (ch : Fin 4096) (w : Member) (r : Option LogRecord), Free s → (s.chan ch).phase = .fetch →
    (s.chan ch).waited = some (w, s.clock, r) → (s.chan ch).chain = [] →
    ∀ z : State, z = (s.stopAtWait ch w r).follows → s.granted z = true →
    exec (.chnStop m ch) s = .next (noRewind s z)) ∧
  (∀ (s : State) (m : BitVec 8) (ch : Fin 4096), Free s → (s.chan ch).phase = .active → (s.chan ch).stage = .loopGuard →
    ∀ z : State, z = ((s.setChan ch { s.chan ch with stop := true }).boundary ch).follows → s.granted z = true →
    exec (.chnStop m ch) s = .next (noRewind s z)) ∧
  (∀ (s : State) (m : BitVec 8) (ch : Fin 4096), Free s → (s.chan ch).phase = .suspended →
    ∀ z : State, z = ((s.setChan ch { s.chan ch with cause := max (s.chan ch).cause 0 }).resumeRun ch none).follows →
      s.granted z = true →
    exec (.chnResume m ch) s = .next (noRewind s z)) ∧
  (∀ (s : State) (m : BitVec 8) (ch : Fin 4096), Free s → (s.chan ch).phase ∉ [.idle, .checked, .suspended, .draining] →
    ∀ z : State, z = (s.setChan ch { s.chan ch with resPend := true, resCause := max (s.chan ch).resCause 0 }).follows →
    s.granted z = true →
    exec (.chnResume m ch) s = .next (noRewind s z)) ∧
  (∀ (s : State) (m : BitVec 8) (ch : Fin 4096), Free s → (s.chan ch).releasable = true →
    ∀ z : State, z = (s.relRetry ch).follows → s.granted z = true →
    exec (.relRetry m ch) s = .next (noRewind s z)) ∧
  (∀ (s : State) (m : BitVec 8) (ch : Fin 4096) (rd : ReadResult), Free s → (s.chan ch).phase = .halted →
    (s.chan ch).fetchHalt = true ∨ s.progZone ch = 0 ∨ (s.readOut ch (s.progZone ch) (s.chan ch).final.addr = true ∧
      s.tooEarly (s.progZone ch) (if (s.chan ch).skipAt.isSome then s.readSince ch else s.clock) rd = false) →
    ∀ z : State, z = (s.relSkip ch rd).follows → s.granted z = true →
    exec (.relSkipOn m ch rd) s = .next (noRewind s z)) ∧
  (∀ (s p : State) (m : BitVec 8) (ch : Fin 4096), Free s → (s.chan ch).releasable = true → p = s.progressed ch →
    (p.chan ch).fetchHalt = true →
    ∀ z : State, z =
      (((p.releaseUnits ch).setChan ch { p.chan ch with phase := .active, endRec := none }).dispose ch false (some
      (p.fld .chnErr 31 24 ch)) 0 none).follows → s.granted z = true →
    exec (.relAbort m ch) s = .next (noRewind s z)) ∧
  (∀ (s p : State) (m : BitVec 8) (ch : Fin 4096), Free s → (s.chan ch).releasable = true → p = s.progressed ch →
    (p.chan ch).fetchHalt = false →
    ∀ z : State, z = ((p.failedEnd ch).dispose ch true (some (p.fld .chnErr 31 24 ch)) 0 none).follows → s.granted z = true →
    exec (.relAbort m ch) s = .next (noRewind s z)) ∧
  (∀ (s t : State) (ch : Fin 4096) (rd : ReadResult) (b : List Byte), Free s → (s.chan ch).phase = .fetch →
    s.readWaits ch rd = false → s.rereadCmd ch (s.rg .chnCur ch) rd = (.ok b, t) →
    (s.chan ch).condNext = false →
    ∀ z : State, z = ((t.progressed ch).commandRead ch b).follows → s.granted z = true →
    exec (.commandFetch ch rd) s = .next (noRewind s z)) ∧
  (∀ (s t : State) (ch : Fin 4096) (rd : ReadResult) (f : Failure), Free s → (s.chan ch).phase = .fetch →
    s.readWaits ch rd = false → s.rereadCmd ch (s.rg .chnCur ch) rd = (.error f, t) →
    ∀ z : State, z = (t.fetchFails ch f).follows → s.granted z = true →
    exec (.commandFetch ch rd) s = .next (noRewind s z)) ∧
  (∀ (s : State) (ch : Fin 4096) (zone : BitVec 4) (ok : Bool) (k : Nat), Free s →
    (s.chan ch).syncs.find? (fun j => linkZone j = zone.toNat) = some k → s.tagged ch k = true →
    ∀ z : State, z = ((s.linkAnswers (some k)).syncDone ch k).follows → s.granted z = true →
    exec (.zeroLengthReadDone ch zone ok) s = .next (noRewind s z)) ∧
  (∀ (s : State) (ch : Fin 4096) (h : Cmd) (k : Nat), Free s → (s.chan ch).cpWrites = true → h = (s.chan ch).head.cmd →
    h.zd ≠ 0 → s.writeLink ch = some k → s.linkUp k = true →
    ∀ z : State, z =
      ((((s.linkAnswers (some k)).extWrite h.zd
      (s.cpBytes ch)).setChan ch { s.chan ch with dirty := ((s.chan ch).dirty ++ [k]).eraseDups }).cpNext ch).follows →
      s.granted z = true →
    exec (.cpWriteResponse ch .ok) s = .next (noRewind s z)) ∧
  (∀ (s t : State) (ch : Fin 4096) (res : WriteResult), Free s → (s.chan ch).cpWrites = true → (s.chan ch).head.cmd.zd = 0 →
    s.cpStore ch = (none, t) → (t.chan ch).cpWrites = true →
    ∀ z : State, z = (t.cpNext ch).follows → s.granted z = true →
    exec (.cpWriteResponse ch res) s = .next (noRewind s z)) ∧
  (∀ (s : State) (ch : Fin 4096), Free s → (s.chan ch).phase = .active → (s.chan ch).stage = .loopGuard →
    ∀ z : State, z =
      (s.dispose ch true (some 0x16) (s.chan ch).nextAt (if haltCode (s.chan ch).ending.code then none else some 0x16)).follows →
      s.granted z = true →
    exec (.loopGuardExhausted ch) s = .next (noRewind s z)) ∧
  (∀ (s p : State) (ch : Fin 4096) (now : Nat), p = s.pass now → Free s → p.tmoDue ch = true →
    ((p.settle ch).chan ch).timed = true →
    ∀ z : State, z = ((p.settle ch).timeoutEnd ch).follows → p.granted z = true →
    exec (.commandTimeout ch now) s = .next (noRewind s z)) ∧
  (∀ (s p : State) (ch : Fin 4096) (now t : Nat), p = s.pass now → Free s → (p.chan ch).retrySince = some t →
    p.grace ≤ (p.chan ch).graceUsed + (p.clock - t) →
    ∀ z : State, z = (p.setChan ch { p.chan ch with
        retrySince := some p.clock, heldRun := (p.chan ch).heldRun + (p.chan ch).heldNow p.grace p.clock,
          graceUsed := p.grace }).follows → p.granted z = true →
    exec (.graceExhausted ch now) s = .next (noRewind s z))

/-- The control commands complete on a channel that executes one (R215, R217 to R225): STAMP takes its Stamp and writes it, TIC and
BRANCH choose the next command, WAIT, HOLD, SIGNAL and POST wait or act, NOP ends; a WAIT's time-out and a HOLD's time end them. -/
def Obligations.ControlCommandsComplete : Prop :=
  (∀ (s t : State) (ch : Fin 4096) (x : Stamp), Free s → s.ready ch 0x0B = true →
    s.stamp (cpDomain ch) ((s.chan ch).cause + 1) = (x, t) →
    ∀ z : State, z = (t.setChan ch { s.chan ch with
      stage := .cpWrite, cpStep := 0, cause := x.time
      pin := some (t.linkOf (s.chan ch).head.cmd.zd (s.chan ch).head.cmd.dst)
      stream := { (s.chan ch).stream with result := x.bytes } }).follows →
        s.granted z = true →
    exec (.stamp ch) s = .next (noRewind s z)) ∧
  (∀ (s : State) (ch : Fin 4096), Free s → s.ready ch 0x20 = true →
    ∀ z : State, z = (s.endCmd ch 0 0 0 (some (s.chan ch).head.cmd.param2)).follows → s.granted z = true →
    exec (.tic ch) s = .next (noRewind s z)) ∧
  (∀ (s : State) (ch : Fin 4096), Free s → s.ready ch 0x21 = true →
    branchTaken (s.chan ch).head.cmd.param (s.chan ch).prevCode = true →
    ∀ z : State, z = (s.endCmd ch 0 0 0 (some (s.chan ch).head.cmd.param2)).follows → s.granted z = true →
    exec (.branch ch) s = .next (noRewind s z)) ∧
  (∀ (s : State) (ch : Fin 4096), Free s → s.ready ch 0x21 = true →
    branchTaken (s.chan ch).head.cmd.param (s.chan ch).prevCode = false →
    ∀ z : State, z = (s.endCmd ch 0 0 0 none).follows → s.granted z = true →
    exec (.branch ch) s = .next (noRewind s z)) ∧
  (∀ (s : State) (ch : Fin 4096), Free s → s.ready ch 0x22 = true → fieldOf 31 0 (s.chan ch).head.cmd.param2 = 0 →
    ∀ z : State, z = (s.checkFail ch 0x12 0x28 0 (s.chan ch).pos).follows → s.granted z = true →
    exec (.wait ch) s = .next (noRewind s z)) ∧
  (∀ (s : State) (ch : Fin 4096) (k : Nat), Free s → s.ready ch 0x22 = true → fieldOf 31 0 (s.chan ch).head.cmd.param2 ≠ 0 →
    k = (s.chan ch).head.cmd.param % 256 → s.carFlag k = true →
    ∀ z : State, z = ((if (s.chan ch).head.cmd.param.testBit 8 then s.setCarFlag k false else s).endCmd ch 0 0 0).follows →
      s.granted z = true →
    exec (.wait ch) s = .next (noRewind s z)) ∧
  (∀ (s : State) (ch : Fin 4096), Free s → s.ready ch 0x22 = true → fieldOf 31 0 (s.chan ch).head.cmd.param2 ≠ 0 →
    s.carFlag ((s.chan ch).head.cmd.param % 256) = false → (s.chan ch).stop = false →
    ∀ z : State, z = (s.setChan ch { s.chan ch with phase := .waitEvent, waitSince := s.clock }).follows → s.granted z = true →
    exec (.wait ch) s = .next (noRewind s z)) ∧
  (∀ (s p : State) (ch : Fin 4096) (now : Nat), p = s.pass now → Free s → (p.chan ch).phase = .waitEvent →
    usPassed (p.chan ch).waitSince p.clock (fieldOf 31 0 (p.chan ch).head.cmd.param2) = true →
    ∀ z : State, z = (p.endCmd ch 0x40 0 0).follows → p.granted z = true →
    exec (.waitTimeout ch now) s = .next (noRewind s z)) ∧
  (∀ (s : State) (ch : Fin 4096), Free s → s.ready ch 0x23 = true →
    ∀ z : State, z = (s.syncFirst ch none .signal).follows → s.granted z = true →
    exec (.signal ch) s = .next (noRewind s z)) ∧
  (∀ (s : State) (ch : Fin 4096), Free s → s.ready ch 0x24 = true → s.time.now < holdTarget (s.chan ch).head.cmd →
    (s.chan ch).stop = false →
    ∀ z : State, z = (s.setChan ch { s.chan ch with phase := .waitHold }).follows → s.granted z = true →
    exec (.hold ch) s = .next (noRewind s z)) ∧
  (∀ (s : State) (ch : Fin 4096), Free s → s.ready ch 0x24 = true → holdTarget (s.chan ch).head.cmd ≤ s.time.now →
    ∀ z : State, z = (s.endCmd ch (if (s.chan ch).head.cmd.param2.testBit 32 then 0x42 else 0) 0 0).follows → s.granted z = true →
    exec (.hold ch) s = .next (noRewind s z)) ∧
  (∀ (s p : State) (ch : Fin 4096) (now : Nat), p = s.pass now → Free s → (p.chan ch).phase = .waitHold →
    holdTarget (p.chan ch).head.cmd ≤ p.time.now →
    ∀ z : State, z = (p.endCmd ch 0 0 0).follows → p.granted z = true →
    exec (.holdTargetReached ch now) s = .next (noRewind s z)) ∧
  (∀ (s : State) (ch : Fin 4096), Free s → s.ready ch 0x25 = true →
    ∀ z : State, z = (s.endCmd ch 0 0 0).follows → s.granted z = true →
    exec (.nop ch) s = .next (noRewind s z)) ∧
  (∀ (s : State) (ch : Fin 4096) (h : Cmd), Free s → s.ready ch 0x26 = true → h = (s.chan ch).head.cmd →
    ∀ z : State, z = (s.syncFirst ch (if h.zd = 0 then none else s.linkOf h.zd h.dst) .post).follows → s.granted z = true →
    exec (.post ch) s = .next (noRewind s z))

/-- Each data command completes its own step on a channel that executes it (R191, R193, R198 to R210, R231): one that
moves nothing ends at once, OK_SKIPPED where a member of its chain is DRY; any other waits for a mover, in the order in which
commands came. -/
def Obligations.DataCommandsComplete : Prop :=
  (∀ (s : State) (ch : Fin 4096), Free s → s.ready ch 0x01 = true →
    ∀ z : State, z = (if (s.chan ch).total = 0 then s.movesNothing ch else s.waitsForMover ch).follows → s.granted z = true →
    exec (.move ch) s = .next (noRewind s z)) ∧
  (∀ (s : State) (ch : Fin 4096), Free s → s.ready ch 0x02 = true →
    ∀ z : State, z = (if (s.chan ch).total = 0 then s.movesNothing ch else s.waitsForMover ch).follows → s.granted z = true →
    exec (.xform ch) s = .next (noRewind s z)) ∧
  (∀ (s : State) (ch : Fin 4096), Free s → s.ready ch 0x03 = true →
    ∀ z : State, z = (if (s.chan ch).total = 0 then s.movesNothing ch else s.waitsForMover ch).follows → s.granted z = true →
    exec (.seal ch) s = .next (noRewind s z)) ∧
  (∀ (s : State) (ch : Fin 4096), Free s → s.ready ch 0x04 = true →
    ∀ z : State, z = (if (s.chan ch).total = 0 then s.movesNothing ch else s.waitsForMover ch).follows → s.granted z = true →
    exec (.unseal ch) s = .next (noRewind s z)) ∧
  (∀ (s : State) (ch : Fin 4096), Free s → s.ready ch 0x05 = true →
    ∀ z : State, z = (if (s.chan ch).total = 0 then s.movesNothing ch else s.waitsForMover ch).follows → s.granted z = true →
    exec (.digest ch) s = .next (noRewind s z)) ∧
  (∀ (s : State) (ch : Fin 4096), Free s → s.ready ch 0x06 = true →
    ∀ z : State, z = (if (s.chan ch).total = 0 then s.movesNothing ch else s.waitsForMover ch).follows → s.granted z = true →
    exec (.sign ch) s = .next (noRewind s z)) ∧
  (∀ (s : State) (ch : Fin 4096), Free s → s.ready ch 0x07 = true →
    ∀ z : State, z = (if (s.chan ch).total = 0 then s.movesNothing ch else s.waitsForMover ch).follows → s.granted z = true →
    exec (.verify ch) s = .next (noRewind s z)) ∧
  (∀ (s : State) (ch : Fin 4096), Free s → s.ready ch 0x08 = true →
    ∀ z : State, z = (if (s.chan ch).total = 0 then s.movesNothing ch else s.waitsForMover ch).follows → s.granted z = true →
    exec (.fill ch) s = .next (noRewind s z)) ∧
  (∀ (s : State) (ch : Fin 4096), Free s → s.ready ch 0x09 = true →
    ∀ z : State, z = (if (s.chan ch).total = 0 then s.movesNothing ch else s.waitsForMover ch).follows → s.granted z = true →
    exec (.compare ch) s = .next (noRewind s z)) ∧
  (∀ (s t : State) (ch : Fin 4096) (rd : ReadResult) (mb : Member) (m : Nat) (f : Failure), Free s → s.memberDue ch = true →
    (s.chan ch).chain[(s.chan ch).pos + 1]? = some mb → s.moverOf ch = some m →
    s.readWaits ch rd = false → s.rereadCmd ch mb.addr rd = (.error f, t) →
    ∀ z : State, z = (t.memberFails ch mb.addr f).follows → s.granted z = true →
    exec (.cont ch rd) s = .next (noRewind s z)) ∧
  (∀ (s t u v : State) (ch : Fin 4096) (rd : ReadResult) (mb : Member) (m : Nat) (b : List Byte) (x : Cmd), Free s →
    s.memberDue ch = true → (s.chan ch).chain[(s.chan ch).pos + 1]? = some mb → s.moverOf ch = some m →
    s.readWaits ch rd = false → s.rereadCmd ch mb.addr rd = (.ok b, t) → x = parseCmd b →
    u = ((t.setRg .chnCur mb.addr ch).progressed ch).cmdStart ch x mb.addr →
    v = u.setChan ch { u.chan ch with chain := (u.chan ch).chain.set ((s.chan ch).pos + 1) { mb with
      cmd := { mb.cmd with count := x.count, src := x.src, dst := x.dst, own := x.own } } } →
    ∀ z : State, z = ((v.loadMember m ch ((s.chan ch).pos + 1)).run m).follows → s.granted z = true →
    exec (.cont ch rd) s = .next (noRewind s z))

/-- The commands of the crypto units, the key cache and the random generators complete in a part that is free to run (R115, R116,
R257, R267 to R272, R404): a free unit goes to the channel that has waited longest, a P-521 operation ends, a fill starts and ends
with a key in the cache or a session that is not valid, an entry is evicted or moves to the list of counts, an instance is
reseeded, and a health test fails or the startup run passes. -/
def Obligations.CryptoCommandsComplete : Prop :=
  (∀ (s t : State) (c n : Nat) (rest : List Nat), Free s → s.crypto.aesWait = c :: rest →
    s.freeUnit 0 32 s.crypto.aes s.crypto.aesOut = some n →
    t = { s with crypto := { s.crypto with aesWait := rest, aes := tabSet none s.crypto.aes n (some c) } } →
    ∀ z : State, z = ((t.progressed c).streamBegin c).follows → s.granted z = true →
    exec (.cryptoUnitTaken .aes) s = .next (noRewind s z)) ∧
  (∀ (s t : State) (c n m : Nat) (rest : List Nat), Free s → s.crypto.shaWait = c :: rest →
    s.freeUnit 1 8 s.crypto.sha s.crypto.shaOut = some n →
    t = ({ s with crypto := { s.crypto with shaWait := rest, sha := tabSet none s.crypto.sha n (some c) } }).progressed c →
    t.moverOf c = some m →
    ∀ z : State, z = ((t.loadMember m c 0).run m).follows → s.granted z = true →
    exec (.cryptoUnitTaken .sha) s = .next (noRewind s z)) ∧
  (∀ (s t : State) (c n : Nat) (rest : List Nat), Free s → s.crypto.p521Wait = c :: rest →
    s.freeUnit 2 4 s.crypto.p521 s.crypto.p521Out = some n →
    t = { s with crypto := { s.crypto with p521Wait := rest, p521 := tabSet none s.crypto.p521 n (some c) } } →
    ∀ z : State, z = ((t.progressed c).p521Begin c n).follows → s.granted z = true →
    exec (.cryptoUnitTaken .p521) s = .next (noRewind s z)) ∧
  (∀ (s : State) (n : Fin 4) (c m : Nat) (t : Transfer) (x : Stream), Free s → tabGet none s.crypto.p521 n = some c →
    s.moverActive c = some m → (s.mover m).active = some t → (s.chan c).phase = .active → (s.chan c).stage = .p521Run →
    (s.chan c).head.cmd.opc = 6 →
    x = { (s.chan c).stream with result := Algo.ecdsaSign (s.keyOf c) (s.chan c).stream.result (s.chan c).stream.iv } →
    Algo.sigOutOfRange (x.result.take 66) = false → Algo.sigOutOfRange (x.result.drop 66) = false →
    ∀ z : State, z =
      (((s.setChan c { s.chan c with stage := .moving, stream := { x with formed := true } }).emitOut m c t t.bursts [] []).run
      m).follows → s.granted z = true →
    exec (.p521OperationComplete n) s = .next (noRewind s z)) ∧
  (∀ (s : State) (n : Fin 4) (c m : Nat) (t : Transfer) (y : List Byte), Free s → tabGet none s.crypto.p521 n = some c →
    s.moverActive c = some m → (s.mover m).active = some t → (s.chan c).phase = .active → (s.chan c).stage = .p521Run →
    (s.chan c).head.cmd.opc = 6 → y = Algo.ecdsaSign (s.keyOf c) (s.chan c).stream.result (s.chan c).stream.iv →
    Algo.sigOutOfRange (y.take 66) = true ∨ Algo.sigOutOfRange (y.drop 66) = true →
    ∀ z : State, z = (s.p521Begin c n).follows → s.granted z = true →
    exec (.p521OperationComplete n) s = .next (noRewind s z)) ∧
  (∀ (s : State) (n : Fin 4) (c m : Nat) (t : Transfer) (x : Stream) (v : Option Nat), Free s →
    tabGet none s.crypto.p521 n = some c →
    s.moverActive c = some m → (s.mover m).active = some t → (s.chan c).phase = .active → (s.chan c).stage = .p521Run →
    (s.chan c).head.cmd.opc ≠ 6 → x = (s.chan c).stream →
    v = (if Algo.sigOutOfRange (x.other.take 66) || Algo.sigOutOfRange (x.other.drop 66) then some 1
      else if Algo.ecdsaHolds (s.keyOf c) x.result x.other then none else some 2) →
    ∀ z : State, z =
      (((s.setChan c { s.chan c with stage := .moving, stream := { x with result := [], formed := true, diff := v } }).emitOut m c t
      t.bursts [] []).run m).follows → s.granted z = true →
    exec (.p521OperationComplete n) s = .next (noRewind s z)) ∧
  (∀ (s : State), Free s → s.placeWanted = true → exec .keyCacheEviction s = .next (noRewind s s.evict)) ∧
  (∀ (s : State) (f : Fill) (n : Nat), Free s → s.placeWanted = false → s.crypto.fills.find? (fun f => f.engine.isNone) = some f →
    (List.range 4).find? (fun n => s.crypto.fills.all (fun f => f.engine ≠ some n)) = some n →
    s.crypto.cache.length + s.fillsRunning < 65536 →
    exec .keyFillStart s = .next (noRewind s
      { s with crypto := { s.crypto with fills := s.crypto.fills.map (fun g =>
          if g.sess = f.sess ∧ g.epoch = f.epoch ∧ g.engine = none then { g with engine := some n } else g) } })) ∧
  (∀ (s t : State) (n : Fin 4) (f : Fill), Free s → s.crypto.fills.find? (fun f => f.engine = some n.val) = some f →
    t = { s with crypto := { s.crypto with fills := s.crypto.fills.erase f } } → unwrapCtx t.dkek f.sess f.ctx = none →
    ∀ z : State, z = ((byChan f.waiters).foldl (fun t w => (t.progressed w.1).sessionInvalid w.1) t).follows → s.granted z = true →
    exec (.keyFillComplete n) s = .next (noRewind s z)) ∧
  (∀ (s t : State) (n : Fin 4) (f : Fill) (r : Option (List Byte)), Free s →
    s.crypto.fills.find? (fun f => f.engine = some n.val) = some f →
    t = { s with crypto := { s.crypto with fills := s.crypto.fills.erase f } } → r = unwrapCtx t.dkek f.sess f.ctx →
    f.revoked = false → f.waiters = [] →
    ∀ z : State, z = (match r with
      | none => t
      | some k => { t with crypto := { t.crypto with cache := t.crypto.cache ++
          [(⟨f.sess, f.epoch, bindingOf f.sess f.ctx, ctxKtype f.ctx, k, 0, true, true, []⟩ : CacheEntry)] } }).follows →
            s.granted z = true →
    exec (.keyFillComplete n) s = .next (noRewind s z)) ∧
  (∀ (s : State) (e : CacheEntry), Free s → s.crypto.cache.find? (fun e => !e.keyed) = some e → s.crypto.listed.length < 256 →
    exec .countOnlyToList s = .next (noRewind s
      { s with crypto := { s.crypto with
        cache := s.crypto.cache.erase e, listed := s.crypto.listed ++ [⟨e.sess, e.epoch, e.count⟩] } })) ∧
  (∀ (s p : State) (inst : Fin 6) (now : Nat) (d : Drbg), p = s.pass now → Running s → d = tabGet drbg0 p.crypto.drbg inst →
    p.bit .anaCal 4 = true → (d.seeded = false ∨ 2 ^ 16 ≤ d.requests ∨ usPassed d.seedTime p.clock 1000000 = true) →
    ∀ z : State, z = (p.reseed inst).drbgResume.follows → p.granted z = true →
    exec (.drbgReseed inst now) s = .next (noRewind s z)) ∧
  (∀ (s : State) (raw : RawBits) (n : Nat), Running s → s.testFailed raw = n → n ≠ 0 → s.bit .anaCal 5 = false →
    exec (.entropyHealthFail raw) s = .next (noRewind s (s.entropyFails n))) ∧
  (∀ (s t : State), Running s → s.ana.startupRuns = true →
    t = (List.range 6).foldl (fun t i => t.reseed i)
      { s.setBit .anaCal 4 true with ana := { (s.setBit .anaCal 4 true).ana with startupRuns := false } } →
    ∀ z : State, z = t.redraw.drbgResume.follows → s.granted z = true →
    exec .entropyStartupPass s = .next (noRewind s z))

/-- The mover and arbiter commands complete in a part that is free to run (R229, R231, R233, R235, R247, R249, R252, R254, R288 to
R291, R367): a mover goes to the command that has waited longest, GO, CANCEL, DROP_SH and the releases act in direct mode, a mode
change takes effect when the mover is empty, priorities are committed, a grant is given and its burst goes on, and a burst's read
or write ends. That an access of the part's own gets the grant that it asked for rests on log entry 12, the order in which bursts
are answered on log entry 19. -/
def Obligations.MoverCommandsComplete : Prop :=
  (∀ (s t : State) (c m : Nat) (rest : List Nat), Free s → s.moverWait = c :: rest → s.freeMover = some m →
    t = (({ s with moverWait := rest }).setMover m { s.mover m with owner := some c }).progressed c →
    (t.chan c).head.cmd.usesAes = false → (t.chan c).head.cmd.usesSha = false →
    ∀ z : State, z = ((t.loadMember m c 0).run m).follows → s.granted z = true →
    exec .moverTaken s = .next (noRewind s z)) ∧
  (∀ (s t : State) (c m : Nat) (rest : List Nat), Free s → s.moverWait = c :: rest → s.freeMover = some m →
    t = (({ s with moverWait := rest }).setMover m { s.mover m with owner := some c }).progressed c →
    (t.chan c).head.cmd.usesAes = true →
    ∀ z : State, z =
      { (t.setChan c { t.chan c with stage := .aesWait }) with
        crypto := { t.crypto with aesWait := t.crypto.aesWait ++ [c] } }.follows → s.granted z = true →
    exec .moverTaken s = .next (noRewind s z)) ∧
  (∀ (s t : State) (c m : Nat) (rest : List Nat), Free s → s.moverWait = c :: rest → s.freeMover = some m →
    t = (({ s with moverWait := rest }).setMover m { s.mover m with owner := some c }).progressed c →
    (t.chan c).head.cmd.usesAes = false → (t.chan c).head.cmd.usesSha = true →
    ∀ z : State, z =
      { (t.setChan c { t.chan c with stage := .shaWait }) with
        crypto := { t.crypto with shaWait := t.crypto.shaWait ++ [c] } }.follows → s.granted z = true →
    exec .moverTaken s = .next (noRewind s z)) ∧
  (∀ (s t : State) (m : BitVec 8) (mv : Fin 64) (tr : Transfer), Free s → (s.mover mv).direct = true → (s.mover mv).shadow = none →
    s.shadowTransfer mv 0 0 = (some tr, t) →
    ∀ z : State, z = ((t.setMover mv (promote { t.mover mv with shadow := some tr })).work mv).follows → s.granted z = true →
    exec (.movGo m mv) s = .next (noRewind s z)) ∧
  (∀ (s t : State) (m : BitVec 8) (mv : Fin 64), Free s → (s.mover mv).direct = true → (s.mover mv).shadow = none →
    s.shadowTransfer mv 0 0 = (none, t) →
    ∀ z : State, z = (t.setBit .movEvt 2 true mv).follows → s.granted z = true →
    exec (.movGo m mv) s = .next (noRewind s z)) ∧
  (∀ (s : State) (m : BitVec 8) (mv : Fin 64) (t : Transfer), Free s → (s.mover mv).direct = true → (s.mover mv).active = some t →
    (s.mover mv).halt = false → t.failed = none →
    ∀ z : State, z = (s.movCancel mv).follows → s.granted z = true →
    exec (.movCancel m mv) s = .next (noRewind s z)) ∧
  (∀ (s : State) (m : BitVec 8) (mv : Fin 64), Free s → (s.mover mv).direct = true →
    ∀ z : State, z = (s.setMover mv { s.mover mv with shadow := none }).follows → s.granted z = true →
    exec (.movDropSh m mv) s = .next (noRewind s z)) ∧
  (∀ (s : State) (m : BitVec 8) (mv : Fin 64), Free s → (s.mover mv).direct = true → (s.mover mv).halt = true →
    ∀ z : State, z = (s.movRetry mv).follows → s.granted z = true →
    exec (.movRelRetry m mv) s = .next (noRewind s z)) ∧
  (∀ (s : State) (m : BitVec 8) (mv : Fin 64), Free s → (s.mover mv).direct = true → (s.mover mv).halt = true →
    ∀ z : State, z = ((s.setMover mv (promote { s.mover mv with halt := false, active := none })).work mv).follows →
      s.granted z = true →
    exec (.movRelAbort m mv) s = .next (noRewind s z)) ∧
  (∀ (s : State) (m : BitVec 8) (mv : Fin 64) (acc : Acc) (data : BitVec 64), Free s → acc ≠ .hi →
    exec (.movCfgWrite m mv acc data) s = .next (noRewind s
      (s.setRg .movCfg ((s.rg .movCfg mv &&& (2 ^ 64 - 1 - 0x3)) ||| (data.toNat &&& 0x3)) mv))) ∧
  (∀ (s : State) (mv : Fin 64), Free s → (s.mover mv).active = none → (s.mover mv).shadow = none → (s.mover mv).tracker = none →
    (s.mover mv).owner = none →
    exec (.movModeChange mv) s = .next (noRewind s (s.setMover mv { s.mover mv with direct := s.bit .movCfg 0 mv }))) ∧
  (∀ (s t : State) (m : BitVec 8), Free s → t = (List.range 72).foldl (fun t n => t.setRg .arbPrio (t.rg .arbPrioSh n) n) s →
    exec (.arbCommit m) s = .next (noRewind s (t.setFld .arbStat 63 32 (t.fld .arbStat 63 32 + 1)))) ∧
  (∀ (s v u : State) (seg : Fin 64) (r : ArbReq) (p : Nat) (b : Burst), Running s → v = s.giveUpRow seg →
    tabGet none v.arb.holder seg = none → v.arbPick seg = some (r, p) → r.row = false →
    u = ({ v with arb := { v.arb with
      ptr := tabSet 71 v.arb.ptr (16 * seg.val + p) r.req, presented := v.arb.presented.erase r
      holder := tabSet none v.arb.holder seg (some r), heldAt := tabSet 0 v.arb.heldAt seg v.clock } } : State).tetherGrant r.req
      r.lines →
    (u.mover r.req).active.bind (fun t => t.bursts.find? (fun b => b.num = r.burst)) = some b →
    ∀ z : State, z = ((u.issueBurst r.req { b with stage := if r.write then .writing else .reading }).run r.req).follows →
    s.granted z = true → exec (.arbGrant seg) s = .next (noRewind s z)) ∧
  (∀ (s v u : State) (seg : Fin 64) (r : ArbReq) (p : Nat), Running s → v = s.giveUpRow seg →
    tabGet none v.arb.holder seg = none → v.arbPick seg = some (r, p) → r.row = true →
    u = ({ v with arb := { v.arb with
      ptr := tabSet 71 v.arb.ptr (16 * seg.val + p) r.req, presented := v.arb.presented.erase r
      holder := tabSet none v.arb.holder seg (some r), heldAt := tabSet 0 v.arb.heldAt seg v.clock } } : State).tetherGrant r.req
      r.lines →
    ∀ z : State, z = u.runAll.follows → s.granted z = true → exec (.arbGrant seg) s = .next (noRewind s z)) ∧
  (∀ (s p : State) (n : Fin 72) (now : Nat), p = s.pass now → Free s → n.val < 64 →
    ∀ z : State, z = (p.run n).follows → p.granted z = true →
    exec (.tetherRelease n now) s = .next (noRewind s z)) ∧
  (∀ (s p : State) (n : Fin 72) (now : Nat), p = s.pass now → Free s → 64 ≤ n.val → n.val ∈ p.arb.tethered →
    p.tetherFits n 1 = true →
    ∀ z : State, z =
      ({ p with arb := { p.arb with tethered := p.arb.tethered.filter (fun k => k ≠ n.val) } } : State).runAll.follows →
    p.granted z = true →
    exec (.tetherRelease n now) s = .next (noRewind s z)) ∧
  (∀ (s t : State) (mv : Fin 64) (rd : ReadResult) (u : List Upset) (x : Transfer) (b : Burst), Free s → t = s.upset u →
    (t.mover mv).active = some x → x.bursts.find? (·.stage = .reading) = some b →
    ∀ z : State, z = (t.burstData mv rd).retryCredits.follows → s.granted z = true →
    exec (.burstReadData mv rd u) s = .next (noRewind s z)) ∧
  (∀ (s : State) (mv : Fin 64) (res : WriteResult) (x : Transfer) (b : Burst), Free s → (s.mover mv).tracker = none →
    (s.mover mv).active = some x → x.bursts.find? (·.stage = .writing) = some b →
    ∀ z : State, z = (s.burstWritten mv res).retryCredits.follows → s.granted z = true →
    exec (.burstWriteResponse mv res) s = .next (noRewind s z)) ∧
  (∀ (s p : State) (mv : Fin 64) (now : Nat) (t : Transfer) (b : Burst) (y : Nat), p = s.pass now → Free s →
    (p.mover mv).active = some t → t.bursts.find? (fun b => b.stage = .reading && readZone t b ≠ 0) = some b → y = readZone t b →
    p.ctoPassed y b.issued = true →
    ∀ z : State, z = ((p.burstFails mv false b
      (failWith 3 0x20 y 1 ((p.burstReads t b).headD 0 / 64 * 64) (t.offOf b.lo))).run mv).retryCredits.follows →
    p.granted z = true → exec (.pcieCompletionTimeout mv now) s = .next (noRewind s z))

/-- The commands of the Central Store's upkeep complete in a part that runs, Lockdown too (R102, R283 to R286): a lasting page
moves to a spare page, the scrub reads on in a segment that no request waits for, a scrub that is behind catches up, and the
zeroing of the store at a reset ends. That a spare page already in use may be retired too is log entry 40, where the scrub's pass
ends log entry 41. -/
def Obligations.StoreUpkeepCommandsComplete : Prop :=
  (∀ (s w t u v : State) (page : Fin 262144) (j : Nat), Running s → w = (s.arb.holder.map (·.1)).foldl (fun t g => t.giveUpRow g) s →
    w.bit .cstCtl 1 = true → page.val ∈ w.store.lasting →
    w.freeSpare = some j → w.arb.holder.any (fun e => e.2.any (fun r => r.page = some page.val)) = false →
    t = w.fault 0x61 0x08 (segOf (page.val * 4096)) (page.val + j * 2 ^ 18) (sparePage j * 4096) →
    u = (List.range 512).foldl (fun t i => t.copyWord (page.val * 512 + i) (sparePage j * 512 + i)) t →
    v = ({ u with store := { u.store with
        remap := remapMoved u.store.remap page.val j, lasting := u.store.lasting.filter (fun p => p ≠ page.val)
        unret := u.store.unret.filter (fun p => p ≠ page.val) } }).vaultPut [vaultRetired + j / 2]
          (fun x => { x with retired := remapMoved u.store.remap page.val j }) →
    page.val ∉ v.store.lasting →
    ∀ z : State, z = ((w.arb.presented.filter (fun r => !r.row && r.page = some page.val)).foldl (fun t r => t.presentAgain r)
      (v.rowsMove page.val)).stayInPlace.follows →
    s.granted z = true → exec (.pageRetired page) s = .next (noRewind s z)) ∧
  (∀ (s t : State) (seg : Fin 64) (words : Nat) (u : List Upset), Running s → t = s.upset u → t.scrubOn seg = true →
    t.arb.presented.any (fun r => r.seg = seg.val) = false → (tabGet none t.arb.holder seg).isNone = true →
    exec (.scrubRead seg words u) s = .next (noRewind s (t.scrubStep seg words))) ∧
  (∀ (s t : State) (seg : Fin 64) (now : Nat) (u : List Upset), Running s → t = (s.pass now).upset u → t.scrubOn seg = true →
    t.scrubBehind seg = true → exec (.scrubCatchUp seg now u) s = .next (noRewind s (t.scrubStep seg 8))) ∧
  (∀ (s : State), Running s → s.store.zeroing = true →
    exec .storeZeroComplete s = .next (noRewind s
      { s with store := { s.store with zeroing := false }, log := { s.log with hold := false } }))

/-- The Carillon's commands complete (R299 to R304, R308, R424): CAR_FIRE rings a channel with the master as its cause, a source's
oldest event strikes, a deferred strike falls with all others on its input, and an edge at a pin is an event where the pin's
configuration listens for it. -/
def Obligations.CarillonCommandsComplete : Prop :=
  (∀ (s : State) (m : BitVec 8) (chn : Fin 256), Free s →
    ∀ z : State, z = ((s.cascade [] [⟨chn.val, 0, 0x1000 + m.toNat, 0⟩] 10)).follows → s.granted z = true →
    exec (.carFire m chn) s = .next (noRewind s z)) ∧
  (∀ (s : State) (src : Fin 2048) (e : SourceEvent), Running s → s.events.find? (fun e => e.source = src.val) = some e →
    ∀ z : State, z = (({ s with events := s.events.erase e }).sourceEvent src e.time e.hop).follows → s.granted z = true →
    exec (.carSourceEvent src) s = .next (noRewind s z)) ∧
  (∀ (s t : State) (x : Strike) (r : List Strike) (f : Option Firing), Running s → s.strikes = x :: r →
    ({ s with strikes := s.strikes.filter (fun y => y.input ≠ x.input) }).strikeInput x.input
      (s.strikes.filter (fun y => y.input = x.input)) = (f, t) →
    ∀ z : State, z = (if t.locked then t else t.cascade [x.input] f.toList 10).follows → s.granted z = true →
    exec .deferredStrike s = .next (noRewind s z)) ∧
  (∀ (s t : State) (k : Fin 16) (level : Bool), Running s → s.ana.gpioIn.testBit k ≠ level →
    t = { s with ana := { s.ana with gpioIn := putField k k (b2n level) s.ana.gpioIn } } →
    exec (.gpioEdge k level) s = .next (noRewind s
      (if (level && (t.fld .gpioCfg 5 4 k).testBit 0) || (!level && (t.fld .gpioCfg 5 4 k).testBit 1) then
        t.emit (0x1D0 + k) (t.time.now + 1) 0 else t))) ∧
  (∀ (s : State) (m : BitVec 8) (k : Fin 16) (acc : Acc) (data : BitVec 64), Free s → acc ≠ .hi →
    exec (.gpioCfgWrite m k acc data) s = .next (noRewind s
      (s.setRg .gpioCfg ((s.rg .gpioCfg k &&& (2 ^ 64 - 1 - 0x33)) ||| (data.toNat &&& 0x33)) k)))

/-- The interrupt controller's commands complete (R312 to R324, R366): an entry is decided and then committed, a later and more
urgent source takes its place, a return decides anew, the next message goes out, a vector's hold ends, a damper's interval ends,
EOI and VCOMP take the source or vector out of service, and a source's registers are written. That a core with nothing to serve may
fall asleep is left open (log entry 88). -/
def Obligations.InterruptCommandsComplete : Prop :=
  (∀ (s t : State) (core : Fin 4) (n g : Nat) (y : Stamp), Free s → (s.core core).entry = some n →
    g = fieldOf 21 16 (s.srcDecided n) → s.damperFree g = true → s.stamp 0x63 (s.srcAfter n) = (y, t) →
    exec (.irqDelivery core) s = .next (noRewind s
      (((t.logClass 5 ⟨y, 0x06, core, n, 0, 0⟩).setCore core { s.core core with
        entry := none, stack := n :: (s.core core).stack, asleep := false }).damperMark g n))) ∧
  (∀ (s : State) (core : Fin 4) (n g : Nat), Free s → (s.core core).entry = some n →
    g = fieldOf 21 16 (s.srcDecided n) → s.damperFree g = false →
    exec (.irqDelivery core) s = .next (noRewind s ((s.damperHold g n).setCore core { s.core core with entry := none }))) ∧
  (∀ (s : State) (core : Fin 4), Free s → (s.core core).entry = none →
    exec (.irqDelivery core) s = .next (noRewind s (s.decideEntryMc core))) ∧
  (∀ (s : State) (core : Fin 4) (n a : Nat), Free s → (s.core core).entry = some n →
    s.firstSrc ((s.candidates core).filter (fun a =>
      s.srcLevel a < fieldOf 3 1 (s.srcDecided n) && s.damperFree (s.fld .ircSrc 21 16 a))) = some a →
    exec (.irqLateArrival core) s = .next (noRewind s (s.enterSource core a))) ∧
  (∀ (s t : State) (core : Fin 4) (l : List Nat) (n : Nat), Free s → (s.core core).entry = none → l = s.candidates core →
    t = (l.filter (fun n => !s.damperFree (s.fld .ircSrc 21 16 n))).foldl (fun t n => t.damperHold (t.fld .ircSrc 21 16 n) n) s →
    t.firstSrc (l.filter (fun n => t.damperFree (t.fld .ircSrc 21 16 n))) = some n →
    exec (.handlerReturn core) s = .next (noRewind s (t.enterSource core n))) ∧
  (∀ (s : State) (core : Fin 4), Free s → s.candidates core = [] → (s.core core).entry = none → (s.core core).stack = [] →
    s.bit .carMcev core = false →
    exec (.handlerReturn core) s = .next (noRewind s
      (s.setCore core { s.core core with asleep := Config.mcSleeps core s.clock }))) ∧
  (∀ (s t : State) (port : Fin 2) (l : List Nat) (v : Nat), Running s →
    l = (s.vecsOf port).filter (fun v => s.vecPending port v && !s.vecHeld port v) →
    t = (l.filter (fun v => !s.damperFree (s.vecGrp port v))).foldl
      (fun t v => t.damperHold (t.vecGrp port v) (0x10000 + 8192 * port + v)) s →
    t.firstVec port (l.filter (fun v => t.damperFree (t.vecGrp port v))) = some v →
    exec (.msixMessage port) s = .next (noRewind s (t.sendMessage port v))) ∧
  (∀ (s u t : State) (port : Fin 2) (vec : Fin 8192) (l : List Nat) (v : Nat), Running s → u = s.idledNow →
    u.vecPending port vec = true → u.vecHeld port vec = false →
    l = (u.vecsOf port).filter (fun v => u.vecPending port v && !u.vecHeld port v) →
    t = (l.filter (fun v => !u.damperFree (u.vecGrp port v))).foldl
      (fun t v => t.damperHold (t.vecGrp port v) (0x10000 + 8192 * port + v)) u →
    t.firstVec port (l.filter (fun v => t.damperFree (t.vecGrp port v))) = some v →
    exec (.msixHoldEnd port vec) s = .next (noRewind s (t.sendMessage port v))) ∧
  (∀ (s p : State) (g : Fin 64) (now : Nat), p = s.pass now → Running s → p.damperFree g = true →
    exec (.damperIntervalEnd g now) s = .next (noRewind s (p.damperEnd g))) ∧
  (∀ (s : State) (m : BitVec 8) (core : Fin 4) (src : Fin 1024), Free s →
    exec (.ircMcEoi m core src) s = .next (noRewind s
      (s.setCore core { s.core core with stack := (s.core core).stack.filter (fun n => n ≠ src.val) }))) ∧
  (∀ (s : State) (m : BitVec 8) (port : Fin 2) (vec : Fin 8192), Running s →
    exec (.ircVcomp m port vec) s = .next (noRewind s
      { s with irc := { s.irc with
        inService := s.irc.inService.filter (fun n => n ≠ 8192 * port.val + vec.val)
        served := tabSet [] s.irc.served (8192 * port.val + vec.val) [] } })) ∧
  (∀ (s : State) (m : BitVec 8) (n : Fin 1024) (acc : Acc) (data : BitVec 64), Free s →
    exec (.ircSrcWrite m n acc data) s = .next (noRewind s
      (s.setRg .ircSrc ((s.rg .ircSrc n &&& (2 ^ 64 - 1 - (0x1FFF073FFF0F &&& accMask acc)))
        ||| (data.toNat &&& (0x1FFF073FFF0F &&& accMask acc))) n)))

/-- The commands about faults complete in a part that runs, Lockdown too (R329, R331, R332, R336 to R339): a pop takes the oldest
entry, FORCE enters Lockdown and counts an entry while in it, Lockdown is reached when the part is quiet, a stale completion is
counted and recorded, and a link's corrected event is counted in its window. -/
def Obligations.FaultCommandsComplete : Prop :=
  (∀ (s : State) (m : BitVec 8), Running s →
    exec (.fltErrPop m) s = .next (noRewind s { s with errFifo := s.errFifo.tail })) ∧
  (∀ (s : State) (m : BitVec 8), Running s →
    exec (.gctlLockForce m) s = .next (noRewind s (s.lockdown m.toNat 2 m.toNat))) ∧
  (∀ (s : State), Running s → s.fld .gctlLock 1 0 = 1 →
    exec .lockdownQuiesced s = .next (noRewind s (s.quiet.setFld .gctlLock 1 0 2).warmFires)) ∧
  (∀ (s : State) (k : Fin 12) (idx : Nat) (cause : BitVec 8) (a : Abandoned), Running s →
    (s.stale.filter (fun a => a.link = k.val))[idx]? = some a →
    exec (.staleCompletion k idx cause) s = .next (noRewind s
      (({ s with stale := s.stale.erase a }).staleRecord a.domain 2 a.unit (k + cause.toNat * 2 ^ 8) a.addr))) ∧
  (∀ (s p : State) (k : Fin 12) (kind : Fin 7) (now : Nat), p = s.pass now → Running s → kind ≠ 0 → (kind.val = 6 ↔ 10 ≤ k.val) →
    ∀ z : State, z = (p.linkCeEvent k kind).follows → p.granted z = true →
    exec (.linkCe k kind now) s = .next (noRewind s z))

/-- The commands of the links and of the drives behind them complete in a part that runs (R211 to R213, R364, R366 to R370, R373,
R376, R378): a link that may train comes up and goes down, its speed, width, presence and error messages are recorded, recovery is
entered and left, the configuration space is written, functions are reset, PERST_N follows its pin, a link's controls are written,
and an NVMe command starts, completes, or is given up. The Abort that the part sends for a command that it gives up is log entry
43, what an ERR message leaves in the Root Error Status log entry 98. -/
def Obligations.LinkAndDriveCommandsComplete : Prop :=
  (∀ (s : State) (k : Fin 12) (speed : Fin 7) (width : Nat) (flit : Bool), Running s → s.mayTrain k = true → k.val < 10 →
    s.linkUp k = false → speed ≠ 0 →
    ∀ z : State, z = ((s.setRg .lnkStat (1 + s.rg .lnkStat k % 4 / 2 * 2 + b2n (flit || min speed.val (s.maxSpeed k) = 6) * 4
        + min speed.val (s.maxSpeed k) * 2 ^ 4
        + min width (s.maxWidth k) * 2 ^ 8 + 3 * 2 ^ 16) k).linkEvent k 0).follows → s.granted z = true →
    exec (.dlUp k speed width flit) s = .next (noRewind s z)) ∧
  (∀ (s : State) (k : Fin 12) (speed : Fin 7) (width : Nat) (flit : Bool), Running s → s.mayTrain k = true → 10 ≤ k.val →
    s.bit .fnzPort 0 (k.val - 10) = false →
    ∀ z : State, z = ((({ s with fenuz := { s.fenuz with
        calDue := s.fenuz.calDue.filter (fun p => p ≠ k.val - 10) ++ [k.val - 10] } }).setBit .fnzPort 0 true
        (k.val - 10)).linkEvent k 0).follows → s.granted z = true →
    exec (.dlUp k speed width flit) s = .next (noRewind s z)) ∧
  (∀ (s : State) (k : Fin 12), Running s → (10 ≤ k.val → s.bit .fnzPort 0 (k.val - 10) = true) →
    (k.val < 10 → s.linkUp k = true) → ∀ z : State, z = (s.linkDown k).follows → s.granted z = true →
    exec (.dlDown k) s = .next (noRewind s z)) ∧
  (∀ (s : State) (k : Fin 10) (speed : Fin 7), Running s → s.linkUp k = true → speed.val ≠ 0 →
    s.fld .lnkStat 6 4 k ≠ min speed.val (s.maxSpeed k) →
    exec (.linkSpeedChange k speed) s = .next (noRewind s
      (((s.setFld .lnkStat 6 4 (min speed.val (s.maxSpeed k)) k).setBit .lnkStat 2
        (s.bit .lnkStat 2 k || min speed.val (s.maxSpeed k) = 6) k).linkEvent k 2))) ∧
  (∀ (s : State) (k : Fin 10) (width : Nat), Running s → s.linkUp k = true → width ≠ 0 →
    s.fld .lnkStat 12 8 k ≠ min width (s.maxWidth k) →
    exec (.linkWidthChange k width) s = .next (noRewind s
      ((s.setFld .lnkStat 12 8 (min width (s.maxWidth k)) k).linkEvent k 3))) ∧
  (∀ (s t : State) (k : Fin 8) (present : Bool), Running s → t = s.presenceLevel (k + 2) present →
    t.linkPresent (k + 2) = true → t.bit .lnkStat 1 (k + 2) ≠ present →
    ∀ z : State, z = (if present then (t.setBit .lnkStat 1 present (k + 2)).linkEvent (k + 2) 4
        else ((t.setBit .lnkStat 1 present (k + 2)).linkEvent (k + 2) 4).linkDown (k + 2)).follows → t.granted z = true →
    exec (.presenceDetectChange k present) s = .next (noRewind t z)) ∧
  (∀ (s : State) (k : Fin 8), Running s → s.linkPresent (k + 2) = true →
    exec (.errCor k) s = .next (noRewind s
      ((s.setLink (k + 2) { s.link (k + 2) with aer := rootStatus 0 (s.link (k + 2)).aer }).linkEvent (k + 2) 5))) ∧
  (∀ (s : State) (k : Fin 8), Running s → s.linkPresent (k + 2) = true →
    exec (.errNonfatal k) s = .next (noRewind s
      ((s.setLink (k + 2) { s.link (k + 2) with aer := rootStatus 1 (s.link (k + 2)).aer }).linkEvent (k + 2) 6))) ∧
  (∀ (s : State) (k : Fin 8), Running s → s.linkPresent (k + 2) = true →
    exec (.errFatal k) s = .next (noRewind s
      ((s.setLink (k + 2) { s.link (k + 2) with aer := rootStatus 2 (s.link (k + 2)).aer }).linkEvent (k + 2) 7))) ∧
  (∀ (s p : State) (k : Fin 10) (now : Nat), p = s.pass now → Running s → p.linkUp k = true → (p.link k).recovering = none →
    ∀ z : State, z = (((p.setFld .lnkStat 19 16 4 k).addFld .lnkEvt 63 48 1 k).setLink k
      { p.link k with recovering := some p.clock, replaying := false }).follows → p.granted z = true →
    exec (.recoveryEntry k now) s = .next (noRewind s z)) ∧
  (∀ (s p : State) (k : Fin 10) (now : Nat), p = s.pass now → Running s → (p.link k).recovering.isSome = true →
    ∀ z : State, z = ((p.setFld .lnkStat 19 16 3 k).setLink k { p.link k with recovering := none }).follows → p.granted z = true →
    exec (.recoveryExit k now) s = .next (noRewind s z)) ∧
  (∀ (s : State) (port : Fin 2) (w : ConfigWrite), Running s →
    exec (.configSpaceWrite port w) s = .next (noRewind s (State.idledNow (match w with
      | .msixEnable v => s.setPort port { s.port port with msixEnable := v }
      | .functionMask v => s.setPort port { s.port port with functionMask := v }
      | .tableMask v m => s.setMsix port v { s.msix port v with masked := m }
      | .busMaster v => s.setPort port { s.port port with busMaster := v }
      | .d3hot v => s.setPort port { s.port port with d3hot := v }
      | .tableData v d => s.setMsix port v { s.msix port v with data := d }
      | .completionTimeout us => s.setPort port { s.port port with ctoUs := us }
      | .tenBitTags v => s.setPort port { s.port port with tenBitTags := v }
      | .maxPayload n => s.setPort port { s.port port with maxPayload := min n 512 }
      | .completionTimeoutDisable v => s.setPort port { s.port port with ctoDisable := v }
      | .maxReadRequest n => s.setPort port { s.port port with maxRead := n }
      | .aspmL1 v => s.setPort port { s.port port with aspmL1 := v }
      | .tableAddress v a => s.setMsix port v { s.msix port v with addr := BitVec.ofNat 64 (a.toNat / 4 * 4) })))) ∧
  (∀ (s t : State) (port : Fin 2), Running s → t = s.setPort port port0 →
    exec (.functionLevelReset port) s = .next (noRewind s
      (({ t with irc := { t.irc with table := t.irc.table.filter (fun e => e.1 / 8192 ≠ port.val) } }).idleVectors port))) ∧
  (∀ (s t : State) (port : Fin 2), Running s → t = s.setPort port port0 →
    exec (.hotReset port) s = .next (noRewind s
      (({ t with irc := { t.irc with table := t.irc.table.filter (fun e => e.1 / 8192 ≠ port.val) } }).idleVectors port))) ∧
  (∀ (s t : State) (port : Fin 2), Running s → s.bit .lnkStat 1 port = true → t = s.perstLevel port false →
    ∀ z : State, z = (t.perstFalls port).follows → t.granted z = true →
    exec (.hostPerstAssert port) s = .next (noRewind t z)) ∧
  (∀ (s : State) (port : Fin 2), Running s →
    exec (.hostPerstDeassert port) s = .next (noRewind (s.perstLevel port true)
      ((s.perstLevel port true).setBit .lnkStat 1 true port))) ∧
  (∀ (s p : State) (k : Fin 8) (now t : Nat), p = s.pass now → Running s → (p.link (k + 2)).perstAt = some t → t ≤ p.clock →
    exec (.bkpPerstRelease k now) s = .next (noRewind s (p.setLink (k + 2) { p.link (k + 2) with perstAt := none }))) ∧
  (∀ (s : State) (m : BitVec 8) (k : Fin 8), Free s → s.linkPresent (k + 2) = true →
    ∀ z : State, z = (s.writePlain m.toNat ⟨.lnkCtl, k + 2, 0⟩ .lo (putField 4 4 1 (s.view ⟨.lnkCtl, k + 2, 0⟩))).follows →
      s.granted z = true →
    exec (.lnkRetrain m k) s = .next (noRewind s z)) ∧
  (∀ (s : State) (m : BitVec 8) (port : Fin 4) (split : Bool), Free s → s.linkPresent (2 + 2 * port) = true →
    ∀ z : State, z =
      (s.writePlain m.toNat ⟨.lnkCtl, 2 + 2 * port, 0⟩ .lo (putField 8 8 (b2n split) (s.view ⟨.lnkCtl, 2 + 2 * port,
      0⟩))).follows → s.granted z = true →
    exec (.lnkBifWrite m port split) s = .next (noRewind s z)) ∧
  (∀ (s : State) (m : BitVec 8) (k : Fin 8) (disable : Bool), Free s → s.linkPresent (k + 2) = true →
    ∀ z : State, z =
      (s.writePlain m.toNat ⟨.lnkCtl, k + 2, 0⟩ .lo (putField 9 9 (b2n disable) (s.view ⟨.lnkCtl, k + 2, 0⟩))).follows →
      s.granted z = true →
    exec (.lnkDisableWrite m k disable) s = .next (noRewind s z)) ∧
  (∀ (s : State) (m : BitVec 8) (drv : Fin 8) (data : BitVec 64) (qid : Nat), Free s → s.linkPresent (drv + 2) = true →
    qid = data.toNat % 512 → (s.drive drv).attached = true → qid ≤ 256 → qid ∉ (s.drive drv).scanDue →
    exec (.bkpIrq m drv data) s = .next (noRewind s
      (s.setDrive drv { s.drive drv with scanDue := (s.drive drv).scanDue ++ [qid] }))) ∧
  (∀ (s : State) (drv : Fin 8) (qid : Nat), Free s → (s.drive drv).attached = true →
    ∀ z : State, z = (s.replyRead drv qid).setDrive drv { s.drive drv with
        scanDue := (s.drive drv).scanDue.filter (fun n => n ≠ qid), scanAt := s.clock } → s.granted z = true →
    exec (.driveCqScan drv qid) s = .next (noRewind s z)) ∧
  (∀ (s : State) (ch : Fin 4096) (rd : ReadResult) (h : Cmd), Free s → s.ready ch 0x0A = true → h = (s.chan ch).head.cmd →
    s.readWaits ch rd = false → (s.drive h.drive).attached = false →
    ∀ z : State, z = ((s.readOver ch).endCmd ch 0x52 0x0001 h.count).follows → s.granted z = true →
    exec (.nvme ch rd) s = .next (noRewind s z)) ∧
  (∀ (s t : State) (ch : Fin 4096) (rd : ReadResult) (h : Cmd) (b : List Byte), Free s → s.ready ch 0x0A = true →
    h = (s.chan ch).head.cmd → s.readWaits ch rd = false → (s.drive h.drive).attached = true →
      s.linkUp (h.drive + 2) = true → s.imageRead ch h rd = (.ok b, t) →
    imageOk (t.drive h.drive) b = true → h.count = imageCount (t.drive h.drive) b →
    ∀ z : State, z = (t.takeSlot ch h.drive (if fieldOf 8 0 h.param2 = 0 then 1 + ch.val % max 1 (t.drive h.drive).info.granted
        else fieldOf 8 0 h.param2) b).follows → s.granted z = true →
    exec (.nvme ch rd) s = .next (noRewind s z)) ∧
  (∀ (s t u : State) (drv : Fin 8) (cid : BitVec 16) (dw0 : BitVec 32) (status : BitVec 15) (e : DrvCid), Running s →
    (s.drive drv).cids.find? (fun x => x.cid = cid.toNat) = some e → e.abandoned = false →
    t = ((s.setDrive drv { s.drive drv with cids := (s.drive drv).cids.erase e }).replyTaken drv e.qp).replyRead drv e.qp →
    t.locked = false → (t.chan e.chan).phase = .active → (t.chan e.chan).stage = .drvRun →
    (t.chan e.chan).drv = some (drv.val, e.qp, cid.toNat) →
    u = (if status = 0 then t.endCmd e.chan 0 0 0 else t.endCmd e.chan 0x50 status.toNat (t.chan e.chan).head.cmd.count) →
    u.locked = false →
    ∀ z : State, z = (u.slotFreed drv e.qp).follows → s.granted z = true →
    exec (.driveCompletion drv cid dw0 status) s = .next (noRewind s z)) ∧
  (∀ (s t : State) (drv : Fin 8) (cid : BitVec 16) (dw0 : BitVec 32) (status : BitVec 15) (e : DrvCid), Running s →
    (s.drive drv).cids.find? (fun x => x.cid = cid.toNat) = some e → e.abandoned = true →
    t = (((s.setDrive drv { s.drive drv with cids := (s.drive drv).cids.erase e }).replyTaken drv e.qp).replyRead
      drv e.qp).staleRecord (0x74 + drv / 2) 1 e.chan (cid.toNat + drv * 2 ^ 16) (dw0.toNat + status.toNat * 2 ^ 32) →
    t.locked = false →
    ∀ z : State, z = (t.slotFreed drv e.qp).follows → s.granted z = true →
    exec (.driveCompletion drv cid dw0 status) s = .next (noRewind s z)) ∧
  (∀ (s p t : State) (ch : Fin 4096) (now d q cid : Nat), p = s.pass now → Free s → (p.chan ch).drv = some (d, q, cid) →
    (p.chan ch).phase = .active → (p.chan ch).stage = .drvRun → (p.chan ch).head.cmd.ntmo * second ≤ p.idleTime ch * 1000000 →
    t = (p.setDrive d { p.drive d with cids := (p.drive d).cids.map (fun e => if e.cid = cid then { e with abandoned := true } else e) }).putEntry
      d 0 (natLe 1 8 ++ natLe 39 0 ++ natLe 2 q ++ natLe 2 cid ++ natLe 20 0) →
    ∀ z : State, z = (t.endCmd ch 0x51 0 (p.chan ch).head.cmd.count).follows → p.granted z = true →
    exec (.nvmeCompletionTimeout ch now) s = .next (noRewind s z))

/-- The commands of power and reset complete (R34, R381, R382, R386 to R388, R390, R394 to R396, R398): rails rise and trip, the
resets are taken and released, VAON goes and comes back, the regulator's transactions end, and the registers of the lanes and of
the regulator are written. How the regulator's transactions run on the sideband is log entry 59. -/
def Obligations.PowerCommandsComplete : Prop :=
  (∀ (s t : State), s.power.state ≠ .run →
    t = ({ s with power := { s.power with railDown := none, state := .run }
                  side := { s.side with tap := .idcode, captured := 0, pins := .part, boundary := [] } } : State).timeUnkept →
    exec (.railsUp 0) s = .next (aside s (if t.power.rstLow then t else t.rstRelease))) ∧
  (∀ (s t u : State) (off : Nat), s.power.state ≠ .run → off ≠ 0 → s.power.vaon = true →
    t = { s with power := { s.power with railDown := none, state := .run }, time := { s.time with now := s.time.now + off }
                 side := { s.side with tap := .idcode, captured := 0, pins := .part, boundary := [] } } →
    u = t.coldHeld 1 0 off →
    exec (.railsUp off) s = .next (aside s { u with power := { u.power with rstLow := true } })) ∧
  (∀ (s t u : State) (off : Nat), s.power.state ≠ .run → off ≠ 0 → s.power.vaon = false →
    t = ({ s with power := { s.power with railDown := none, state := .run }
                  side := { s.side with tap := .idcode, captured := 0, pins := .part, boundary := [] } } : State).timeUnkept →
    u = t.coldHeld 1 0 off →
    exec (.railsUp off) s = .next (aside s { u with power := { u.power with rstLow := true } })) ∧
  (∀ (s t : State), Running s → t = s.coldHeld 2 0 0 →
    exec .sysRstAssert s = .next (aside s { t with power := { t.power with rstLow := true } })) ∧
  (∀ (s t : State) (rail : Fin 5), Running s → t = s.coldHeld 3 (rail + 1) 0 →
    exec (.supervisorTrip rail) s = .next (aside s { t with power := { t.power with
      railDown := some (t.power.railDown.getD rail)
      state := if t.power.vaon then PowerState.standby else PowerState.off } })) ∧
  (∀ (s : State), s.power.coldReset = true → s.power.state = .run → s.power.railDown = none →
    exec .sysRstRelease s = .next (noRewind s s.coldRelease)) ∧
  (∀ (s : State), exec .vaonLost s = .next (noRewind s { s with ana := { s.ana with detecting := 0 }, power := { s.power with
    vaon := false, aonLoss := if s.power.vaon then s.vault.armWord.testBit 20 else s.power.aonLoss
    state := if s.power.state = .standby then PowerState.off else s.power.state } })) ∧
  (∀ (s : State), s.power.vaon = false → exec .vaonReturn s = .next (aside s s.vaonRises)) ∧
  (∀ (s t : State) (v : BitVec 8), Running s → s.power.lostArb = false → s.power.txn = some .readMode → v.toNat / 32 = 0 →
    t = ({ s with power := { s.power with txn := none } }).setBit .pwrVrm 16 false →
    exec (.pmbusTransactionDone (.voutMode v)) s = .next (noRewind s
      ({ t with power := { t.power with exponent := some (sext 5 (v.toNat % 32)) } }).pmbusNext)) ∧
  (∀ (s : State) (n : Nat), Running s → s.power.lostArb = false → s.power.txn = some (.send n) →
    exec (.pmbusTransactionDone .sent) s = .next (noRewind s
      (({ s with power := { s.power with txn := none } }).setBit .pwrVrm 16 false).pmbusNext)) ∧
  (∀ (s : State) (n : Nat), Running s → s.power.lostArb = false → s.power.txn = some (.send n) →
    exec (.pmbusTransactionDone .nak) s = .next (noRewind s
      ((({ s with power := { s.power with txn := none } }).setBit .pwrVrm 16 false).setBit .pwrVrm 17 true).pmbusNext)) ∧
  (∀ (s : State), Running s →
    exec .sidebandBusFree s = .next (noRewind s { s with power := { s.power with lostArb := false } })) ∧
  (∀ (s t : State) (m : BitVec 8) (acc : Acc) (data : BitVec 64), Free s → acc ≠ .hi →
    t = s.setRg .pwrVreq ((s.rg .pwrVreq &&& (2 ^ 64 - 1 - 0x3FF)) ||| (data.toNat &&& 0x3FF)) →
    exec (.pwrVreqWrite m acc data) s = .next (noRewind s t.vreqWritten)) ∧
  (∀ (s : State) (m : BitVec 8) (acc : Acc) (data : BitVec 64), Free s → acc ≠ .hi →
    exec (.pwrVrmWrite m acc data) s = .next (noRewind s (s.writePlain m.toNat ⟨.pwrVrm, 0, 0⟩ acc data.toNat))) ∧
  (∀ (s : State) (m : BitVec 8) (acc : Acc) (data : BitVec 64), Free s → acc ≠ .hi →
    ∀ z : State, z = (s.writePlain m.toNat ⟨.pwrLane, 0, 0⟩ acc data.toNat).follows → s.granted z = true →
    exec (.pwrLaneWrite m acc data) s = .next (noRewind s z)) ∧
  (∀ (s : State) (m : BitVec 8), Running s → s.warmRuns = false →
    exec (.gctlRstWarm m) s = .next (noRewind s (s.warmReset 4)))

/-- The commands of the sensors, the converters, the vault and the tamper inputs complete (R392, R395, R398, R399, R405 to R408,
R411 to R413). -/
def Obligations.AnalogueCommandsComplete : Prop :=
  (∀ (s p : State) (readings : List (BitVec 11)) (now : Nat), p = s.pass now → Running s →
    exec (.paceRefresh readings now) s = .next (noRewind s
      (((readings.take 16).map BitVec.toNat).foldl (fun (a : Nat × State) v => (a.1 + 1, a.2.paceReading a.1 v)) (0,
        p)).2.paceBelow)) ∧
  (∀ (s p : State) (readings : List (BitVec 16)) (now : Nat), p = s.pass now → Running s →
    exec (.tempSensorRefresh readings now) s = .next (noRewind s
      ((readings.take 8).foldl (fun (a : Nat × State) v => (a.1 + 1, a.2.tempReading a.1 v)) (0, p)).2)) ∧
  (∀ (s p t : State) (readings : List (BitVec 12)) (now : Nat), p = s.pass now → Running s →
    t = ((readings.take 5).foldl (fun (a : Nat × State) v => (a.1 + 1, a.2.voltReading a.1 v)) (0, p)).2 →
    exec (.voltSensorRefresh readings now) s = .next (noRewind s
      { t with ana := { t.ana with vddaRead := t.ana.vddaRead || 3 ≤ readings.length } })) ∧
  (∀ (s p t : State) (lane : Fin 66) (adapted : Bool) (now : Nat), p = s.pass now → Running s →
    t = { p with ana := { p.ana with laneRole := tabSet false p.ana.laneRole lane (!tabGet false p.ana.laneRole lane) } } →
    exec (.lanePathSwap lane adapted now) s = .next (noRewind s
      (if adapted && t.inL0 (t.laneLink lane) then t.setBit .anaLane (lane % 64) true (lane / 64) else t))) ∧
  (∀ (s p : State) (d : Fin 128) (now : Nat) (r : Bool), p = s.pass now → Running s → r = !tabGet false p.ana.tdcRole d →
    exec (.tdcRoleSwap d now) s = .next (noRewind s
      { p with ana := { p.ana with
        tdcRole := tabSet false p.ana.tdcRole d r, tdcCal := tabSet none p.ana.tdcCal (2 * d + b2n r) (some p.clock) } })) ∧
  (∀ (s p t : State) (corrected uncorrectable l : List Nat) (now : Nat), p = s.pass now → Running s →
    usPassed p.vault.lastScrub p.clock 86400000000 = true → l = (uncorrectable.filter (fun w => w < vaultEnd)).eraseDups →
    t = (((corrected.filter (fun w => w < vaultEnd)).eraseDups).foldl (fun t w => t.vaultPut [w] id) p).addFld .vltStat 15 8
      l.length →
    exec (.vaultScrub corrected uncorrectable now) s = .next (noRewind s
      { t with vault := { t.vault with badWords := (t.vault.badWords ++ l).eraseDups, lastScrub := t.clock } })) ∧
  (∀ (s t : State) (src : Fin 10) (sense : TamperSense), Running s → s.armed src = true → s.senses src sense = (true, t) →
    exec (.tamperDetect src sense) s = .next (noRewind s (t.tamperRuns src (senseArg sense)))) ∧
  (∀ (s t : State) (src : Fin 10) (sense : TamperSense), s.power.coldReset = true → s.power.vaon = true →
    bothStates src = true → s.armed src = true → s.senses src sense = (true, t) →
    exec (.tamperDetectStandby src sense) s = .next (noRewind s
      ((t.setDetecting src true).tamperErase src (senseArg sense) s.time.now false))) ∧
  (∀ (s t : State) (src : Fin 10) (sense : TamperSense), s.power.vaon = true → s.senses src sense = (true, t) →
    exec (.tamperSeen src (some sense)) s = .next (noRewind s (t.tamperShows src))) ∧
  (∀ (s t : State) (src : Fin 10) (sense : TamperSense), s.power.vaon = true → s.senses src sense = (false, t) →
    exec (.tamperSeen src (some sense)) s = .next (noRewind s t)) ∧
  (∀ (s : State) (src : Fin 10), s.power.vaon = true → 4 ≤ src.val →
    exec (.tamperSeen src none) s = .next (noRewind s (s.setDetecting src false))) ∧
  (∀ (s : State) (src : Fin 4) (l : PinLevel), s.senses src (.pin l) =
    let t := { s with ana := { s.ana with tamperIn := tabSet .open_ s.ana.tamperIn src l } }
    (t.pinActive t.vault.armWord src, if t.pinActive t.vault.armWord src then t else t.setDetecting src false))

/-- The commands of the sideband port and of the JTAG port complete in every state, cold reset too, and change nothing but that
port's answers and what drives the pins (R425 to R427): an instruction that needs SYS_RST_N low acts as BYPASS where it is high. -/
def Obligations.SidebandAndTapCommandsComplete : Prop :=
  (∀ (s : State) (written : List Byte), written.length ≠ 1 ∨ s.power.coldReset = true →
    exec (.sidebandRead written) s = .next (noRewind s { s with side := { s.side with acked := false } })) ∧
  (∀ (s : State) (cmd : BitVec 8), Running s →
    exec (.sidebandRead [cmd]) s = .next (noRewind s { s with side := s.sidebandAnswer cmd.toNat })) ∧
  (∀ (s : State), s.power.state = .run → exec .bypass s = .next (noRewind s
    { s with side := { s.side with tap := .bypass, captured := 0, pins := .part } })) ∧
  (∀ (s : State), s.power.state = .run → exec .idcode s = .next (noRewind s
    { s with side := { s.side with tap := .idcode, captured := idcodeWord, pins := .part } })) ∧
  (∀ (s : State) (pins : List (Pin × Bool)), s.power.state = .run → exec (.samplePreload pins) s = .next (noRewind s
    { s with side := { s.side with tap := .samplePreload, pins := .part, boundary := pins } })) ∧
  (∀ (s : State), s.power.state = .run → exec .extest s = .next (noRewind s
    { s with side := { s.side with tap := if s.power.rstLow then .extest else .bypass, captured := 0
                                   pins := if s.power.rstLow then .boundary else .part } })) ∧
  (∀ (s : State), s.power.state = .run → exec .extestPulse s = .next (noRewind s
    { s with side := { s.side with tap := if s.power.rstLow then .extestPulse else .bypass, captured := 0
                                   pins := if s.power.rstLow then .boundary else .part } })) ∧
  (∀ (s : State), s.power.state = .run → exec .extestTrain s = .next (noRewind s
    { s with side := { s.side with tap := if s.power.rstLow then .extestTrain else .bypass, captured := 0
                                   pins := if s.power.rstLow then .boundary else .part } })) ∧
  (∀ (s : State), s.power.state = .run → exec .highz s = .next (noRewind s
    { s with side := { s.side with tap := if s.power.rstLow then .highz else .bypass, captured := 0
                                   pins := if s.power.rstLow then .nothing else .part } })) ∧
  (∀ (s : State), s.power.state = .run → exec .clamp s = .next (noRewind s
    { s with side := { s.side with tap := if s.power.rstLow then .clamp else .bypass, captured := 0
                                   pins := if s.power.rstLow then .boundary else .part } }))

/-- The commands of Fenuz complete in a part that runs (R346 to R361, R400): a frame that is for the part has its row's effect on
the frame's header and body, one that is not is passed on, and the periods, silences and time-outs act where they are due. What a
loopback measurement leaves, and what it holds up, is log entries 68 and 113. -/
def Obligations.FenuzCommandsComplete : Prop :=
  (∀ (s p : State) (port : Fin 2) (f : Frame) (t2 t3 : Nat), p = s.pass t3 → Running s → p.hears port f 1 1 →
    exec (.syncReq port f t2 t3) s = .next (noRewind s (p.syncServed port t2 t3 (headerOf f.bytes) (frameBody f.bytes)))) ∧
  (∀ (s p : State) (port : Fin 2) (f : Frame) (t4 : Nat) (across : Bool), p = s.pass t4 → Running s → p.hears port f 1 2 →
    exec (.syncRsp port f ⟨t4, across⟩) s = .next (aside s
      (p.syncAnswered port t4 across (headerOf f.bytes) (frameBody f.bytes)).afterwards)) ∧
  (∀ (s p : State) (port : Fin 2) (f : Frame) (now : Nat), p = s.pass now → Running s → p.hears port f 1 3 →
    exec (.announce port f now) s = .next (noRewind s (p.announceHeard port (headerOf f.bytes) (frameBody f.bytes)))) ∧
  (∀ (s p : State) (now : Nat), p = s.pass now → Running s → exec (.announcePeriod now) s = .next (noRewind s p.announces)) ∧
  (∀ (s p t : State) (now xid : Nat), p = s.pass now → Running s → p.vault.member = true → p.fld .fnzStat 33 32 ≠ 0 →
    (∀ l, p.fenuz.lastSync = some l → usPassed l p.clock syncUs = true) → p.measuring (p.fld .fnzStat 33 32 - 1) = false →
    p.newXid = (xid, t) →
    exec (.syncPeriod now) s = .next (noRewind s
      (({ t with fenuz := { t.fenuz with
        lastSync := some t.clock, exch := some (t.time.now + t.txDelay (p.fld .fnzStat 33 32 - 1), xid) } }).fnzSend
        (p.fld .fnzStat 33 32 - 1) 1 1 xid (t.fld .fnzStat 53 36) (natLe 4 t.alignNow ++ natLe 4 t.subtreeAlign)))) ∧
  (∀ (s p : State) (now : Nat), p = s.pass now → Running s → p.vault.member = true → p.fld .fnzStat 33 32 ≠ 0 → p.fenuz.heard = [] →
    exec (.parentLoss now) s = .next (noRewind s p.loseParent)) ∧
  (∀ (s p : State) (now : Nat), p = s.pass now → Running s → p.vault.member = true → p.fnzPrio ≠ 0xFF →
    p.fenuz.gms.any (fun e => !usPassed e.2.2 p.clock heardUs && e.2.1 ≠ p.vault.node
      && betterGm e.1 e.2.1 p.fnzPrio p.vault.node) = false →
    exec (.gmSilence now) s = .next (noRewind s p.becomeGm)) ∧
  (∀ (s : State) (port : Fin 2) (f : Frame), Running s → s.hears port f 2 1 →
    exec (.hello port f) s = .next (noRewind s (s.helloHeard port (headerOf f.bytes) (frameBody f.bytes)))) ∧
  (∀ (s : State) (port : Fin 2) (f : Frame), Running s → s.hears port f 2 2 →
    exec (.challenge port f) s = .next (noRewind s (s.challengeHeard port (frameBody f.bytes)))) ∧
  (∀ (s : State) (port : Fin 2) (f : Frame), Running s → s.hears port f 2 3 →
    exec (.proof port f) s = .next (noRewind s (s.proofHeard port (headerOf f.bytes) (frameBody f.bytes)))) ∧
  (∀ (s : State) (port : Fin 2) (f : Frame), Running s → s.hears port f 2 4 →
    exec (.grant port f) s = .next (noRewind s (s.grantHeard (frameBody f.bytes)))) ∧
  (∀ (s p t : State) (now : Nat) (j : Join), p = s.pass now → Free s →
    t = { p with fenuz := { p.fenuz with sponsoring := p.fenuz.sponsoring.filter (fun j => !usPassed j.at_ p.clock 1000000) } } →
    t.fenuz.join = some j → usPassed j.at_ p.clock 1000000 = true →
    exec (.joinStepTimeout now) s = .next (noRewind s (t.joinFails j.chan snNotFound))) ∧
  (∀ (s p : State) (node : BitVec 18) (now : Nat), p = s.pass now → Running s →
    exec (.admissionLapse node now) s = .next (noRewind s { p with fenuz := { p.fenuz with
      admissions := p.fenuz.admissions.filter (fun a => !(a.node = node.toNat && a.until_ ≤ p.clock)) } })) ∧
  (∀ (s t : State) (port : Fin 2) (f : Frame) (r : List Byte), Running s → s.hears port f 2 5 → s.signReady = true →
    s.report (frameBody f.bytes) = (r, t) →
    exec (.attReq port f) s = .next (noRewind s
      (t.fnzSend port 2 6 (headerOf f.bytes).xid (headerOf f.bytes).src (frameBody f.bytes ++ r)))) ∧
  (∀ (s : State) (port : Fin 2) (f : Frame), Running s → s.hears port f 2 6 →
    ∀ z : State, z = s.reportArrives port (headerOf f.bytes) (frameBody f.bytes) → s.granted z = true →
    exec (.attRsp port f) s = .next (noRewind s z)) ∧
  (∀ (s : State) (port : Fin 2) (f : Frame) (h : Header) (c : Nat), Running s → s.hears port f 3 1 → h = headerOf f.bytes →
    c = msgChn (frameBody f.bytes) → c < 32 →
    exec (.mbxReq port f) s = .next (noRewind s (s.setBox c { s.box c with
      relayed := (s.box c).relayed ++ [⟨frameBody f.bytes, (s.box c).inFifo.length, ⟨h.xid, h.src, port⟩⟩] }))) ∧
  (∀ (s : State) (port : Fin 2) (f : Frame), Running s → s.hears port f 3 2 →
    exec (.mbxRsp port f) s = .next (noRewind s (s.mbxReplied port (headerOf f.bytes) (frameBody f.bytes)))) ∧
  (∀ (s : State) (port : Fin 2) (f : Frame), Running s → s.hears port f 4 1 →
    ∀ z : State, z = s.recArrives port (headerOf f.bytes) (frameBody f.bytes) → s.granted z = true →
    exec (.recRecv port f) s = .next (noRewind s z)) ∧
  (∀ (s : State) (port : Fin 2) (f : Frame), Running s → s.hears port f 4 2 →
    exec (.recAck port f) s = .next (noRewind s (s.recAcked port (headerOf f.bytes) (frameBody f.bytes)))) ∧
  (∀ (s p : State) (xid : BitVec 16) (now : Nat) (r : Relay), p = s.pass now → Free s →
    p.fenuz.relays.find? (fun r => r.xid = xid.toNat && !r.dead && usPassed r.at_ p.clock 1000000) = some r →
    exec (.relayTimeout xid now) s = .next (noRewind s
      (({ p with fenuz := { p.fenuz with relays := p.fenuz.relays.map (fun x => if x = r then { x with dead := true } else x) } }).finish
        r.chan (ansErr snNotFound)))) ∧
  (∀ (s : State) (port : Fin 2) (f : Frame) (h : Header), Running s → h = headerOf f.bytes → s.bit .fnzPort 0 port = true →
    frameGood f = true → s.fleetFits h = true → s.locked = false → (s.vault.member && h.src = s.vault.node) = false → h.kind ≠ 1 →
    h.dst ≠ s.fnzNode → 1 < h.ttl →
    exec (.frameForward port f) s = .next (noRewind s
      (s.fnzPut (1 - port) (etherFrame (unicastAddr h.dst) (unicastAddr h.src)
        (f.bytes.take 2 ++ natLe 1 (h.ttl - 1) ++ f.bytes.drop 3))))) ∧
  (∀ (s p : State) (port : Fin 2) (m : Loopback), p = s.pass m.time → Running s → p.calIsDue port = true →
    exec (.fnzLoopbackCal port m) s = .next (noRewind s
      { p with fenuz := { p.fenuz with
        lastCal := tabSet none p.fenuz.lastCal port (some p.clock), calDue := p.fenuz.calDue.filter (fun n => n ≠ port.val)
        calUntil := tabSet 0 p.fenuz.calUntil port (p.clock + calLength)
        delays := tabSet (0, 0) p.fenuz.delays port (m.tx, m.rx) } }))

/-- Accesses of the register space by offset complete (R47, R48, R54 to R56, R288, R369): a write that reaches a register has the
register's effect; one that reaches no register is recorded and a read of such a place answers all-ones; a channel processor's or
mover's access that R54 refuses is a bus error; a request from a host or a drive reads and writes zone 0. -/
def Obligations.RegisterSpaceCommandsComplete : Prop :=
  (∀ (s : State) (m : BitVec 8) (off : Nat) (acc : Acc) (data : BitVec 64) (r : Reg), Running s → off < 0x4000000 →
    off % 8 = 0 ∨ (acc = .hi ∧ off % 4 = 0) → regAt? (off / 8 * 8) = some r →
    ∀ z : State, z = (s.writeReg m.toNat r acc data.toNat).follows → s.granted z = true →
    exec (.registerWrite m off acc data) s = .next (noRewind s z)) ∧
  (∀ (s : State) (m : BitVec 8) (off : Nat) (data : BitVec 64), Running s → off < 0x4000000 → off % 4 = 0 →
    regAt? (off / 8 * 8) = none →
    ∀ z : State, z = (s.fault m.toNat 0x01 m.toNat 2 (0x1000000000 + off / 8 * 8 + 4)).follows → s.granted z = true →
    exec (.registerWrite m off .hi data) s = .next (noRewind s z)) ∧
  (∀ (s : State) (m : BitVec 8) (off : Nat) (acc : Acc) (data : BitVec 64), Running s → off < 0x4000000 → off % 8 = 0 →
    acc ≠ .hi → regAt? off = none →
    ∀ z : State, z = (s.fault m.toNat 0x01 m.toNat 2 (0x1000000000 + off)).follows → s.granted z = true →
    exec (.registerWrite m off acc data) s = .next (noRewind s z)) ∧
  (∀ (s : State) (m : BitVec 8) (off : Nat) (acc : Acc) (data : BitVec 64), Running s → off < 0x4000000 → off % 8 ≠ 0 →
    ¬ (off % 4 = 0 ∧ acc = .hi) →
    ∀ z : State, z = (s.fault m.toNat 0x01 m.toNat 2 (0x1000000000 + off)).follows → s.granted z = true →
    exec (.registerWrite m off acc data) s = .next (noRewind s z)) ∧
  (∀ (s : State) (m : BitVec 8) (addr : BitVec 64) (len : Nat), Running s → refusedAt addr.toNat len = true →
    engineMaster m.toNat = false →
    ∀ z : State, z = ((s.fault m.toNat 0x01 m.toNat 1 addr.toNat).reply (List.replicate len 0xFF)).follows → s.granted z = true →
    exec (.unmappedAccess m addr len false) s = .next (noRewind s z)) ∧
  (∀ (s : State) (m : BitVec 8) (addr : BitVec 64) (len : Nat), Running s → refusedAt addr.toNat len = true →
    engineMaster m.toNat = false →
    ∀ z : State, z = ((s.fault m.toNat 0x01 m.toNat 2 addr.toNat).reply []).follows → s.granted z = true →
    exec (.unmappedAccess m addr len true) s = .next (noRewind s z)) ∧
  (∀ (s : State) (m : BitVec 8) (addr : BitVec 64) (len : Nat), Running s → refusedAt addr.toNat len = false →
    unmappedAt addr.toNat = true →
    ∀ z : State, z = ((s.fault m.toNat 0x01 m.toNat 1 addr.toNat).reply (List.replicate len 0xFF)).follows → s.granted z = true →
    exec (.unmappedAccess m addr len false) s = .next (noRewind s z)) ∧
  (∀ (s : State) (m : BitVec 8) (addr : BitVec 64) (len : Nat) (write : Bool), Running s →
    refusedAt addr.toNat len = true → engineMaster m.toNat = true →
    ∀ z : State, z = ({ (s.engineRefused m.toNat addr.toNat write) with bus := ⟨[], false, some 5⟩ } : State).follows →
    s.granted z = true →
    exec (.unmappedAccess m addr len write) s = .next (noRewind s z)) ∧
  (∀ (s t : State) (m : BitVec 8) (tg : MemTarget) (n : Nat) (be : List Bool) (d : List Byte) (p : Bool), Running s →
    mayReach m.toNat tg = true → placeOf (targetAddr tg) = .store → s.inRead m.toNat (targetAddr tg) n (n + 1) = (d, p, t) →
    ∀ z : State, z = { t with bus := ⟨d, p, none⟩ }.follows → s.granted z = true →
    exec (.inboundMemoryRequest m (.read tg n be)) s = .next (noRewind s z)) ∧
  (∀ (s : State) (m : BitVec 8) (tg : MemTarget) (d : List Byte) (be : List Bool) (poisoned : Bool), Running s →
    mayReach m.toNat tg = true → placeOf (targetAddr tg) = .store →
    ∀ z : State, z = (s.inWrite m.toNat (targetAddr tg) d be poisoned (d.length + 1)).follows → s.granted z = true →
    exec (.inboundMemoryRequest m (.write tg d be poisoned)) s = .next (noRewind s z)) ∧
  (∀ (s : State) (m : BitVec 8) (tg : MemTarget) (n : Nat) (be : List Bool), Running s → mayReach m.toNat tg = true →
    placeOf (targetAddr tg) ≠ .store → be.any (fun b => !b) = true →
    ∀ z : State, z = ((s.fault m.toNat 0x01 m.toNat 1 (targetAddr tg)).reply (List.replicate n 0xFF)).follows →
      s.granted z = true →
    exec (.inboundMemoryRequest m (.read tg n be)) s = .next (noRewind s z)) ∧
  (∀ (s : State) (m : BitVec 8) (req : MemRequest), Running s →
    (match req with | .unsupported => true | .read tg _ _ => !mayReach m.toNat tg | .write tg _ _ _ => !mayReach m.toNat tg) =
      true →
    ∀ z : State, z = (s.unsupported m.toNat).follows → s.granted z = true →
    exec (.inboundMemoryRequest m req) s = .next (noRewind s z)) ∧
  (∀ (s t : State) (m : BitVec 8) (tg : MemTarget) (n : Nat) (be : List Bool) (d : List Byte) (p : Bool), Running s →
    mayReach m.toNat tg = true → placeOf (targetAddr tg) ≠ .store → be.any (fun b => !b) = false →
      s.otherRead m.toNat 71 (targetAddr tg) n = (d, p, t) →
    ∀ z : State, z = { t with bus := ⟨d, p, none⟩ }.follows → s.granted z = true →
    exec (.inboundMemoryRequest m (.read tg n be)) s = .next (noRewind s z)) ∧
  (∀ (s : State) (m : BitVec 8) (tg : MemTarget) (d : List Byte) (be : List Bool), Running s → mayReach m.toNat tg = true →
    placeOf (targetAddr tg) ≠ .store → be.any (fun b => !b) = false →
    ∀ z : State, z = (s.otherWrite m.toNat 71 (targetAddr tg) d).follows → s.granted z = true →
    exec (.inboundMemoryRequest m (.write tg d be false)) s = .next (noRewind s z)) ∧
  (∀ (s : State) (m : BitVec 8) (tg : MemTarget) (d : List Byte) (be : List Bool) (poisoned : Bool), Running s →
    mayReach m.toNat tg = true → placeOf (targetAddr tg) ≠ .store → poisoned = true ∨ be.any (fun b => !b) = true →
    ∀ z : State, z = (s.fault m.toNat 0x01 m.toNat 2 (targetAddr tg)).follows → s.granted z = true →
    exec (.inboundMemoryRequest m (.write tg d be poisoned)) s = .next (noRewind s z))

/-- The commands to Snima about the device, its operator and its layout complete (R78 to R94, R105 to R107): where Snima takes the
message and lets it through, the command's handler runs on its body and the turn ends with its answer, or with the command running
on. CLOSE always answers SN_OK and drops the operator's key; an answer that waited is posted when room came; a command that Snima
does not know is answered, and the image that it boots from is loaded or refused. That BOOT_STAGED has LEN 16 is log entry 106. -/
def Obligations.SnimaDeviceCommandsComplete : Prop :=
  (∀ (s t u : State) (c : Fin 32) (q : Pending) (drop : Bool) (turn : Turn), Running s →
    s.snimaTakes c 0x0000 0 (lenIs 0) q t drop → devInfoTurn c (bodyOf c q.msg) none t = (turn, u) →
    exec (.devInfo c) s = .next (noRewind s (u.endTurn c q true drop turn))) ∧
  (∀ (s t u : State) (c : Fin 32) (q : Pending) (drop : Bool) (turn : Turn), Running s →
    s.snimaTakes c 0x0001 0 (lenIs 0) q t drop → devHealthTurn c (bodyOf c q.msg) none t = (turn, u) →
    exec (.devHealth c) s = .next (noRewind s (u.endTurn c q true drop turn))) ∧
  (∀ (s t u : State) (c : Fin 32) (q : Pending) (drop : Bool) (turn : Turn), Running s →
    s.snimaTakes c 0x0002 2 (lenIs 0) q t drop → operNonceTurn c (bodyOf c q.msg) none t = (turn, u) →
    exec (.operNonce c) s = .next (noRewind s (u.endTurn c q true drop turn))) ∧
  (∀ (s t u : State) (c : Fin 32) (q : Pending) (drop : Bool) (turn : Turn), Running s →
    s.snimaTakes c 0x0003 2 (lenIs 203) q t drop → operOpenTurn c (bodyOf c q.msg) none t = (turn, u) →
    exec (.operOpen c) s = .next (noRewind s ((u.setBox c { u.box c with nonce := none }).endTurn c q true drop turn))) ∧
  (∀ (s t u : State) (c : Fin 32) (q : Pending) (drop : Bool) (turn : Turn), Running s →
    s.snimaTakes c 0x0005 1 (lenIs 8) q t drop → devRestartTurn c (bodyOf c q.msg) none t = (turn, u) →
    exec (.devRestart c) s = .next (noRewind s (u.endTurn c q true drop turn))) ∧
  (∀ (s t u : State) (c : Fin 32) (q : Pending) (drop : Bool) (turn : Turn), Running s →
    s.snimaTakes c 0x0100 0 (lenIs 0) q t drop → layoutGetTurn c (bodyOf c q.msg) none t = (turn, u) →
    exec (.layoutGet c) s = .next (noRewind s (u.endTurn c q true drop turn))) ∧
  (∀ (s t u : State) (c : Fin 32) (q : Pending) (drop : Bool) (turn : Turn), Running s →
    s.snimaTakes c 0x0101 1 (lenIs 8) q t drop → layoutSetTurn c (bodyOf c q.msg) none t = (turn, u) →
    ∀ z : State, z = u.endTurn c q true drop turn → s.granted z = true →
    exec (.layoutSet c) s = .next (noRewind s z)) ∧
  (∀ (s t : State) (c : Fin 32) (q : Pending) (drop : Bool), Running s → s.snimaTakes c 0x0004 1 (lenIs 0) q t drop →
    exec (.operClose c) s = .next (noRewind s (t.endTurn c q true drop (.answer (ansOk []) .dropKey)))) ∧
  (∀ (s : State) (c : Fin 32) (p : Posting) (q : Pending), Running s → (s.box c).respWait = some p → (s.box c).busy = some q →
    s.snimaUp = true → (s.box c).outFifo.length < 64 →
    exec (.snimaResponsePosted c) s = .next (noRewind s (s.sendAnswer c q.msg none p))) ∧
  (∀ (s t u : State) (c : Fin 32) (q : Pending) (rc field : Nat) (mac drop : Bool), Running s → s.snimaUp = true →
    s.takeMsg c (fun n => !cmdKnown n) = some (q, t) → msgEpoch q.msg = t.epoch c false →
    t.gate c 0 false (fun _ => true) q.msg = (.shut rc field mac drop, u) →
    exec (.undefinedSnimaCommand c) s = .next (noRewind s (u.answer c q ⟨⟨rc, field, []⟩, mac, drop, .nothing⟩))) ∧
  (∀ (s t : State) (b : Bool) (rest : List Bool) (r : Nat), Running s → s.locked = false → s.fld .gctlBoot 2 0 = 1 →
    s.snima.bootSlots = b :: rest → r = s.imageCheck (s.slotImage b) →
    t = (if b then s.setFld .gctlBoot 19 16 r else s.setFld .gctlBoot 23 20 r).setFld .gctlBoot 2 0 (if rest = [] then 3 else 1) →
    exec (.bootImageLoaded true) s = .next (noRewind s
      (if r = 0 then s.snimaStarts (s.slotImage b) (if b then 2 else 1)
        else { t with snima := { t.snima with bootSlots := rest, loadAt := t.clock } }))) ∧
  (∀ (s t : State) (rest : List Bool), Running s → s.locked = false → s.fld .gctlBoot 2 0 = 1 → s.snima.bootSlots = false :: rest →
    t = (s.setFld .gctlBoot 23 20 5).setFld .gctlBoot 2 0 (if rest = [] then 3 else 1) →
    exec (.bootImageLoaded false) s = .next (noRewind s
      { t with snima := { t.snima with bootSlots := rest, loadAt := t.clock } })) ∧
  (∀ (s t u v : State) (q : Pending) (drop : Bool) (turn : Turn), Running s → s.locked = false → s.fld .gctlBoot 2 0 = 3 →
    s.takeMsg 0 (fun n => n = 0x05FF) = some (q, t) → msgEpoch q.msg = t.epoch 0 false →
    t.gate 0 0 true (lenIs 16) q.msg = (.pass drop, u) → u.bootStagedTurn (bodyOf 0 q.msg) = (turn, v) →
    ∀ z : State, z = v.endTurn 0 q true drop turn → s.granted z = true →
    exec .bootStaged s = .next (noRewind s z))

/-- The commands to Snima that create, delete and show queues and drives complete (R95 to R101): as above, and a drive's command
that has run out of time is answered SN_HW_FAULT. The Abort that the part sends for it is log entry 43. -/
def Obligations.SnimaQueueAndDriveCommandsComplete : Prop :=
  (∀ (s t u : State) (c : Fin 32) (q : Pending) (drop : Bool) (turn : Turn), Running s →
    s.snimaTakes c 0x0200 1 (lenIs 32) q t drop → cqCreateTurn c (bodyOf c q.msg) none t = (turn, u) →
    exec (.cqCreate c) s = .next (noRewind s (u.endTurn c q true drop turn))) ∧
  (∀ (s t u : State) (c : Fin 32) (q : Pending) (drop : Bool) (turn : Turn), Running s →
    s.snimaTakes c 0x0201 1 (lenIs 40) q t drop → sqCreateTurn c (bodyOf c q.msg) none t = (turn, u) →
    exec (.sqCreate c) s = .next (noRewind s (u.endTurn c q true drop turn))) ∧
  (∀ (s t u : State) (c : Fin 32) (q : Pending) (drop : Bool) (turn : Turn), Running s →
    s.snimaTakes c 0x0202 1 (lenIs 8) q t drop → sqDeleteTurn c (bodyOf c q.msg) none t = (turn, u) →
    exec (.sqDelete c) s = .next (noRewind s (u.endTurn c q true drop turn))) ∧
  (∀ (s t u : State) (c : Fin 32) (q : Pending) (drop : Bool) (turn : Turn), Running s →
    s.snimaTakes c 0x0203 1 (lenIs 8) q t drop → cqDeleteTurn c (bodyOf c q.msg) none t = (turn, u) →
    exec (.cqDelete c) s = .next (noRewind s (u.endTurn c q true drop turn))) ∧
  (∀ (s t u : State) (c : Fin 32) (q : Pending) (drop : Bool) (turn : Turn), Running s →
    s.snimaTakes c 0x0204 0 (lenIs 8) q t drop → qQueryTurn c (bodyOf c q.msg) none t = (turn, u) →
    exec (.qQuery c) s = .next (noRewind s (u.endTurn c q true drop turn))) ∧
  (∀ (s t u : State) (c : Fin 32) (q : Pending) (drop : Bool) (turn : Turn), Running s →
    s.snimaTakes c 0x0800 0 (lenIs 0) q t drop → drvListTurn c (bodyOf c q.msg) none t = (turn, u) →
    exec (.drvList c) s = .next (noRewind s (u.endTurn c q true drop turn))) ∧
  (∀ (s t u : State) (c : Fin 32) (ans : DriveAnswer) (q : Pending) (drop : Bool) (turn : Turn), Running s →
    s.snimaTakes c 0x0801 1 (lenIs 16) q t drop → drvAttachTurn ans c (bodyOf c q.msg) none t = (turn, u) →
    ∀ z : State, z = u.endTurn c q true drop turn → s.granted z = true →
    exec (.drvAttach c ans) s = .next (noRewind s z)) ∧
  (∀ (s t u : State) (c : Fin 32) (q : Pending) (drop : Bool) (turn : Turn), Running s →
    s.snimaTakes c 0x0802 1 (lenIs 8) q t drop → drvDetachTurn c (bodyOf c q.msg) none t = (turn, u) →
    ∀ z : State, z = u.endTurn c q true drop turn → s.granted z = true →
    exec (.drvDetach c) s = .next (noRewind s z)) ∧
  (∀ (s t u : State) (c : Fin 32) (ans : AdminAnswer) (q : Pending) (drop : Bool) (turn : Turn), Running s →
    s.snimaTakes c 0x0803 1 (lenIs 88) q t drop → drvAdminTurn ans c (bodyOf c q.msg) none t = (turn, u) →
    ∀ z : State, z = u.endTurn c q true drop turn → s.granted z = true →
    exec (.drvAdmin c ans) s = .next (noRewind s z)) ∧
  (∀ (s p : State) (c : Fin 32) (now : Nat) (q : Pending), p = s.pass now → Running s → p.snimaUp = true → (p.box c).busy = some q →
    p.running c = some 0x0801 → q.deadline ≤ p.clock →
    ∀ z : State, z = (p.setDrive (bytesAt (bodyOf c q.msg) 0 1 % 8) drive0).finish c (ansErr snHwFault) → p.granted z = true →
    exec (.driveReadyTimeout c now) s = .next (noRewind s z)) ∧
  (∀ (s p : State) (c : Fin 32) (now : Nat) (q : Pending) (d : Nat), p = s.pass now → Running s → p.snimaUp = true →
    (p.box c).busy = some q → p.running c = some 0x0803 → q.deadline ≤ p.clock → d = bytesAt (bodyOf c q.msg) 0 1 % 8 →
    (p.drive d).attached = true →
    ∀ z : State, z =
      ((p.putEntry d 0 (natLe 1 8 ++ natLe 39 0 ++ natLe 2 0 ++ natLe 2 q.tag ++ natLe 20 0)).adminFree d q.tag).finish c
        (ansErr snHwFault) → p.granted z = true →
    exec (.drvAdminTimeout c now) s = .next (noRewind s z))

/-- The commands to Snima about sessions complete (R112 to R125), and a count that waits is folded into its context. -/
def Obligations.SnimaSessionCommandsComplete : Prop :=
  (∀ (s t u : State) (c : Fin 32) (q : Pending) (drop : Bool) (turn : Turn), Running s →
    s.snimaTakes c 0x0300 1 importLen q t drop → sessImportTurn c (bodyOf c q.msg) none t = (turn, u) →
    ∀ z : State, z = u.endTurn c q true drop turn → s.granted z = true →
    exec (.sessImport c) s = .next (noRewind s z)) ∧
  (∀ (s t u : State) (c : Fin 32) (q : Pending) (drop : Bool) (turn : Turn), Running s →
    s.snimaTakes c 0x0301 1 (lenIs 56) q t drop → sessGenerateTurn c (bodyOf c q.msg) none t = (turn, u) →
    ∀ z : State, z = u.endTurn c q true drop turn → s.granted z = true →
    exec (.sessGenerate c) s = .next (noRewind s z)) ∧
  (∀ (s t u : State) (c : Fin 32) (q : Pending) (drop : Bool) (turn : Turn), Running s →
    s.snimaTakes c 0x0302 1 (lenIs 8) q t drop → sessExportTurn c (bodyOf c q.msg) none t = (turn, u) →
    ∀ z : State, z = u.endTurn c q true drop turn → s.granted z = true →
    exec (.sessExport c) s = .next (noRewind s z)) ∧
  (∀ (s t u : State) (c : Fin 32) (q : Pending) (drop : Bool) (turn : Turn), Running s →
    s.snimaTakes c 0x0303 1 (lenIs 56) q t drop → sessPolicyTurn c (bodyOf c q.msg) none t = (turn, u) →
    ∀ z : State, z = u.endTurn c q true drop turn → s.granted z = true →
    exec (.sessPolicy c) s = .next (noRewind s z)) ∧
  (∀ (s t u : State) (c : Fin 32) (q : Pending) (drop : Bool) (turn : Turn), Running s →
    s.snimaTakes c 0x0304 1 (lenIs 8) q t drop → sessDestroyTurn c (bodyOf c q.msg) none t = (turn, u) →
    ∀ z : State, z = u.endTurn c q true drop turn → s.granted z = true →
    exec (.sessDestroy c) s = .next (noRewind s z)) ∧
  (∀ (s t u : State) (c : Fin 32) (q : Pending) (drop : Bool) (turn : Turn), Running s →
    s.snimaTakes c 0x0305 0 (lenIs 8) q t drop → sessQueryTurn c (bodyOf c q.msg) none t = (turn, u) →
    ∀ z : State, z = u.endTurn c q true drop turn → s.granted z = true →
    exec (.sessQuery c) s = .next (noRewind s z)) ∧
  (∀ (s t u : State) (c : Fin 32) (q : Pending) (drop : Bool) (turn : Turn), Running s →
    s.snimaTakes c 0x0306 1 (lenIs 16) q t drop → sessMigrateOutTurn c (bodyOf c q.msg) none t = (turn, u) →
    ∀ z : State, z = u.endTurn c q true drop turn → s.granted z = true →
    exec (.sessMigrateOut c) s = .next (noRewind s z)) ∧
  (∀ (s t u : State) (c : Fin 32) (q : Pending) (drop : Bool) (turn : Turn), Running s →
    s.snimaTakes c 0x0307 1 (lenIs 16) q t drop → sessAdoptTurn c (bodyOf c q.msg) none t = (turn, u) →
    ∀ z : State, z = u.endTurn c q true drop turn → s.granted z = true →
    exec (.sessAdopt c) s = .next (noRewind s z)) ∧
  (∀ (s t u v : State) (e : ListedCount) (x : List Byte), Running s → s.snimaUp = true →
    s.crypto.listed.find? (fun e => !s.held 32 [.session e.sess]) = some e →
    t = { s with crypto := { s.crypto with listed := s.crypto.listed.erase e } } → e.sess < 2 ^ t.snima.layout.sessLog2 →
    t.mcRead (sessAddr e.sess) 128 = (some x, u) → ctxEpoch x = e.epoch →
    v = { u with crypto := { u.crypto with fills := u.crypto.fills.map (fun f =>
      if f.sess = e.sess ∧ f.epoch = e.epoch then f.withTaken e.count else f) } } →
    ∀ z : State, z = v.mcWrite (sessAddr e.sess) (ctxAddUsed x e.count) → s.granted z = true →
    exec .usedFold s = .next (noRewind s z))

/-- The commands to Snima about operators, attestation and firmware complete (R119, R122 to R128). -/
def Obligations.SnimaOperatorAndFirmwareCommandsComplete : Prop :=
  (∀ (s t u : State) (c : Fin 32) (q : Pending) (drop : Bool) (turn : Turn), Running s →
    s.snimaTakes c 0x0308 0 (lenIs 67) q t drop → operClaimTurn c (bodyOf c q.msg) none t = (turn, u) →
    exec (.operClaim c) s = .next (noRewind s (u.endTurn c q true drop turn))) ∧
  (∀ (s t u : State) (c : Fin 32) (q : Pending) (drop : Bool) (turn : Turn), Running s →
    s.snimaTakes c 0x0309 1 (lenIs 75) q t drop → operEnrollTurn c (bodyOf c q.msg) none t = (turn, u) →
    exec (.operEnroll c) s = .next (noRewind s (u.endTurn c q true drop turn))) ∧
  (∀ (s t u : State) (c : Fin 32) (q : Pending) (drop : Bool) (turn : Turn), Running s →
    s.snimaTakes c 0x030A 1 (lenIs 8) q t drop → operRevokeTurn c (bodyOf c q.msg) none t = (turn, u) →
    exec (.operRevoke c) s = .next (noRewind s (u.endTurn c q true drop turn))) ∧
  (∀ (s t u : State) (c : Fin 32) (q : Pending) (drop : Bool) (turn : Turn), Running s →
    s.snimaTakes c 0x030B 0 (lenIs 0) q t drop → operListTurn c (bodyOf c q.msg) none t = (turn, u) →
    exec (.operList c) s = .next (noRewind s (u.endTurn c q true drop turn))) ∧
  (∀ (s t u : State) (c : Fin 32) (q : Pending) (drop : Bool) (turn : Turn), Running s →
    s.snimaTakes c 0x0400 0 (lenIs 40) q t drop → attReportTurn c (bodyOf c q.msg) none t = (turn, u) →
    ∀ z : State, z = u.endTurn c q true drop turn → s.granted z = true →
    exec (.attReport c) s = .next (noRewind s z)) ∧
  (∀ (s t u : State) (c : Fin 32) (q : Pending) (drop : Bool) (turn : Turn), Running s →
    s.snimaTakes c 0x0401 0 (lenIs 8) q t drop → attCertTurn c (bodyOf c q.msg) none t = (turn, u) →
    ∀ z : State, z = u.endTurn c q true drop turn → s.granted z = true →
    exec (.attCert c) s = .next (noRewind s z)) ∧
  (∀ (s t u : State) (c : Fin 32) (flashOk : Bool) (q : Pending) (drop : Bool) (turn : Turn), Running s →
    s.snimaTakes c 0x0500 1 (lenIs 16) q t drop → fwStageTurn flashOk c (bodyOf c q.msg) none t = (turn, u) →
    ∀ z : State, z = u.endTurn c q true drop turn → s.granted z = true →
    exec (.fwStage c flashOk) s = .next (noRewind s z)) ∧
  (∀ (s t u : State) (c : Fin 32) (q : Pending) (drop : Bool) (turn : Turn), Running s →
    s.snimaTakes c 0x0501 1 (lenIs 8) q t drop → fwActivateTurn c (bodyOf c q.msg) none t = (turn, u) →
    exec (.fwActivate c) s = .next (noRewind s (u.endTurn c q true drop turn))) ∧
  (∀ (s t u : State) (c : Fin 32) (q : Pending) (drop : Bool) (turn : Turn), Running s →
    s.snimaTakes c 0x0502 1 (lenIs 8) q t drop → fwCommitTurn c (bodyOf c q.msg) none t = (turn, u) →
    exec (.fwCommit c) s = .next (noRewind s (u.endTurn c q true drop turn))) ∧
  (∀ (s t u : State) (c : Fin 32) (q : Pending) (drop : Bool) (turn : Turn), Running s →
    s.snimaTakes c 0x0503 1 (lenIs 8) q t drop → fwRollbackTurn c (bodyOf c q.msg) none t = (turn, u) →
    exec (.fwRollback c) s = .next (noRewind s (u.endTurn c q true drop turn))) ∧
  (∀ (s t u : State) (c : Fin 32) (q : Pending) (drop : Bool) (turn : Turn), Running s →
    s.snimaTakes c 0x0504 0 (lenIs 0) q t drop → fwStatusTurn c (bodyOf c q.msg) none t = (turn, u) →
    exec (.fwStatus c) s = .next (noRewind s (u.endTurn c q true drop turn)))

/-- The commands to Snima about the fleet, the Central Store's segments, self-tests, calibration and tamper complete (R102, R103,
R354 to R361, R401, R407), and so do the ends of the self-tests. -/
def Obligations.SnimaFleetAndStoreCommandsComplete : Prop :=
  (∀ (s t u : State) (c : Fin 32) (q : Pending) (drop : Bool) (turn : Turn), Running s →
    s.snimaTakes c 0x0600 0 (lenIs 0) q t drop → fleetStatusTurn c (bodyOf c q.msg) none t = (turn, u) →
    exec (.fleetStatus c) s = .next (noRewind s (u.endTurn c q true drop turn))) ∧
  (∀ (s t u : State) (c : Fin 32) (q : Pending) (drop : Bool) (turn : Turn), Running s →
    s.snimaTakes c 0x0601 1 (lenIs 8) q t drop → fleetCreateTurn c (bodyOf c q.msg) none t = (turn, u) →
    exec (.fleetCreate c) s = .next (noRewind s (u.endTurn c q true drop turn))) ∧
  (∀ (s t u : State) (c : Fin 32) (q : Pending) (drop : Bool) (turn : Turn), Running s →
    s.snimaTakes c 0x0602 1 (lenIs 72) q t drop → fleetAdmitTurn c (bodyOf c q.msg) none t = (turn, u) →
    exec (.fleetAdmit c) s = .next (noRewind s (u.endTurn c q true drop turn))) ∧
  (∀ (s t u : State) (c : Fin 32) (q : Pending) (drop : Bool) (turn : Turn), Running s →
    s.snimaTakes c 0x0603 1 (lenIs 72) q t drop → fleetJoinTurn c (bodyOf c q.msg) none t = (turn, u) →
    exec (.fleetJoin c) s = .next (noRewind s (u.endTurn c q true drop turn))) ∧
  (∀ (s t u : State) (c : Fin 32) (q : Pending) (drop : Bool) (turn : Turn), Running s →
    s.snimaTakes c 0x0604 1 (lenIs 0) q t drop → fleetLeaveTurn c (bodyOf c q.msg) none t = (turn, u) →
    exec (.fleetLeave c) s = .next (noRewind s (u.endTurn c q true drop turn))) ∧
  (∀ (s t u : State) (c : Fin 32) (q : Pending) (drop : Bool) (turn : Turn), Running s →
    s.snimaTakes c 0x0605 1 (lenIs 16) q t drop → timeSetTurn c (bodyOf c q.msg) none t = (turn, u) →
    exec (.timeSet c) s = .next (noRewind s (u.endTurn c q true drop turn))) ∧
  (∀ (s t u : State) (c : Fin 32) (q : Pending) (drop : Bool) (turn : Turn), Running s →
    s.snimaTakes c 0x0606 0 relayLen q t drop → mbxRelayTurn c (bodyOf c q.msg) none t = (turn, u) →
    exec (.mbxRelay c) s = .next (noRewind s (u.endTurn c q true drop turn))) ∧
  (∀ (s t u : State) (c : Fin 32) (q : Pending) (drop : Bool) (turn : Turn), Running s →
    s.snimaTakes c 0x0607 0 (lenIs 48) q t drop → fleetAttestTurn c (bodyOf c q.msg) none t = (turn, u) →
    exec (.fleetAttest c) s = .next (noRewind s (u.endTurn c q true drop turn))) ∧
  (∀ (s t u : State) (c : Fin 32) (q : Pending) (drop : Bool) (turn : Turn), Running s →
    s.snimaTakes c 0x0608 1 (lenIs 24) q t drop → recSendTurn c (bodyOf c q.msg) none t = (turn, u) →
    ∀ z : State, z = u.endTurn c q true drop turn → s.granted z = true →
    exec (.recSend c) s = .next (noRewind s z)) ∧
  (∀ (s t u : State) (c : Fin 32) (q : Pending) (drop : Bool) (turn : Turn), Running s →
    s.snimaTakes c 0x0700 1 (lenIs 8) q t drop → segReleaseTurn c (bodyOf c q.msg) none t = (turn, u) →
    exec (.segRelease c) s = .next (noRewind s (u.endTurn c q true drop turn))) ∧
  (∀ (s t u : State) (c : Fin 32) (q : Pending) (drop : Bool) (turn : Turn), Running s →
    s.snimaTakes c 0x0701 1 (lenIs 8) q t drop → segReturnTurn c (bodyOf c q.msg) none t = (turn, u) →
    exec (.segReturn c) s = .next (noRewind s (u.endTurn c q true drop turn))) ∧
  (∀ (s t u : State) (c : Fin 32) (ans : KatAnswer) (q : Pending) (drop : Bool) (turn : Turn), Running s →
    s.snimaTakes c 0x0703 1 (lenIs 8) q t drop → cryptoKatTurn ans c (bodyOf c q.msg) none t = (turn, u) →
    ∀ z : State, z = (u.endTurn c q true drop turn).follows → s.granted z = true →
    exec (.cryptoKat c ans) s = .next (noRewind s z)) ∧
  (∀ (s t u : State) (c : Fin 32) (q : Pending) (drop : Bool) (turn : Turn), Running s →
    s.snimaTakes c 0x0704 0 (lenIs 0) q t drop → calStatusTurn c (bodyOf c q.msg) none t = (turn, u) →
    exec (.calStatus c) s = .next (noRewind s (u.endTurn c q true drop turn))) ∧
  (∀ (s t u : State) (c : Fin 32) (q : Pending) (drop : Bool) (turn : Turn), Running s →
    s.snimaTakes c 0x0705 1 (lenIs 8) q t drop → tampArmTurn c (bodyOf c q.msg) none t = (turn, u) →
    exec (.tampArm c) s = .next (noRewind s (u.endTurn c q true drop turn))) ∧
  (∀ (s t u : State) (c : Fin 32) (q : Pending) (drop : Bool) (turn : Turn), Running s →
    s.snimaTakes c 0x0702 1 (lenIs 8) q t drop →
    storeBistTurn .started c (bodyOf c q.msg) none t = (turn, u) →
    exec (.storeBist c .started) s = .next (noRewind s (u.endTurn c q true drop turn))) ∧
  (∀ (s : State) (c : Fin 32) (pass : Bool) (ce fp : BitVec 32) (q : Pending), Running s → s.snimaUp = true →
    (s.box c).busy = some q → msgCmd q.msg = 0x0702 → (s.box c).respWait = none →
    exec (.storeBist c (.done pass ce fp)) s = .next (noRewind s
      ((s.bistEnds (bytesAt (bodyOf c q.msg) 0 8)).endTurn c q true (lastSeq c q.msg)
        (doneOk (natLe 4 (b2n pass) ++ natLe 4 ce.toNat ++ natLe 4 fp.toNat ++ natLe 4 0))))) ∧
  (∀ (s p : State) (now n : Nat), p = s.pass now → Running s → p.snimaUp = true →
    p.snima.kats.find? (fun k => k.2.2 = none) = none →
    ((List.range 45).map (fun i => (p.snima.nextBgKat + i) % 45)).find? (fun i => !p.unitOut (bgUnit i).1 (bgUnit i).2) = some n →
    p.snima.kats.any (fun k => k.1 = (bgUnit n).1) = false → p.bgKatDue = true →
    ∀ z : State, z = State.follows { p with snima := { p.snima with
        kats := p.snima.kats ++ [((bgUnit n).1, (bgUnit n).2, none)], nextBgKat := (n + 1) % 45, lastBgKat := some p.clock } } →
      p.granted z = true →
    exec (.backgroundKat .started now) s = .next (noRewind s z)) ∧
  (∀ (s p : State) (now : Nat) (pass : Bool) (k : Nat × Nat × Option Nat), p = s.pass now → Running s → p.snimaUp = true →
    p.snima.kats.find? (fun k => k.2.2 = none) = some k → (p.unitUser k.1 k.2.1).isSome = false →
    ∀ z : State, z = (p.katEnds k.1 k.2.1 pass).follows → p.granted z = true →
    exec (.backgroundKat (.done pass) now) s = .next (noRewind s z))

/-- A step is the command at the front of the queue, run on the state with the queue's rest, whatever command it is. -/
def Obligations.StepRunsTheFrontCommand : Prop :=
  ∀ (c : Instr) (rest : List Instr) (s : State),
    (s.pending = c :: rest → step s = exec c { s with pending := rest }) ∧
    step { s with pending := c :: s.pending } = exec c s

/-- Every step of every state answers a next state, in which exactly the command at the front of the queue is gone: no command ever
stops the part, and none puts a command into the queue or takes another out of it. On an empty queue the block idles, which is the
model's choice (log entry 2): the spec gives the part's clock no row of its own. -/
def Obligations.EveryStepTakesOneCommand : Prop :=
  (∀ s : State, ∃ t, step s = .next t ∧ t.pending = s.pending.tail) ∧ (∀ s : State, s.pending = [] → step s = .next s)

/-- Time never goes back (R29): a step from a state whose Time is `T` or later, and in whose queue stands no command that may set
Time back (the exchange that carries a join's step, R353; the rails' rise without VAON and VAON's return, R34), leads to such a
state. -/
def Obligations.TimeNeverGoesBack : Prop :=
  ∀ (T : Nat) (s t : State), TimeFrom T s → step s = .next t → TimeFrom T t

/-- Right after reset Time is 0 and no command waits, no warm reset is due, the FIFOs keep their bounds and the store's memory its
canonical form, so that `TimeNeverGoesBack`, `MemoryAndFifosKeepTheirForm` and `NoWarmResetIsLeftDue` hold of every run that starts
there. That Time is 0 and the queue empty is the model's choice (log entry 13). -/
def Obligations.InvariantsHoldAtReset : Prop :=
  TimeFrom State.reset.time.now State.reset ∧ State.reset.time.now = 0 ∧ State.reset.errFifo.length ≤ 64 ∧
    State.reset.log.fifo.length ≤ 512 ∧ Memory.wf State.reset.store.mem = true ∧ State.reset.power.warmDue = false

/-- What every step keeps: the error FIFO holds at most 64 records and the drain FIFO at most 512 (R42, R329), and the Central
Store's memory stands in its canonical form, addresses rising and nothing listed that an unlisted address reads as: 0 (R282). -/
def Obligations.MemoryAndFifosKeepTheirForm : Prop :=
  ∀ s t : State, s.errFifo.length ≤ 64 → s.log.fifo.length ≤ 512 → Memory.wf s.store.mem = true → step s = .next t →
    t.errFifo.length ≤ 64 ∧ t.log.fifo.length ≤ 512 ∧ Memory.wf t.store.mem = true

/-- No step leaves a warm reset due (R387): one that a mover's or a channel processor's write of GCTL_RST.WARM asks for has been
carried out when the command that wrote it ends. -/
def Obligations.NoWarmResetIsLeftDue : Prop :=
  ∀ s t : State, s.power.warmDue = false → step s = .next t → t.power.warmDue = false

/-- In cold reset nothing answers but power, the JTAG port, the sideband, the tamper sensors and the PERST_N inputs (R387, R396):
every other command leaves the whole state as it is. -/
def Obligations.ColdResetHoldsEveryCommand : Prop :=
  ∀ (c : Instr) (s : State), s.power.coldReset = true → actsInColdReset c = false → exec c s = .next s

/-- In Lockdown nothing new begins on queues, channels, movers and crypto units (R308, R339 step 2): the rows that `heldInLockdown`
names (fetches, entries, dispatches, commands, movers' work, drives' replies, crypto units and the key cache's own work) leave
everything as it was, but that Time passes and TIME_UNC grows with it, and that the end of a command prunes idle vectors and sends
a queued frame. That the answers of bursts issued before Lockdown are among these rows rests on log entry 32: the model completes
those bursts at once when Lockdown is reached, where R339 step 4 lets them complete before. -/
def Obligations.LockdownHoldsQueuesChannelsAndMovers : Prop :=
  ∀ (c : Instr) (s : State), Running s → s.locked = true → heldInLockdown c = true → ∃ t, exec c s = .next t ∧
    (t.pending = s.pending ∧ t.bus = s.bus ∧ t.latent = s.latent ∧ t.log = s.log ∧ t.errFifo = s.errFifo ∧ t.mbx = s.mbx ∧
      t.snima = s.snima ∧ t.drives = s.drives ∧ t.flash = s.flash ∧ t.vault = s.vault) ∧
    (t.crypto = s.crypto ∧ t.store = s.store ∧ t.arb = s.arb ∧ t.events = s.events ∧ t.strikes = s.strikes ∧
      t.irc = { s.irc with idled := t.irc.idled } ∧ t.ports = s.ports ∧ t.links = s.links ∧ t.stale = s.stale ∧ t.ext = s.ext) ∧
    (t.fenuz = { s.fenuz with tx := t.fenuz.tx, txWait := t.fenuz.txWait } ∧ t.power = { s.power with warmDue := false } ∧
      t.ana = s.ana ∧ t.side = s.side ∧ t.fetch = s.fetch ∧ t.sqs = s.sqs ∧ t.cqs = s.cqs ∧ t.movers = s.movers ∧
      t.moverWait = s.moverWait ∧ t.chans = s.chans ∧ t.acting = s.acting) ∧
    (∀ k i j, Reg.offset ⟨k, i, j⟩ ≠ Reg.offset ⟨.timeUnc, 0, 0⟩ → t.rg k i j = s.rg k i j)

/-- A write in Lockdown of a register that has only RW fields is stored, and no block acts on it (R342): the register shows the
bits written, and the value that acts stays. The registers named are those whose writes the part never ignores and whose RW fields
are shown as they stand. That no warm reset is due before the write is what every step keeps (`NoWarmResetIsLeftDue`). -/
def Obligations.LockdownStoresRegisterWrites : Prop :=
  ∀ (s : State) (m : BitVec 8) (r : Reg) (acc : Acc) (data : BitVec 64), Running s → s.locked = true → s.power.warmDue = false →
    r.kind ∈ [.timeCtl, .timeHold, .timePps, .logBase, .logCnt, .logRd, .logTmo, .logEn, .cstFwin, .cstFthr, .cstScrub,
      .arbPrioSh] →
    regAt? r.offset = some r →
    ∃ t, exec (.registerWrite m r.offset acc data) s = .next t ∧
      t.view r = ((s.view r &&& (2 ^ 64 - 1 - (r.kind.info.rw &&& accMask acc))) ||| (data.toNat &&&
        (r.kind.info.rw &&& accMask acc))) ∧
      (∀ k i j, t.rg k i j = s.rg k i j) ∧ t.time = s.time ∧ t.log = s.log ∧ t.store = s.store ∧ t.arb = s.arb

/-- The Stamps of one NODE and DOMAIN rise (R24, R30): a Stamp carries the DOMAIN, the part's NODE and the DOMAIN's SEQ, which then
counts modulo 2^22; its TIME is the least that is neither before Time, nor before the least TIME that the cause allows, nor at or
before the Stamp before it of that NODE and DOMAIN; other DOMAINs are left alone; and the next Stamp of the DOMAIN is strictly
later and carries the next SEQ. What is kept for one NODE is not touched by Stamps of another. Cold reset sets every SEQ to 0. -/
def Obligations.StampsOfADomainRise : Prop :=
  (∀ (s t u : State) (d after after' : Nat) (x y : Stamp), s.stamp d after = (x, t) → t.stamp d after' = (y, u) →
    x.domain = d ∧ x.node = s.time.stampNode ∧ x.seq = tabGet 0 s.time.seqs d ∧
    (s.time.now ≤ x.time ∧ after ≤ x.time ∧ tabGet 0 s.time.lastTime (s.stampKey d) ≤ x.time) ∧
    (∀ n, s.time.now ≤ n → after ≤ n → tabGet 0 s.time.lastTime (s.stampKey d) ≤ n → x.time ≤ n) ∧
    (tabGet 0 t.time.seqs d = (x.seq + 1) % 2 ^ 22 ∧ tabGet 0 t.time.lastTime (t.stampKey d) = x.time + 1) ∧
    (∀ e, e ≠ d → tabGet 0 t.time.seqs e = tabGet 0 s.time.seqs e ∧
      tabGet 0 t.time.lastTime (t.stampKey e) = tabGet 0 s.time.lastTime (s.stampKey e)) ∧
    (∀ k, k ≠ s.stampKey d → tabGet 0 t.time.lastTime k = tabGet 0 s.time.lastTime k) ∧
    (x.time < y.time ∧ y.seq = (x.seq + 1) % 2 ^ 22 ∧ y.node = x.node)) ∧
  (∀ (s : State) (last rail off d : Nat), tabGet 0 (s.coldHeld last rail off).time.seqs d = 0)

/-- A Stamp's two words hold TIME, NODE, DOMAIN and SEQ at the places of R22, and no two Stamps whose fields fit share them. Stamps
are ordered by TIME, then NODE, then DOMAIN, then SEQ, and this is the order of their 128 bits: of the high words first, then of
the low words (R25). The worked example is the Stamp of mover 2 of the part with NODE 0xC35. A Stamp Log record is 32 bytes (R38):
the Stamp's low word, its high word, the word with KIND, SUB, UNIT, zeros and ARG0, and ARG1. -/
def Obligations.StampsAndRecordsLieInTheirWords : Prop :=
  (∀ x : Stamp, x.fits → leNat (x.bytes.take 8) = x.lo ∧ leNat (x.bytes.drop 8) = x.hi ∧ x.bytes.length = 16 ∧
    fieldOf 63 48 x.lo + x.hi * 2 ^ 16 = x.time ∧ fieldOf 47 30 x.lo = x.node ∧ fieldOf 29 22 x.lo = x.domain ∧
    fieldOf 21 0 x.lo = x.seq) ∧
  (∀ x y : Stamp, x.fits → y.fits → x.bytes = y.bytes → x = y) ∧
  (∀ x y : Stamp, x.fits → y.fits →
    (x.before y = true ↔ x.time < y.time ∨ (x.time = y.time ∧ (x.node < y.node ∨ (x.node = y.node ∧
      (x.domain < y.domain ∨ (x.domain = y.domain ∧ x.seq < y.seq)))))) ∧
    (x.before y = true ↔ x.hi < y.hi ∨ (x.hi = y.hi ∧ x.lo < y.lo)) ∧
    (x = y ∨ x.before y = true ∨ y.before x = true)) ∧
  (∀ x : Stamp, x = ⟨0x006B2C4E10400000044C, 0xC35, 0x22, 0x1F40⟩ →
    x.lo = 0x044C030D48801F40 ∧ x.hi = 0x006B2C4E10400000 ∧ x.time % 2 ^ 64 = 0x2C4E10400000044C) ∧
  (∀ r : LogRecord, r.kind < 2 ^ 8 → r.sub < 2 ^ 8 → r.unit < 2 ^ 12 → r.arg0 < 2 ^ 32 → r.arg1 < 2 ^ 64 →
    r.bytes.length = 32 ∧ leNat (r.bytes.take 8) = r.stamp.lo ∧ leNat ((r.bytes.drop 8).take 8) = r.stamp.hi ∧
    (let w := leNat ((r.bytes.drop 16).take 8)
     fieldOf 7 0 w = r.kind ∧ fieldOf 15 8 w = r.sub ∧ fieldOf 27 16 w = r.unit ∧ fieldOf 31 28 w = 0 ∧ fieldOf 63 32 w = r.arg0) ∧
    leNat ((r.bytes.drop 24).take 8) = r.arg1)

/-- Numbers in memory are little-endian (R4): the bytes of a number, least significant first, give it back, byte `i` is its bits
[8i+7:8i], and bytes are the bytes of the number that they give. -/
def Obligations.NumbersAreLittleEndian : Prop :=
  (∀ n v : Nat, (natLe n v).length = n ∧ leNat (natLe n v) = v % 2 ^ (8 * n)) ∧
  (∀ n v i : Nat, i < n → (natLe n v)[i]? = some (BitVec.ofNat 8 (v / 2 ^ (8 * i)))) ∧
  (∀ b : List Byte, natLe b.length (leNat b) = b ∧ leNat b < 2 ^ (8 * b.length))

/-- Time is read through one snapshot for each master (R36): a read of TIME_NOW_LO that covers bits [31:0] captures Time into the
snapshot of the master that reads; a read of its bits [63:32] and a read of TIME_NOW_HI return that master's snapshot; no read
disturbs another master's snapshot, and none changes anything else. -/
def Obligations.TimeSnapshots : Prop :=
  (∀ (s : State) (m : Nat) (acc : Acc), acc ≠ .hi → ∃ l,
    s.readReg m ⟨.timeNowLo, 0, 0⟩ acc = (s.time.now % 2 ^ 64, { s with time := { s.time with snaps := l } }) ∧
    tabGet 0 l m = s.time.now ∧ ∀ n, n ≠ m → tabGet 0 l n = tabGet 0 s.time.snaps n) ∧
  (∀ (s : State) (m : Nat), ∃ l,
    s.readReg m ⟨.timeNowLo, 0, 0⟩ .hi = (tabGet 0 s.time.snaps m % 2 ^ 64, { s with time := { s.time with snaps := l } }) ∧
    ∀ n, tabGet 0 l n = tabGet 0 s.time.snaps n) ∧
  (∀ (s : State) (m : Nat) (acc : Acc), s.readReg m ⟨.timeNowHi, 0, 0⟩ acc = (tabGet 0 s.time.snaps m / 2 ^ 64 % 2 ^ 16, s)) ∧
  (∀ (s : State) (m : BitVec 8) (acc : Acc), Running s → ∃ t, exec (.timeNowLoRead m acc) s = .next t ∧
    t.bus = ⟨accBytes acc (s.readReg m.toNat ⟨.timeNowLo, 0, 0⟩ acc).1, false, none⟩ ∧
    t.time = (s.readReg m.toNat ⟨.timeNowLo, 0, 0⟩ acc).2.time ∧ t.regs = s.regs ∧ t.mbx = s.mbx ∧ t.chans = s.chans)

/-- A lock register (R58), which holds BUSY in bit 8 and OWNER in bits [7:0]: a read that covers bits [31:0] takes a free lock,
answers 0, and leaves BUSY and the reader's master ID there; of a held lock it answers BUSY and the holder and changes nothing; a
read of bits [63:32] alone answers 0 and never takes the lock; a write stores BUSY and OWNER as written, whoever writes, so that 0
releases the lock. -/
def Obligations.LocksAreTakenByReading : Prop :=
  ∀ (s : State) (m : BitVec 8) (n : Fin 256), Running s →
    (∀ acc : Acc, acc ≠ .hi → s.bit .lckSem 8 n = false → ∃ t, exec (.lckSemRead m n acc) s = .next t ∧
      t.bus = ⟨accBytes acc 0, false, none⟩ ∧ t.rg .lckSem n = 0x100 + m.toNat ∧
      ∀ k i j, Reg.offset ⟨k, i, j⟩ ≠ Reg.offset ⟨.lckSem, n, 0⟩ → t.rg k i j = s.rg k i j) ∧
    (∀ acc : Acc, acc ≠ .hi → s.bit .lckSem 8 n = true →
      exec (.lckSemRead m n acc) s = .next (noRewind s
        { s with bus := ⟨accBytes acc (0x100 + s.fld .lckSem 7 0 n), false, none⟩ })) ∧
    exec (.lckSemRead m n .hi) s = .next (noRewind s { s with bus := ⟨natLe 4 0, false, none⟩ }) ∧
    (∀ (acc : Acc) (data : BitVec 64), acc ≠ .hi → ∃ t, exec (.lckSemWrite m n acc data) s = .next t ∧
      t.fld .lckSem 8 0 n = data.toNat % 2 ^ 9 ∧
      ∀ k i j, Reg.offset ⟨k, i, j⟩ ≠ Reg.offset ⟨.lckSem, n, 0⟩ → t.rg k i j = s.rg k i j) ∧
    (∀ data : BitVec 64, exec (.lckSemWrite m n .hi data) s = .next (noRewind s s))

/-- A read of MBX_IN_POST or MBX_OUT_POST (R67): the conditions are checked in the order of R67's table and the first that fails
decides RES; the message is appended only where all hold; a refused post leaves the FIFO as it was; the staging buffer keeps its
contents; a read of bits [63:32] alone answers 0 and posts nothing. -/
def Obligations.PostChecksInOrder : Prop :=
  ∀ (s : State) (m : BitVec 8) (c : Fin 32) (out : Bool) (q : List Byte) (l : List Msg), Running s → q = s.staged c out →
    l = (s.box c).fifo out →
    (∀ acc : Acc, acc ≠ .hi → ∃ (t : State) (res : Nat),
      exec (if out then .mbxOutPost m c acc else .mbxInPost m c acc) s = .next t ∧
      t.bus = ⟨accBytes acc (res + ((t.box c).fifo out).length * 2 ^ 16), false, none⟩ ∧
      (res = 1 ↔ 64 ≤ l.length) ∧
      (res = 2 ↔ l.length < 64 ∧ ¬ (msgLen q ≤ 240 ∧ (16 ≤ c.val → 32 ≤ msgLen q))) ∧
      (res = 3 ↔ l.length < 64 ∧ (msgLen q ≤ 240 ∧ (16 ≤ c.val → 32 ≤ msgLen q)) ∧ msgChn q ≠ c) ∧
      (res = 4 ↔ l.length < 64 ∧ (msgLen q ≤ 240 ∧ (16 ≤ c.val → 32 ≤ msgLen q)) ∧ msgChn q = c ∧ msgRsvd q ≠ 0) ∧
      (res = 5 ↔ l.length < 64 ∧ (msgLen q ≤ 240 ∧ (16 ≤ c.val → 32 ≤ msgLen q)) ∧ msgChn q = c ∧ msgRsvd q = 0 ∧
        msgEpoch q ≠ s.epoch c out) ∧
      (res = 0 ↔ l.length < 64 ∧ (msgLen q ≤ 240 ∧ (16 ≤ c.val → 32 ≤ msgLen q)) ∧ msgChn q = c ∧ msgRsvd q = 0 ∧
        msgEpoch q = s.epoch c out) ∧
      res ≤ 5 ∧
      (res = 0 → ((t.box c).fifo out).map (·.bytes) = l.map (·.bytes) ++ [q.take (16 + msgLen q)] ∧
        (t.box c).fifo (!out) = (s.box c).fifo (!out)) ∧
      (res ≠ 0 → t.mbx = s.mbx ∧ t.log = s.log ∧ t.regs = s.regs) ∧
      t.staged c out = q) ∧
    exec (if out then .mbxOutPost m c .hi else .mbxInPost m c .hi) s = .next (noRewind s { s with bus := ⟨natLe 4 0, false, none⟩ })

/-- An epoch advances by 1 modulo 2^32 (R68); the epoch of the other FIFO, both FIFOs and every other register stay. The shared
keys of the channel go (R88, R118). -/
def Obligations.EpochsAdvance : Prop :=
  ∀ (s : State) (m : BitVec 8) (c : Fin 32) (out : Bool), Running s → ∃ t,
    exec (if out then .bumpOut m c else .bumpIn m c) s = .next t ∧
    t.epoch c out = (s.epoch c out + 1) % 2 ^ 32 ∧ t.epoch c (!out) = s.epoch c (!out) ∧
    (t.box c).inFifo = (s.box c).inFifo ∧ (t.box c).outFifo = (s.box c).outFifo ∧ (t.box c).key = none ∧
    (∀ d, d ≠ c.val → t.box d = s.box d) ∧
    (∀ k i j, Reg.offset ⟨k, i, j⟩ ≠ Reg.offset ⟨.mbxEpoch, c, 0⟩ → Reg.offset ⟨k, i, j⟩ ≠ Reg.offset ⟨.mbxCtl, c, 0⟩ →
      t.rg k i j = s.rg k i j) ∧ t.log = s.log

/-- A pop removes the oldest message and no other, and nothing where the FIFO is empty; the HEAD window shows the oldest message,
with zeros behind it, and zeros alone where there is none; reading it removes nothing (R70). -/
def Obligations.PopTakesTheOldest : Prop :=
  ∀ (s : State) (m : BitVec 8) (c : Fin 32) (out : Bool), Running s →
    ((s.box c).fifo out = [] → exec (if out then .mbxOutPop m c else .mbxInPop m c) s = .next (noRewind s s) ∧
      ∀ i, s.viewHead c out i = 0) ∧
    (∀ (h : Msg) (r : List Msg), (s.box c).fifo out = h :: r →
      (∃ t, exec (if out then .mbxOutPop m c else .mbxInPop m c) s = .next t ∧
        (t.box c).fifo out = r ∧ (t.box c).fifo (!out) = (s.box c).fifo (!out) ∧ ∀ d, d ≠ c.val → t.box d = s.box d) ∧
      (h.bytes.length ≤ 256 →
        (List.range 32).flatMap (fun i => natLe 8 (s.viewHead c out i)) = h.bytes ++ List.replicate (256 - h.bytes.length) 0)) ∧
    (∀ (j : Nat) (acc : Acc), ∃ v, s.readReg m.toNat ⟨if out then .mbxOutHead else .mbxInHead, c, j⟩ acc = (v, s))

/-- A flush discards every message of one FIFO at once and shows how many (R72), in seven bits; the other FIFO, the epochs and the
staging buffers stay, and no record is made. -/
def Obligations.FlushEmptiesOneFifo : Prop :=
  ∀ (s : State) (m : BitVec 8) (c : Fin 32) (out : Bool), Running s → ∃ t,
    exec (if out then .flushOut m c else .flushIn m c) s = .next t ∧
    (t.box c).fifo out = [] ∧ (t.box c).fifo (!out) = (s.box c).fifo (!out) ∧
    (if out then t.fld .mbxStat 38 32 c else t.fld .mbxStat 22 16 c) = ((s.box c).fifo out).length % 128 ∧
    (∀ b, t.epoch c b = s.epoch c b ∧ t.staged c b = s.staged c b) ∧ t.log = s.log ∧ t.errFifo = s.errFifo ∧ t.time = s.time ∧
    ∀ d, d ≠ c.val → t.box d = s.box d
/-- Zone 0 holds three ranges and nothing else (R47): 1 GiB of Central Store from 0, 64 MiB of registers from 0x10_0000_0000, and
the 16 MiB Chime window from 0x10_0400_0000, in which page q of 4 KiB starts at q x 0x1000. -/
def Obligations.Zone0Map : Prop :=
  (∀ a, placeOf a = .store ↔ a ≤ 0x3FFFFFFF) ∧
  (∀ a off, placeOf a = .regs off ↔ a = 0x1000000000 + off ∧ off < 64 * 2 ^ 20) ∧
  (∀ a off, placeOf a = .chime off ↔ a = 0x1004000000 + off ∧ off < 16 * 2 ^ 20) ∧
  (∀ a, placeOf a = .outside ↔ ¬ a ≤ 0x3FFFFFFF ∧ ¬ (0x1000000000 ≤ a ∧ a ≤ 0x1003FFFFFF) ∧ ¬ (0x1004000000 ≤ a ∧
    a ≤ 0x1004FFFFFF)) ∧
  (∀ q o p : Nat, ∀ cq, q < 4096 → o < 0x1000 → placeOf (0x1004000000 + q * 0x1000 + o) = .chime (q * 0x1000 + o) ∧
    (chimeAt? (q * 0x1000 + o) = some (p, cq) → p = q))

/-- The register map (R52, R53, R362): every register of the part lies at an aligned offset of the register space, the offset finds
that register and no other, and no two registers share an offset. -/
def Obligations.EveryRegisterIsFoundAtItsOffset : Prop :=
  (∀ r : Reg, r.valid = true → regAt? r.offset = some r ∧ r.offset % 8 = 0 ∧ r.offset < 64 * 2 ^ 20) ∧
  (∀ r q : Reg, r.valid = true → q.valid = true → r.offset = q.offset → r = q) ∧
  (∀ (off : Nat) (r : Reg), regAt? off = some r → r.valid = true ∧ r.offset = off)

/-- A write of a register that has only RW fields and acts through nothing else takes the bits that the access covers (R6, R55):
every other bit, every other register and everything else in the state stay, but for what the links' state does to a channel's
count of time and reads, and what the end of a command adds. That no warm reset is due before the write is what every step keeps
(`NoWarmResetIsLeftDue`). -/
def Obligations.PlainRegistersTakeTheBitsWritten : Prop :=
  ∀ (s : State) (m : BitVec 8) (r : Reg) (acc : Acc) (data : BitVec 64), Free s → s.power.warmDue = false →
    r.kind ∈ [.timeHold, .timePps, .logBase, .logCnt, .logRd, .logTmo, .logEn, .chnIcount, .cstFwin, .cstFthr, .cstScrub,
      .arbPrioSh,
      .arbTether] →
    regAt? r.offset = some r →
    ∃ t, exec (.registerWrite m r.offset acc data) s = .next t ∧
      (∀ b, b < 64 → (t.rg r.kind r.i r.j).testBit b = (if (r.kind.info.rw &&& accMask acc).testBit b then data.toNat.testBit b
        else (s.rg r.kind r.i r.j).testBit b)) ∧
      (∀ k i j, Reg.offset ⟨k, i, j⟩ ≠ r.offset → t.rg k i j = s.rg k i j) ∧
      t = noRewind s { s with regs := t.regs, chans := t.chans } ∧
      ∀ n, (t.chan n).phase = (s.chan n).phase ∧ (t.chan n).stage = (s.chan n).stage ∧ (t.chan n).chain = (s.chan n).chain

/-- What reset leaves (R388 and the Reset columns): the part is held in cold reset with no command waiting, every FIFO, queue,
memory and unit is empty, each register shows its Reset column where one is given, and 0 where none is (log entry 7). -/
def Obligations.ResetValuesOfRegisters : Prop :=
  (State.reset.pending = [] ∧ State.reset.power.coldReset = true ∧ State.reset.errFifo = [] ∧ State.reset.log.fifo = [] ∧
    State.reset.crypto.cache = [] ∧ State.reset.chans = [] ∧ State.reset.sqs = [] ∧ State.reset.cqs = [] ∧ State.reset.movers = [] ∧
    State.reset.mbx = [] ∧ State.reset.time.seqs = []) ∧
  (∀ a, memGet State.reset.store.mem a = 0) ∧ Memory.wf State.reset.store.mem = true ∧
  (∀ k i j, State.reset.rg k i j = Reg.reset ⟨k, i, j⟩ % 2 ^ 64) ∧
  (State.reset.rg .timeHold = 0x157A ∧ State.reset.rg .timePps = 10000 ∧ State.reset.rg .timeUnc = 2 ^ 64 - 1 ∧
    State.reset.rg .logBase = 0xA040000 ∧ State.reset.rg .logCnt = 21 ∧ State.reset.rg .logTmo = 10 ∧ State.reset.rg .logEn = 0xF3 ∧
    State.reset.rg .cstFwin = 1000000 ∧ State.reset.rg .cstFthr = 4 ∧ State.reset.rg .cstScrub = 86400) ∧
  (∀ c : Fin 32, State.reset.rg .mbxRto c = 100 ∧ State.reset.epoch c false = 1 ∧ State.reset.epoch c true = 1) ∧
  (∀ n : Fin 72, State.reset.rg .arbPrio n = prioReset n ∧ State.reset.rg .arbPrioSh n = prioReset n) ∧
  (∀ c : Fin 4096, State.reset.rg .chnIcount c = 2 ^ 24)

/-- The Central Store's memory (R238, R279 to R281): a write keeps its canonical form, a read leaves it and the remapping alone; a
byte written reads back, in an uncorrectable word too; and a byte of another place reads as before. -/
def Obligations.StoreWritesAndReads : Prop :=
  (∀ (s : State) (who : Nat) (w : List (Nat × Byte)), Memory.wf s.store.mem = true →
    Memory.wf (s.storeWrite who w).store.mem = true) ∧
  (∀ (s : State) (who a n : Nat), (s.storeRead who a n).2.2.store.mem = s.store.mem ∧
    (s.storeRead who a n).2.2.store.remap = s.store.remap ∧ (s.storeRead who a n).1.length = n) ∧
  (∀ (s : State) (who a i : Nat) (d : List Byte) (b : Byte), ((List.range d.length).map (fun j => s.phys (a + j))).Nodup →
    d[i]? = some b → (s.put who a d).storeByte (a + i) = b) ∧
  (∀ (s : State) (who b : Nat) (w : List (Nat × Byte)), (∀ e ∈ w, s.phys e.1 ≠ s.phys b) →
    (s.storeWrite who w).storeByte b = s.storeByte b)

/-- A host's or a drive's write of the Central Store stores to the bytes whose enables are set, from its address on, and to no
other byte (R48, R369): each of them reads back as written where its segment is not under self-test (R102), every other byte reads
as before, and no page's remapping changes. That no two addresses of the write share a place holds where no page is remapped twice;
that no warm reset is due before it is what every step keeps (`NoWarmResetIsLeftDue`). -/
def Obligations.InboundWriteStoresItsBytesAlone : Prop :=
  ∀ (s : State) (m : BitVec 8) (tg : MemTarget) (d : List Byte) (be : List Bool), Running s → mayReach m.toNat tg = true →
    placeOf (targetAddr tg) = .store → s.power.warmDue = false →
    s.granted (s.inWrite m.toNat (targetAddr tg) d be false (d.length + 1)).follows = true →
    ∃ t, exec (.inboundMemoryRequest m (.write tg d be false)) s = .next t ∧ t.store.remap = s.store.remap ∧
      (((List.range d.length).map (fun i => s.phys (targetAddr tg + i))).Nodup → ∀ (i : Nat) (x : Byte), d[i]? = some x →
        (be[i]?).getD true = true → placeOf (targetAddr tg + i) = .store → s.underTest (targetAddr tg + i) = false →
        t.storeByte (targetAddr tg + i) = x) ∧
      ∀ b, (∀ i, i < d.length → (be[i]?).getD true = true → s.phys (targetAddr tg + i) ≠ s.phys b) → t.storeByte b = s.storeByte b

/-- BRANCH's decision (R218): the branch is taken where the tested CODE equals VALUE under MASK, the other way round with SENSE.
The two examples are R218's own. -/
def Obligations.BranchDecision : Prop :=
  (∀ mask value code : Nat, mask < 2 ^ 8 → value < 2 ^ 8 →
    (branchTaken (mask + value * 2 ^ 8) code = true ↔ code &&& mask = value) ∧
    (branchTaken (mask + value * 2 ^ 8 + 2 ^ 16) code = true ↔ code &&& mask ≠ value)) ∧
  (∀ code, code < 2 ^ 8 → (branchTaken 0x100FF code = true ↔ code ≠ 0)) ∧
  (∀ code, code < 2 ^ 8 → (branchTaken 0x30F0 code = true ↔ code / 16 = 3)) ∧
  (∀ (s : State) (ch : Fin 4096), Free s → s.ready ch 0x21 = true →
    ∀ z : State, z =
    (s.endCmd ch 0 0 0 (if branchTaken (s.chan ch).head.cmd.param (s.chan ch).prevCode then some (s.chan ch).head.cmd.param2
      else none)).follows → s.granted z = true →
    exec (.branch ch) s = .next (noRewind s z))

/-- The error FIFO holds at most 64 records and the drain FIFO at most 512 (R42, R329): a record enters the error FIFO behind the
others or, where that is full, is counted in FLT_ERR_LOST and left out; a record that is logged always enters the drain FIFO,
behind every record that is not a later one of its NODE and DOMAIN, or waits; a record of a class that finds 496 entries is dropped
and counted. -/
def Obligations.FaultAndLogFifosAreBounded : Prop :=
  (∀ (s : State) (r : LogRecord), (s.errFifo.length < 64 → (s.errPush r).errFifo = s.errFifo ++ [r] ∧ (s.errPush r).regs = s.regs) ∧
    (64 ≤ s.errFifo.length → (s.errPush r).errFifo = s.errFifo ∧
      (s.errPush r).fld .fltErrLost 31 0 = min (2 ^ 32 - 1) (s.fld .fltErrLost 31 0 + 1))) ∧
  (∀ (s : State) (r : LogRecord), s.log.fifo.length ≤ 512 →
    (s.logAlways r).log.fifo.length ≤ 512 ∧ (s.logKept r).log.fifo.length ≤ 512 ∧ s.logEnter.log.fifo.length ≤ 512) ∧
  (∀ (s : State) (r : LogRecord), s.log.fifo.length < 512 → s.log.lostDue = 0 → s.log.waiting = [] →
    (s.logAlways r).log.fifo = logPlace r s.log.fifo ∧ (s.logAlways r).log.waiting = []) ∧
  (∀ (r : LogRecord) (l : List LogRecord), (logPlace r l).Perm (r :: l) ∧
    ((∀ x ∈ l, x.stamp.domain = r.stamp.domain → x.stamp.node = r.stamp.node → x.stamp.time ≤ r.stamp.time) →
      logPlace r l = l ++ [r])) ∧
  (∀ (s : State) (r : LogRecord), 512 ≤ s.log.fifo.length → (s.logAlways r).log.fifo = s.log.fifo ∧
    (s.logAlways r).log.waiting = s.log.waiting ++ [r]) ∧
  (∀ (s : State) (r : LogRecord), 496 ≤ s.log.fifo.length → s.log.lostDue = 0 →
    s.log.waiting.any (fun x => x.stamp.domain = r.stamp.domain) = false →
    (s.logKept r).log.fifo = s.log.fifo ∧ (s.logKept r).log.lostDue = 1 ∧
    (s.logKept r).fld .logLost 31 0 = min (2 ^ 32 - 1) (s.fld .logLost 31 0 + 1)) ∧
  (∀ (s : State) (dom sub unit arg0 arg1 after hop : Nat), s.errFifo.length ≤ 64 → s.log.fifo.length ≤ 512 →
    (s.fault dom sub unit arg0 arg1 after hop).errFifo.length ≤ 64 ∧
      (s.fault dom sub unit arg0 arg1 after hop).log.fifo.length ≤ 512)

/-- Lockdown that FORCE enters (R308, R338, R339): GCTL_LOCK shows entering, that Lockdown was entered, the cause and one more
entry; the LOCKDOWN record enters the error FIFO; every key of the key cache is gone, and of its entries those with a count are
left, as count-only entries; of every channel's buffers nothing is left but what a write already issued carries; and no source's
event is heard. A warm reset that has been requested and has not reached its step 5 lets Lockdown go again at once (R390). -/
def Obligations.LockdownEntryZeroises : Prop :=
  ∀ (s : State) (m : BitVec 8), Running s → s.locked = false → s.warmRuns = false → s.errFifo.length < 64 →
    ∃ (t : State) (x : Stamp), exec (.gctlLockForce m) s = .next t ∧ t.locked = true ∧ x.domain = m.toNat ∧ s.time.now ≤ x.time ∧
    t.errFifo = s.errFifo ++ [⟨x, 0x0B, 0x10, 2, m.toNat, 0⟩] ∧
    t.fld .gctlLock 1 0 = 1 ∧ t.bit .gctlLock 3 = true ∧ t.fld .gctlLock 11 8 = 2 ∧
    t.fld .gctlLock 47 32 = min (2 ^ 16 - 1) (s.fld .gctlLock 47 32 + 1) ∧
    t.rg .gctlLockInfo = m.toNat ∧ t.rg .gctlLockTime = x.time % 2 ^ 64 ∧
    (∀ e ∈ t.crypto.cache, e.key = [] ∧ e.keyed = false ∧ e.live = false ∧ e.count ≠ 0) ∧
    t.crypto.cache.map (fun e => (e.sess, e.epoch, e.count)) =
      (s.crypto.cache.filter (fun e => e.count ≠ 0)).map (fun e => (e.sess, e.epoch, e.count)) ∧
    t.crypto.listed = s.crypto.listed ∧ (∀ n, (t.chan n).phase = (s.chan n).phase ∧ (t.chan n).stream = { stream0 with
      carry := (s.chan n).stream.carry, result := if (s.chan n).cpWrites then (s.chan n).stream.result else [] }) ∧
    (∀ src time hop, (t.emit src time hop).events = t.events) ∧ (∀ l, t.ring l = t)

/-- A commit copies all 72 shadow priorities to the live values and nothing else (R291), and counts in ARB_STAT. -/
def Obligations.CommitCopiesEveryPriority : Prop :=
  ∀ (s : State) (m : BitVec 8), Free s → ∃ t, exec (.arbCommit m) s = .next t ∧
    (∀ n : Fin 72, t.rg .arbPrio n = s.rg .arbPrioSh n) ∧
    t.fld .arbStat 63 32 = (s.fld .arbStat 63 32 + 1) % 2 ^ 32 ∧
    (∀ k i j, (∀ n : Fin 72, Reg.offset ⟨k, i, j⟩ ≠ Reg.offset ⟨.arbPrio, n, 0⟩) →
      Reg.offset ⟨k, i, j⟩ ≠ Reg.offset ⟨.arbStat, 0, 0⟩ → t.rg k i j = s.rg k i j) ∧
    t = noRewind s { s with regs := t.regs }

/-- What cold reset keeps and what it loads while VAON is present (R388; R34, R75, R92, R94): the vault, the flash, Time and what
lies beyond the links stay; queues, channels, movers, mailboxes, key cache, write-back list, error FIFO, log and stamp counters are
as after reset; and GCTL_RST tells the last reset. -/
def Obligations.ColdResetKeepsWhatTheTableKeeps : Prop :=
  ∀ s : State, Running s → s.power.vaon = true → ∃ t, exec .sysRstAssert s = .next t ∧ t.power.coldReset = true ∧
    (t.vault = s.vault ∧ t.flash = s.flash ∧ t.ext = s.ext ∧ t.time.now = s.time.now ∧ t.pending = s.pending) ∧
    (t.mbx = [] ∧ t.sqs = [] ∧ t.cqs = [] ∧ t.chans = [] ∧ t.movers = [] ∧ t.drives = [] ∧ t.errFifo = [] ∧ t.latent = []) ∧
    (t.crypto.cache = [] ∧ t.crypto.listed = [] ∧ t.crypto.fills = [] ∧ t.log.fifo = [] ∧ t.time.seqs = [] ∧ t.events = []) ∧
    t.snima.layout = layout0 ∧ t.locked = false ∧ t.fld .gctlRst 11 8 = 2 ∧ t.rg .timeHold = 0x157A ∧
    (∀ c : Fin 32, t.epoch c false = 1 ∧ t.epoch c true = 1)

/-- Without VAON (R34, R386, R388, R396): where the rails rise after it was lost, where a cold reset comes, and where VAON returns,
Time restarts at 0, TIME_STAT.STATE shows FREE, and ALIGN is unbounded; the vault's words stay where AONLOSS was not armed when
VAON fell. -/
def Obligations.TimeRestartsWithoutVaon : Prop :=
  (∀ s : State, s.power.vaon = false → s.power.aonLoss = false → ∃ t, exec .vaonReturn s = .next t ∧
    t.time.now = 0 ∧ t.power.vaon = true ∧ t.timeState = 0 ∧ t.fld .timeUnc 63 32 = 0xFFFFFFFF ∧ t.vault = s.vault ∧
    t.store = s.store ∧ t.pending = s.pending) ∧
  (∀ (s : State) (off : Nat), s.power.vaon = false → s.power.state ≠ .run → s.power.coldReset = true →
    off ≠ 0 ∨ s.power.rstLow = true →
    ∃ t, exec (.railsUp off) s = .next t ∧ t.time.now = 0 ∧ t.timeState = 0 ∧ t.fld .timeUnc 63 32 = 0xFFFFFFFF ∧
      t.vault = s.vault ∧ t.pending = s.pending) ∧
  (∀ s : State, s.power.vaon = false → Running s → ∃ t, exec .sysRstAssert s = .next t ∧ t.time.now = 0 ∧ t.timeState = 0 ∧
    t.fld .timeUnc 63 32 = 0xFFFFFFFF ∧ t.vault = s.vault ∧ t.pending = s.pending)

/-- A tamper's erasure (R408, R409, R412), in a vault that has spare words left for what it writes (R414): the device's root key
and the fleet's are gone and the part has left its fleet; VLT_STAT shows TAMPERED and ERASED and counts; the tamper log takes the
event behind the others and keeps at most 256; generations, operator slots, the boot record, the arming word and the retired pages
survive. -/
def Obligations.TamperErasesTheRootKeys : Prop :=
  ∀ (s : State) (src arg time : Nat) (reported : Bool), s.vault.moved + 4 ≤ 513536 →
    ∃ t, t = s.tamperErase src arg time reported ∧ t.vault.drk = none ∧ t.vault.frk = none ∧ t.vault.member = false ∧ t.vault.tampered = true ∧ t.vault.erased = true ∧
    t.vault.tampCnt = min 255 (s.vault.tampCnt + 1) ∧ t.vault.lastSrc = src ∧ t.time.stampNode = 0 ∧
    (s.vault.tamperLog.length ≤ 256 → t.vault.tamperLog.length = min 256 (s.vault.tamperLog.length + 1) ∧
      t.vault.tamperLog.getLast? = some ⟨time, src, arg, min 255 (s.vault.tampCnt + 1), reported⟩) ∧
    t.vault.gens = s.vault.gens ∧ t.vault.slots = s.vault.slots ∧ t.vault.bootRecord = s.vault.bootRecord ∧
    t.vault.armWord = s.vault.armWord ∧ t.vault.retired = s.vault.retired ∧ t.store = s.store ∧ t.time.now = s.time.now

/-- Fenuz frames (R346): the header of a frame's client data gives back every field that it was built from, the payload follows it,
and the client data are 24 bytes and the payload. -/
def Obligations.FenuzFramesKeepTheirFields : Prop :=
  ∀ (kind sub ttl xid src dst fleet : Nat) (body : List Byte), kind < 2 ^ 4 → sub < 2 ^ 8 → ttl < 2 ^ 8 → xid < 2 ^ 16 →
    src < 2 ^ 18 →
    dst < 2 ^ 18 → fleet < 2 ^ 64 → body.length ≤ 1476 →
    headerOf (frameBytes kind sub ttl xid src dst fleet body) = ⟨1, kind, sub, ttl, body.length, xid, src, dst, fleet⟩ ∧
    frameBody (frameBytes kind sub ttl xid src dst fleet body) = body ∧
    (frameBytes kind sub ttl xid src dst fleet body).length = 24 + body.length

/-- A channel command's 64 bytes (R160): the model reads every field from the place that R160's table gives it, and no field's bits
reach another. -/
def Obligations.CommandWordsKeepTheirFields : Prop :=
  ∀ (c : Cmd) (wbTime end_ : Nat), c.opc < 2 ^ 8 → c.flg < 2 ^ 8 → c.mod < 2 ^ 8 → c.zs < 2 ^ 4 → c.zd < 2 ^ 4 → c.count < 2 ^ 32 →
    c.src < 2 ^ 64 → c.dst < 2 ^ 64 → c.sess < 2 ^ 20 → c.sessRsv < 2 ^ 12 → c.aux < 2 ^ 32 → c.param < 2 ^ 64 → c.param2 < 2 ^ 64 →
    parseCmd (natLe 4 (c.opc + c.flg * 2 ^ 8 + c.mod * 2 ^ 16 + c.zs * 2 ^ 24 + c.zd * 2 ^ 28) ++ natLe 4 c.count ++ natLe 8 c.src
      ++ natLe 8 c.dst ++ natLe 4 (c.sess + c.sessRsv * 2 ^ 20) ++ natLe 4 c.aux ++ natLe 8 c.param ++ natLe 8 c.param2
      ++ natLe 8 wbTime ++ natLe 8 (b2n c.own + 2 * end_)) = c

/-- A patterned side visits its elements as R242's loops do: byte `o` of the element (i2, i1, i0) is the stream's byte ((i2 x N1 +
i1) x N0 + i0) x ELEM + o, and lies at the base, plus the steps of the two outer loops, plus the inner step or the shifted word of
the offset table, plus `o`, modulo 2^64. -/
def Obligations.PatternsVisitTheirElements : Prop :=
  ∀ (p : Pattern) (base i2 i1 i0 o : Nat) (tbl : Nat → Nat), i1 < p.n1 → i0 < p.n0 → o < p.elem →
    (p.idx = false → ((p.addr base (((i2 * p.n1 + i1) * p.n0 + i0) * p.elem + o) tbl : Nat) : Int) =
      ((base : Int) + i2 * p.s2 + i1 * p.s1 + i0 * p.s0 + o) % 2 ^ 64) ∧
    (p.idx = true → ((p.addr base (((i2 * p.n1 + i1) * p.n0 + i0) * p.elem + o) tbl : Nat) : Int) =
      ((base : Int) + i2 * p.s2 + i1 * p.s1 + sext 32 (tbl i0) * 2 ^ p.scale + o) % 2 ^ 64)
end

