-- ==== Sys2Proof/Laws/Table.lean ====
section
/-! SUPPORT. Laws of sparse tables and memories: an entry reads as what was last put there, every other entry is unchanged, and the
canonical form is kept. -/

namespace Sys2Proof.Machine

variable {α : Type}

theorem tabGet_tabDel_same (d : α) (t : Tab α) (n : Nat) : tabGet d (tabDel t n) n = d := by
  induction t with
  | nil => rfl
  | cons e r ih =>
    obtain ⟨k, v⟩ := e
    by_cases h : k = n <;> simp [tabDel, tabGet, h, ih]

theorem tabGet_tabDel_ne (d : α) (t : Tab α) {n m : Nat} (h : m ≠ n) : tabGet d (tabDel t n) m = tabGet d t m := by
  induction t with
  | nil => rfl
  | cons e r ih =>
    obtain ⟨k, v⟩ := e
    by_cases hk : k = n
    · subst hk; simp [tabDel, tabGet, ih, Ne.symm h]
    · simp [tabDel, tabGet, hk, ih]

theorem tabGet_tabPut_same (d : α) (t : Tab α) (n : Nat) (v : α) (h : ∀ e ∈ t, e.1 ≠ n) : tabGet d (tabPut t n v) n = v := by
  induction t with
  | nil => simp [tabPut, tabGet]
  | cons e r ih =>
    obtain ⟨k, w⟩ := e
    have hk : k ≠ n := h (k, w) (by simp)
    have hr := ih (fun e he => h e (by simp [he]))
    by_cases hn : n < k <;> simp [tabPut, tabGet, hn, hk, hr]

theorem tabGet_tabPut_ne (d : α) (t : Tab α) {n m : Nat} (v : α) (h : m ≠ n) : tabGet d (tabPut t n v) m = tabGet d t m := by
  induction t with
  | nil => simp [tabPut, tabGet, Ne.symm h]
  | cons e r ih =>
    obtain ⟨k, w⟩ := e
    by_cases hn : n < k
    · simp [tabPut, tabGet, hn, Ne.symm h]
    · simp [tabPut, tabGet, hn, ih]

theorem mem_tabDel {t : Tab α} {n : Nat} {e : Nat × α} (h : e ∈ tabDel t n) : e.1 ≠ n ∧ e ∈ t := by
  induction t with
  | nil => simp [tabDel] at h
  | cons x r ih =>
    obtain ⟨k, v⟩ := x
    by_cases hk : k = n
    · simp [tabDel, hk] at h; exact ⟨(ih h).1, by simp [(ih h).2]⟩
    · simp [tabDel, hk] at h
      rcases h with h | h
      · subst h; exact ⟨hk, by simp⟩
      · exact ⟨(ih h).1, by simp [(ih h).2]⟩

/-- An entry reads as what was put there. -/
@[simp] theorem tabGet_tabSet_same [DecidableEq α] (d : α) (t : Tab α) (n : Nat) (v : α) : tabGet d (tabSet d t n v) n = v := by
  by_cases h : v = d
  · simp [tabSet, h, tabGet_tabDel_same]
  · simp [tabSet, h, tabGet_tabPut_same d (tabDel t n) n v (fun e he => (mem_tabDel he).1)]

/-- Putting one entry leaves every other as it was, whatever default the table is read with. -/
theorem tabGet_tabSet_ne [DecidableEq α] (d d' : α) (t : Tab α) {n m : Nat} (v : α) (h : m ≠ n) :
    tabGet d' (tabSet d t n v) m = tabGet d' t m := by
  by_cases hv : v = d
  · simp [tabSet, hv, tabGet_tabDel_ne d' t h]
  · simp [tabSet, hv, tabGet_tabPut_ne d' _ v h, tabGet_tabDel_ne d' t h]

theorem tabDel_of_not_mem {t : Tab α} {n : Nat} (h : ∀ e ∈ t, e.1 ≠ n) : tabDel t n = t := by
  induction t with
  | nil => rfl
  | cons e r ih =>
    obtain ⟨k, v⟩ := e
    have hk : k ≠ n := h (k, v) (by simp)
    simp [tabDel, hk, ih (fun e he => h e (by simp [he]))]

theorem tabDel_tabPut {t : Tab α} {n : Nat} (v : α) (h : ∀ e ∈ t, e.1 ≠ n) : tabDel (tabPut t n v) n = t := by
  induction t with
  | nil => simp [tabPut, tabDel]
  | cons e r ih =>
    obtain ⟨k, w⟩ := e
    have hk : k ≠ n := h (k, w) (by simp)
    have hr : ∀ e ∈ r, e.1 ≠ n := fun e he => h e (by simp [he])
    by_cases hn : n < k
    · simp [tabPut, hn, tabDel, hk, tabDel_of_not_mem hr]
    · simp [tabPut, hn, tabDel, hk, ih hr]

/-- Of two changes of one entry the last one counts. -/
@[simp] theorem tabSet_tabSet [DecidableEq α] (d : α) (t : Tab α) (n : Nat) (v w : α) : tabSet d (tabSet d t n v) n w = tabSet d t n w := by
  have e : tabDel (tabSet d t n v) n = tabDel t n := by
    unfold tabSet
    split
    · exact tabDel_of_not_mem (fun _ he => (mem_tabDel he).1)
    · exact tabDel_tabPut v (fun _ he => (mem_tabDel he).1)
  simp only [tabSet] at e ⊢
  rw [e]

/-! ### The canonical form -/

/-- A lower bound on the keys that are still to come. -/
theorem tabWfFrom_weaken [DecidableEq α] {d : Nat → α} {t : Tab α} {a b : Option Nat}
    (hab : ∀ k, (match b with | none => True | some l => l < k) → (match a with | none => True | some l => l < k))
    (h : tabWfFrom d b t = true) : tabWfFrom d a t = true := by
  cases t with
  | nil => rfl
  | cons e r =>
    obtain ⟨k, v⟩ := e
    simp only [tabWfFrom, Bool.and_eq_true, decide_eq_true_eq] at h ⊢
    refine ⟨⟨?_, h.1.2⟩, h.2⟩
    have := hab k
    cases a <;> cases b <;> simp_all

theorem tabWfFrom_tabDel [DecidableEq α] {d : Nat → α} {t : Tab α} {lo : Option Nat} (n : Nat) (h : tabWfFrom d lo t = true) :
    tabWfFrom d lo (tabDel t n) = true := by
  induction t generalizing lo with
  | nil => rfl
  | cons e r ih =>
    obtain ⟨k, v⟩ := e
    simp only [tabWfFrom, Bool.and_eq_true, decide_eq_true_eq] at h
    by_cases hk : k = n
    · simp only [tabDel, hk, if_true]
      refine ih (tabWfFrom_weaken ?_ h.2)
      intro j hj
      cases lo with
      | none => trivial
      | some l => have := h.1.1; simp at this hj ⊢; omega
    · simp only [tabDel, hk, if_false, tabWfFrom, Bool.and_eq_true, decide_eq_true_eq]
      exact ⟨h.1, ih h.2⟩

theorem tabWfFrom_tabPut [DecidableEq α] {d : Nat → α} {t : Tab α} {lo : Option Nat} {n : Nat} {v : α}
    (hlo : match lo with | none => True | some l => l < n) (hv : v ≠ d n) (hn : ∀ e ∈ t, e.1 ≠ n)
    (h : tabWfFrom d lo t = true) : tabWfFrom d lo (tabPut t n v) = true := by
  induction t generalizing lo with
  | nil => cases lo <;> simp_all [tabPut, tabWfFrom]
  | cons e r ih =>
    obtain ⟨k, w⟩ := e
    simp only [tabWfFrom, Bool.and_eq_true, decide_eq_true_eq] at h
    have hk : k ≠ n := hn (k, w) (by simp)
    by_cases hlt : n < k
    · simp only [tabPut, hlt, if_true, tabWfFrom, Bool.and_eq_true, decide_eq_true_eq]
      refine ⟨⟨?_, hv⟩, ⟨trivial, h.1.2⟩, h.2⟩
      cases lo <;> simp_all
    · simp only [tabPut, hlt, if_false, tabWfFrom, Bool.and_eq_true, decide_eq_true_eq]
      refine ⟨h.1, ih (lo := some k) ?_ (fun e he => hn e (by simp [he])) h.2⟩
      simp only; omega

/-- Changing one entry keeps the canonical form. -/
theorem tabWf_tabSet [DecidableEq α] {d : Nat → α} {t : Tab α} (n : Nat) (v : α) (h : tabWf d t = true) :
    tabWf d (tabSet (d n) t n v) = true := by
  unfold tabWf tabSet at *
  by_cases hv : v = d n
  · simpa [hv] using tabWfFrom_tabDel n h
  · simpa [hv] using tabWfFrom_tabPut (lo := none) trivial hv (fun e he => (mem_tabDel he).1) (tabWfFrom_tabDel n h)

/-! ### Memories -/

@[simp] theorem memGet_memSet_same (m : List Host.Cell) (a : Nat) (b : Byte) : memGet (memSet m a b) a = b :=
  tabGet_tabSet_same 0 m a b

theorem memGet_memSet_ne (m : List Host.Cell) {a c : Nat} (b : Byte) (h : c ≠ a) : memGet (memSet m a b) c = memGet m c :=
  tabGet_tabSet_ne 0 0 m b h

/-- Writing one byte keeps a memory canonical. -/
theorem Memory.wf_memSet {m : List Host.Cell} (a : Nat) (b : Byte) (h : Memory.wf m = true) : Memory.wf (memSet m a b) = true :=
  tabWf_tabSet (d := fun _ => (0 : Byte)) a b h

/-- Writing bytes from an address keeps a memory canonical. -/
theorem Memory.wf_memWrite {m : List Host.Cell} (a : Nat) (d : List Byte) (h : Memory.wf m = true) :
    Memory.wf (memWrite m a d) = true := by
  induction d generalizing m a with
  | nil => exact h
  | cons b bs ih => exact ih (a + 1) (Memory.wf_memSet a b h)

/-- Writing listed bytes keeps a memory canonical. -/
theorem Memory.wf_memWriteAll {m : List Host.Cell} (w : List (Nat × Byte)) (h : Memory.wf m = true) :
    Memory.wf (memWriteAll m w) = true := by
  induction w generalizing m with
  | nil => exact h
  | cons e r ih => exact ih (Memory.wf_memSet e.1 e.2 h)

/-- Writing from an address leaves every byte outside as it was. -/
theorem memGet_memWrite_outside (m : List Host.Cell) (a : Nat) (d : List Byte) (c : Nat) (h : c < a ∨ a + d.length ≤ c) :
    memGet (memWrite m a d) c = memGet m c := by
  induction d generalizing m a with
  | nil => rfl
  | cons b bs ih =>
    simp only [List.length_cons] at h
    rw [memWrite, ih (memSet m a b) (a + 1) (by omega), memGet_memSet_ne m b (by omega)]

/-- Writing listed bytes leaves every byte that the list does not name as it was. -/
theorem memGet_memWriteAll_outside (m : List Host.Cell) (w : List (Nat × Byte)) (c : Nat) (h : ∀ e ∈ w, e.1 ≠ c) :
    memGet (memWriteAll m w) c = memGet m c := by
  induction w generalizing m with
  | nil => rfl
  | cons e r ih =>
    rw [memWriteAll, ih _ (fun x hx => h x (by simp [hx])), memGet_memSet_ne m e.2 (Ne.symm (h e (by simp)))]

/-- A read after a write of the same bytes answers them. -/
theorem memRead_memWrite (m : List Host.Cell) (a : Nat) (d : List Byte) : memRead (memWrite m a d) a d.length = d := by
  induction d generalizing m a with
  | nil => rfl
  | cons b bs ih =>
    have h := memGet_memWrite_outside (memSet m a b) (a + 1) bs a (Or.inl (Nat.lt_succ_self a))
    simp [memRead, memWrite, ih, h]

end Sys2Proof.Machine
end

