-- ==== Sys2Proof/Laws/State.lean ====
section
/-! SUPPORT. What each update of the state leaves alone, field by field, and what a register, a field or a unit reads as after it
was written, so that no proof unfolds a record update. -/

namespace Sys2Proof.Machine

variable (s t : State)

/-! ### `setRg` -/

section

variable (k : RegKind) (v i j : Nat)

@[simp] theorem State.setRg_pending : (s.setRg k v i j).pending = s.pending := rfl
@[simp] theorem State.setRg_acting : (s.setRg k v i j).acting = s.acting := rfl
@[simp] theorem State.setRg_bus : (s.setRg k v i j).bus = s.bus := by rfl
@[simp] theorem State.setRg_latent : (s.setRg k v i j).latent = s.latent := Eq.refl _
@[simp] theorem State.setRg_time : (s.setRg k v i j).time = s.time := rfl
@[simp] theorem State.setRg_log : (s.setRg k v i j).log = s.log := id rfl
@[simp] theorem State.setRg_errFifo : (s.setRg k v i j).errFifo = s.errFifo := by rfl
@[simp] theorem State.setRg_mbx : (s.setRg k v i j).mbx = s.mbx := rfl
@[simp] theorem State.setRg_snima : (s.setRg k v i j).snima = s.snima := by exact rfl
@[simp] theorem State.setRg_drives : (s.setRg k v i j).drives = s.drives := rfl
@[simp] theorem State.setRg_flash : (s.setRg k v i j).flash = s.flash := by rfl
@[simp] theorem State.setRg_vault : (s.setRg k v i j).vault = s.vault := Eq.refl _
@[simp] theorem State.setRg_crypto : (s.setRg k v i j).crypto = s.crypto := rfl
@[simp] theorem State.setRg_store : (s.setRg k v i j).store = s.store := id rfl
@[simp] theorem State.setRg_arb : (s.setRg k v i j).arb = s.arb := by rfl
@[simp] theorem State.setRg_events : (s.setRg k v i j).events = s.events := rfl
@[simp] theorem State.setRg_strikes : (s.setRg k v i j).strikes = s.strikes := by exact rfl
@[simp] theorem State.setRg_irc : (s.setRg k v i j).irc = s.irc := rfl
@[simp] theorem State.setRg_ports : (s.setRg k v i j).ports = s.ports := by rfl
@[simp] theorem State.setRg_links : (s.setRg k v i j).links = s.links := Eq.refl _
@[simp] theorem State.setRg_stale : (s.setRg k v i j).stale = s.stale := rfl
@[simp] theorem State.setRg_ext : (s.setRg k v i j).ext = s.ext := id rfl
@[simp] theorem State.setRg_fenuz : (s.setRg k v i j).fenuz = s.fenuz := by rfl
@[simp] theorem State.setRg_power : (s.setRg k v i j).power = s.power := rfl
@[simp] theorem State.setRg_ana : (s.setRg k v i j).ana = s.ana := by exact rfl
@[simp] theorem State.setRg_side : (s.setRg k v i j).side = s.side := rfl
@[simp] theorem State.setRg_fetch : (s.setRg k v i j).fetch = s.fetch := by rfl
@[simp] theorem State.setRg_sqs : (s.setRg k v i j).sqs = s.sqs := Eq.refl _
@[simp] theorem State.setRg_cqs : (s.setRg k v i j).cqs = s.cqs := rfl
@[simp] theorem State.setRg_movers : (s.setRg k v i j).movers = s.movers := id rfl
@[simp] theorem State.setRg_moverWait : (s.setRg k v i j).moverWait = s.moverWait := by rfl
@[simp] theorem State.setRg_chans : (s.setRg k v i j).chans = s.chans := rfl

end

/-! ### `setFld` -/

section

variable (k : RegKind) (hi lo v i j : Nat)

@[simp] theorem State.setFld_pending : (s.setFld k hi lo v i j).pending = s.pending := by exact rfl
@[simp] theorem State.setFld_acting : (s.setFld k hi lo v i j).acting = s.acting := rfl
@[simp] theorem State.setFld_bus : (s.setFld k hi lo v i j).bus = s.bus := rfl
@[simp] theorem State.setFld_latent : (s.setFld k hi lo v i j).latent = s.latent := by rfl
@[simp] theorem State.setFld_time : (s.setFld k hi lo v i j).time = s.time := Eq.refl _
@[simp] theorem State.setFld_log : (s.setFld k hi lo v i j).log = s.log := rfl
@[simp] theorem State.setFld_errFifo : (s.setFld k hi lo v i j).errFifo = s.errFifo := id rfl
@[simp] theorem State.setFld_mbx : (s.setFld k hi lo v i j).mbx = s.mbx := by rfl
@[simp] theorem State.setFld_snima : (s.setFld k hi lo v i j).snima = s.snima := rfl
@[simp] theorem State.setFld_drives : (s.setFld k hi lo v i j).drives = s.drives := by exact rfl
@[simp] theorem State.setFld_flash : (s.setFld k hi lo v i j).flash = s.flash := rfl
@[simp] theorem State.setFld_vault : (s.setFld k hi lo v i j).vault = s.vault := by rfl
@[simp] theorem State.setFld_crypto : (s.setFld k hi lo v i j).crypto = s.crypto := Eq.refl _
@[simp] theorem State.setFld_store : (s.setFld k hi lo v i j).store = s.store := rfl
@[simp] theorem State.setFld_arb : (s.setFld k hi lo v i j).arb = s.arb := id rfl
@[simp] theorem State.setFld_events : (s.setFld k hi lo v i j).events = s.events := by rfl
@[simp] theorem State.setFld_strikes : (s.setFld k hi lo v i j).strikes = s.strikes := rfl
@[simp] theorem State.setFld_irc : (s.setFld k hi lo v i j).irc = s.irc := by exact rfl
@[simp] theorem State.setFld_ports : (s.setFld k hi lo v i j).ports = s.ports := rfl
@[simp] theorem State.setFld_links : (s.setFld k hi lo v i j).links = s.links := by rfl
@[simp] theorem State.setFld_stale : (s.setFld k hi lo v i j).stale = s.stale := Eq.refl _
@[simp] theorem State.setFld_ext : (s.setFld k hi lo v i j).ext = s.ext := rfl
@[simp] theorem State.setFld_fenuz : (s.setFld k hi lo v i j).fenuz = s.fenuz := id rfl
@[simp] theorem State.setFld_power : (s.setFld k hi lo v i j).power = s.power := by rfl
@[simp] theorem State.setFld_ana : (s.setFld k hi lo v i j).ana = s.ana := rfl
@[simp] theorem State.setFld_side : (s.setFld k hi lo v i j).side = s.side := by exact rfl
@[simp] theorem State.setFld_fetch : (s.setFld k hi lo v i j).fetch = s.fetch := rfl
@[simp] theorem State.setFld_sqs : (s.setFld k hi lo v i j).sqs = s.sqs := by rfl
@[simp] theorem State.setFld_cqs : (s.setFld k hi lo v i j).cqs = s.cqs := Eq.refl _
@[simp] theorem State.setFld_movers : (s.setFld k hi lo v i j).movers = s.movers := rfl
@[simp] theorem State.setFld_moverWait : (s.setFld k hi lo v i j).moverWait = s.moverWait := id rfl
@[simp] theorem State.setFld_chans : (s.setFld k hi lo v i j).chans = s.chans := by rfl

end

/-! ### `addFld` -/

section

variable (k : RegKind) (hi lo n i j : Nat)

@[simp] theorem State.addFld_pending : (s.addFld k hi lo n i j).pending = s.pending := rfl
@[simp] theorem State.addFld_acting : (s.addFld k hi lo n i j).acting = s.acting := rfl
@[simp] theorem State.addFld_bus : (s.addFld k hi lo n i j).bus = s.bus := by exact rfl
@[simp] theorem State.addFld_latent : (s.addFld k hi lo n i j).latent = s.latent := rfl
@[simp] theorem State.addFld_time : (s.addFld k hi lo n i j).time = s.time := by rfl
@[simp] theorem State.addFld_log : (s.addFld k hi lo n i j).log = s.log := Eq.refl _
@[simp] theorem State.addFld_errFifo : (s.addFld k hi lo n i j).errFifo = s.errFifo := rfl
@[simp] theorem State.addFld_mbx : (s.addFld k hi lo n i j).mbx = s.mbx := id rfl
@[simp] theorem State.addFld_snima : (s.addFld k hi lo n i j).snima = s.snima := by rfl
@[simp] theorem State.addFld_drives : (s.addFld k hi lo n i j).drives = s.drives := rfl
@[simp] theorem State.addFld_flash : (s.addFld k hi lo n i j).flash = s.flash := by exact rfl
@[simp] theorem State.addFld_vault : (s.addFld k hi lo n i j).vault = s.vault := rfl
@[simp] theorem State.addFld_crypto : (s.addFld k hi lo n i j).crypto = s.crypto := by rfl
@[simp] theorem State.addFld_store : (s.addFld k hi lo n i j).store = s.store := Eq.refl _
@[simp] theorem State.addFld_arb : (s.addFld k hi lo n i j).arb = s.arb := rfl
@[simp] theorem State.addFld_events : (s.addFld k hi lo n i j).events = s.events := id rfl
@[simp] theorem State.addFld_strikes : (s.addFld k hi lo n i j).strikes = s.strikes := by rfl
@[simp] theorem State.addFld_irc : (s.addFld k hi lo n i j).irc = s.irc := rfl
@[simp] theorem State.addFld_ports : (s.addFld k hi lo n i j).ports = s.ports := by exact rfl
@[simp] theorem State.addFld_links : (s.addFld k hi lo n i j).links = s.links := rfl
@[simp] theorem State.addFld_stale : (s.addFld k hi lo n i j).stale = s.stale := by rfl
@[simp] theorem State.addFld_ext : (s.addFld k hi lo n i j).ext = s.ext := Eq.refl _
@[simp] theorem State.addFld_fenuz : (s.addFld k hi lo n i j).fenuz = s.fenuz := rfl
@[simp] theorem State.addFld_power : (s.addFld k hi lo n i j).power = s.power := id rfl
@[simp] theorem State.addFld_ana : (s.addFld k hi lo n i j).ana = s.ana := by rfl
@[simp] theorem State.addFld_side : (s.addFld k hi lo n i j).side = s.side := rfl
@[simp] theorem State.addFld_fetch : (s.addFld k hi lo n i j).fetch = s.fetch := by exact rfl
@[simp] theorem State.addFld_sqs : (s.addFld k hi lo n i j).sqs = s.sqs := rfl
@[simp] theorem State.addFld_cqs : (s.addFld k hi lo n i j).cqs = s.cqs := by rfl
@[simp] theorem State.addFld_movers : (s.addFld k hi lo n i j).movers = s.movers := Eq.refl _
@[simp] theorem State.addFld_moverWait : (s.addFld k hi lo n i j).moverWait = s.moverWait := rfl
@[simp] theorem State.addFld_chans : (s.addFld k hi lo n i j).chans = s.chans := id rfl

end

/-! ### `setBit` -/

section

variable (k : RegKind) (b : Nat) (v : Bool) (i j : Nat)

@[simp] theorem State.setBit_pending : (s.setBit k b v i j).pending = s.pending := by rfl
@[simp] theorem State.setBit_acting : (s.setBit k b v i j).acting = s.acting := rfl
@[simp] theorem State.setBit_bus : (s.setBit k b v i j).bus = s.bus := rfl
@[simp] theorem State.setBit_latent : (s.setBit k b v i j).latent = s.latent := by exact rfl
@[simp] theorem State.setBit_time : (s.setBit k b v i j).time = s.time := rfl
@[simp] theorem State.setBit_log : (s.setBit k b v i j).log = s.log := by rfl
@[simp] theorem State.setBit_errFifo : (s.setBit k b v i j).errFifo = s.errFifo := Eq.refl _
@[simp] theorem State.setBit_mbx : (s.setBit k b v i j).mbx = s.mbx := rfl
@[simp] theorem State.setBit_snima : (s.setBit k b v i j).snima = s.snima := id rfl
@[simp] theorem State.setBit_drives : (s.setBit k b v i j).drives = s.drives := by rfl
@[simp] theorem State.setBit_flash : (s.setBit k b v i j).flash = s.flash := rfl
@[simp] theorem State.setBit_vault : (s.setBit k b v i j).vault = s.vault := by exact rfl
@[simp] theorem State.setBit_crypto : (s.setBit k b v i j).crypto = s.crypto := rfl
@[simp] theorem State.setBit_store : (s.setBit k b v i j).store = s.store := by rfl
@[simp] theorem State.setBit_arb : (s.setBit k b v i j).arb = s.arb := Eq.refl _
@[simp] theorem State.setBit_events : (s.setBit k b v i j).events = s.events := rfl
@[simp] theorem State.setBit_strikes : (s.setBit k b v i j).strikes = s.strikes := id rfl
@[simp] theorem State.setBit_irc : (s.setBit k b v i j).irc = s.irc := by rfl
@[simp] theorem State.setBit_ports : (s.setBit k b v i j).ports = s.ports := rfl
@[simp] theorem State.setBit_links : (s.setBit k b v i j).links = s.links := by exact rfl
@[simp] theorem State.setBit_stale : (s.setBit k b v i j).stale = s.stale := rfl
@[simp] theorem State.setBit_ext : (s.setBit k b v i j).ext = s.ext := by rfl
@[simp] theorem State.setBit_fenuz : (s.setBit k b v i j).fenuz = s.fenuz := Eq.refl _
@[simp] theorem State.setBit_power : (s.setBit k b v i j).power = s.power := rfl
@[simp] theorem State.setBit_ana : (s.setBit k b v i j).ana = s.ana := id rfl
@[simp] theorem State.setBit_side : (s.setBit k b v i j).side = s.side := by rfl
@[simp] theorem State.setBit_fetch : (s.setBit k b v i j).fetch = s.fetch := rfl
@[simp] theorem State.setBit_sqs : (s.setBit k b v i j).sqs = s.sqs := by exact rfl
@[simp] theorem State.setBit_cqs : (s.setBit k b v i j).cqs = s.cqs := rfl
@[simp] theorem State.setBit_movers : (s.setBit k b v i j).movers = s.movers := by rfl
@[simp] theorem State.setBit_moverWait : (s.setBit k b v i j).moverWait = s.moverWait := Eq.refl _
@[simp] theorem State.setBit_chans : (s.setBit k b v i j).chans = s.chans := rfl

end

/-! ### `setBox` -/

section

variable (c : Nat) (x : Mailbox)

@[simp] theorem State.setBox_pending : (s.setBox c x).pending = s.pending := id rfl
@[simp] theorem State.setBox_acting : (s.setBox c x).acting = s.acting := rfl
@[simp] theorem State.setBox_bus : (s.setBox c x).bus = s.bus := by rfl
@[simp] theorem State.setBox_regs : (s.setBox c x).regs = s.regs := rfl
@[simp] theorem State.setBox_latent : (s.setBox c x).latent = s.latent := by exact rfl
@[simp] theorem State.setBox_time : (s.setBox c x).time = s.time := rfl
@[simp] theorem State.setBox_log : (s.setBox c x).log = s.log := by rfl
@[simp] theorem State.setBox_errFifo : (s.setBox c x).errFifo = s.errFifo := Eq.refl _
@[simp] theorem State.setBox_snima : (s.setBox c x).snima = s.snima := rfl
@[simp] theorem State.setBox_drives : (s.setBox c x).drives = s.drives := id rfl
@[simp] theorem State.setBox_flash : (s.setBox c x).flash = s.flash := by rfl
@[simp] theorem State.setBox_vault : (s.setBox c x).vault = s.vault := rfl
@[simp] theorem State.setBox_crypto : (s.setBox c x).crypto = s.crypto := by exact rfl
@[simp] theorem State.setBox_store : (s.setBox c x).store = s.store := rfl
@[simp] theorem State.setBox_arb : (s.setBox c x).arb = s.arb := by rfl
@[simp] theorem State.setBox_events : (s.setBox c x).events = s.events := Eq.refl _
@[simp] theorem State.setBox_strikes : (s.setBox c x).strikes = s.strikes := rfl
@[simp] theorem State.setBox_irc : (s.setBox c x).irc = s.irc := id rfl
@[simp] theorem State.setBox_ports : (s.setBox c x).ports = s.ports := by rfl
@[simp] theorem State.setBox_links : (s.setBox c x).links = s.links := rfl
@[simp] theorem State.setBox_stale : (s.setBox c x).stale = s.stale := by exact rfl
@[simp] theorem State.setBox_ext : (s.setBox c x).ext = s.ext := rfl
@[simp] theorem State.setBox_fenuz : (s.setBox c x).fenuz = s.fenuz := by rfl
@[simp] theorem State.setBox_power : (s.setBox c x).power = s.power := Eq.refl _
@[simp] theorem State.setBox_ana : (s.setBox c x).ana = s.ana := rfl
@[simp] theorem State.setBox_side : (s.setBox c x).side = s.side := id rfl
@[simp] theorem State.setBox_fetch : (s.setBox c x).fetch = s.fetch := by rfl
@[simp] theorem State.setBox_sqs : (s.setBox c x).sqs = s.sqs := rfl
@[simp] theorem State.setBox_cqs : (s.setBox c x).cqs = s.cqs := by exact rfl
@[simp] theorem State.setBox_movers : (s.setBox c x).movers = s.movers := rfl
@[simp] theorem State.setBox_moverWait : (s.setBox c x).moverWait = s.moverWait := by rfl
@[simp] theorem State.setBox_chans : (s.setBox c x).chans = s.chans := Eq.refl _

end

/-! ### `setChan` -/

section

variable (c : Nat) (x : Chan)

@[simp] theorem State.setChan_pending : (s.setChan c x).pending = s.pending := rfl
@[simp] theorem State.setChan_acting : (s.setChan c x).acting = s.acting := rfl
@[simp] theorem State.setChan_bus : (s.setChan c x).bus = s.bus := id rfl
@[simp] theorem State.setChan_regs : (s.setChan c x).regs = s.regs := by rfl
@[simp] theorem State.setChan_latent : (s.setChan c x).latent = s.latent := rfl
@[simp] theorem State.setChan_time : (s.setChan c x).time = s.time := by exact rfl
@[simp] theorem State.setChan_log : (s.setChan c x).log = s.log := rfl
@[simp] theorem State.setChan_errFifo : (s.setChan c x).errFifo = s.errFifo := by rfl
@[simp] theorem State.setChan_mbx : (s.setChan c x).mbx = s.mbx := Eq.refl _
@[simp] theorem State.setChan_snima : (s.setChan c x).snima = s.snima := rfl
@[simp] theorem State.setChan_drives : (s.setChan c x).drives = s.drives := id rfl
@[simp] theorem State.setChan_flash : (s.setChan c x).flash = s.flash := by rfl
@[simp] theorem State.setChan_vault : (s.setChan c x).vault = s.vault := rfl
@[simp] theorem State.setChan_crypto : (s.setChan c x).crypto = s.crypto := by exact rfl
@[simp] theorem State.setChan_store : (s.setChan c x).store = s.store := rfl
@[simp] theorem State.setChan_arb : (s.setChan c x).arb = s.arb := by rfl
@[simp] theorem State.setChan_events : (s.setChan c x).events = s.events := Eq.refl _
@[simp] theorem State.setChan_strikes : (s.setChan c x).strikes = s.strikes := rfl
@[simp] theorem State.setChan_irc : (s.setChan c x).irc = s.irc := id rfl
@[simp] theorem State.setChan_ports : (s.setChan c x).ports = s.ports := by rfl
@[simp] theorem State.setChan_links : (s.setChan c x).links = s.links := rfl
@[simp] theorem State.setChan_stale : (s.setChan c x).stale = s.stale := by exact rfl
@[simp] theorem State.setChan_ext : (s.setChan c x).ext = s.ext := rfl
@[simp] theorem State.setChan_fenuz : (s.setChan c x).fenuz = s.fenuz := by rfl
@[simp] theorem State.setChan_power : (s.setChan c x).power = s.power := Eq.refl _
@[simp] theorem State.setChan_ana : (s.setChan c x).ana = s.ana := rfl
@[simp] theorem State.setChan_side : (s.setChan c x).side = s.side := id rfl
@[simp] theorem State.setChan_fetch : (s.setChan c x).fetch = s.fetch := by rfl
@[simp] theorem State.setChan_sqs : (s.setChan c x).sqs = s.sqs := rfl
@[simp] theorem State.setChan_cqs : (s.setChan c x).cqs = s.cqs := by exact rfl
@[simp] theorem State.setChan_movers : (s.setChan c x).movers = s.movers := rfl
@[simp] theorem State.setChan_moverWait : (s.setChan c x).moverWait = s.moverWait := by rfl

end

/-! ### `setSq` -/

section

variable (q : Nat) (x : Sq)

@[simp] theorem State.setSq_pending : (s.setSq q x).pending = s.pending := Eq.refl _
@[simp] theorem State.setSq_acting : (s.setSq q x).acting = s.acting := rfl
@[simp] theorem State.setSq_bus : (s.setSq q x).bus = s.bus := rfl
@[simp] theorem State.setSq_regs : (s.setSq q x).regs = s.regs := id rfl
@[simp] theorem State.setSq_latent : (s.setSq q x).latent = s.latent := by rfl
@[simp] theorem State.setSq_time : (s.setSq q x).time = s.time := rfl
@[simp] theorem State.setSq_log : (s.setSq q x).log = s.log := by exact rfl
@[simp] theorem State.setSq_errFifo : (s.setSq q x).errFifo = s.errFifo := rfl
@[simp] theorem State.setSq_mbx : (s.setSq q x).mbx = s.mbx := by rfl
@[simp] theorem State.setSq_snima : (s.setSq q x).snima = s.snima := Eq.refl _
@[simp] theorem State.setSq_drives : (s.setSq q x).drives = s.drives := rfl
@[simp] theorem State.setSq_flash : (s.setSq q x).flash = s.flash := id rfl
@[simp] theorem State.setSq_vault : (s.setSq q x).vault = s.vault := by rfl
@[simp] theorem State.setSq_crypto : (s.setSq q x).crypto = s.crypto := rfl
@[simp] theorem State.setSq_store : (s.setSq q x).store = s.store := by exact rfl
@[simp] theorem State.setSq_arb : (s.setSq q x).arb = s.arb := rfl
@[simp] theorem State.setSq_events : (s.setSq q x).events = s.events := by rfl
@[simp] theorem State.setSq_strikes : (s.setSq q x).strikes = s.strikes := Eq.refl _
@[simp] theorem State.setSq_irc : (s.setSq q x).irc = s.irc := rfl
@[simp] theorem State.setSq_ports : (s.setSq q x).ports = s.ports := id rfl
@[simp] theorem State.setSq_links : (s.setSq q x).links = s.links := by rfl
@[simp] theorem State.setSq_stale : (s.setSq q x).stale = s.stale := rfl
@[simp] theorem State.setSq_ext : (s.setSq q x).ext = s.ext := by exact rfl
@[simp] theorem State.setSq_fenuz : (s.setSq q x).fenuz = s.fenuz := rfl
@[simp] theorem State.setSq_power : (s.setSq q x).power = s.power := by rfl
@[simp] theorem State.setSq_ana : (s.setSq q x).ana = s.ana := Eq.refl _
@[simp] theorem State.setSq_side : (s.setSq q x).side = s.side := rfl
@[simp] theorem State.setSq_fetch : (s.setSq q x).fetch = s.fetch := id rfl
@[simp] theorem State.setSq_cqs : (s.setSq q x).cqs = s.cqs := by rfl
@[simp] theorem State.setSq_movers : (s.setSq q x).movers = s.movers := rfl
@[simp] theorem State.setSq_moverWait : (s.setSq q x).moverWait = s.moverWait := by exact rfl
@[simp] theorem State.setSq_chans : (s.setSq q x).chans = s.chans := rfl

end

/-! ### `setCq` -/

section

variable (q : Nat) (x : Cq)

@[simp] theorem State.setCq_pending : (s.setCq q x).pending = s.pending := by rfl
@[simp] theorem State.setCq_acting : (s.setCq q x).acting = s.acting := rfl
@[simp] theorem State.setCq_bus : (s.setCq q x).bus = s.bus := Eq.refl _
@[simp] theorem State.setCq_regs : (s.setCq q x).regs = s.regs := rfl
@[simp] theorem State.setCq_latent : (s.setCq q x).latent = s.latent := id rfl
@[simp] theorem State.setCq_time : (s.setCq q x).time = s.time := by rfl
@[simp] theorem State.setCq_log : (s.setCq q x).log = s.log := rfl
@[simp] theorem State.setCq_errFifo : (s.setCq q x).errFifo = s.errFifo := by exact rfl
@[simp] theorem State.setCq_mbx : (s.setCq q x).mbx = s.mbx := rfl
@[simp] theorem State.setCq_snima : (s.setCq q x).snima = s.snima := by rfl
@[simp] theorem State.setCq_drives : (s.setCq q x).drives = s.drives := Eq.refl _
@[simp] theorem State.setCq_flash : (s.setCq q x).flash = s.flash := rfl
@[simp] theorem State.setCq_vault : (s.setCq q x).vault = s.vault := id rfl
@[simp] theorem State.setCq_crypto : (s.setCq q x).crypto = s.crypto := by rfl
@[simp] theorem State.setCq_store : (s.setCq q x).store = s.store := rfl
@[simp] theorem State.setCq_arb : (s.setCq q x).arb = s.arb := by exact rfl
@[simp] theorem State.setCq_events : (s.setCq q x).events = s.events := rfl
@[simp] theorem State.setCq_strikes : (s.setCq q x).strikes = s.strikes := by rfl
@[simp] theorem State.setCq_irc : (s.setCq q x).irc = s.irc := Eq.refl _
@[simp] theorem State.setCq_ports : (s.setCq q x).ports = s.ports := rfl
@[simp] theorem State.setCq_links : (s.setCq q x).links = s.links := id rfl
@[simp] theorem State.setCq_stale : (s.setCq q x).stale = s.stale := by rfl
@[simp] theorem State.setCq_ext : (s.setCq q x).ext = s.ext := rfl
@[simp] theorem State.setCq_fenuz : (s.setCq q x).fenuz = s.fenuz := by exact rfl
@[simp] theorem State.setCq_power : (s.setCq q x).power = s.power := rfl
@[simp] theorem State.setCq_ana : (s.setCq q x).ana = s.ana := by rfl
@[simp] theorem State.setCq_side : (s.setCq q x).side = s.side := Eq.refl _
@[simp] theorem State.setCq_fetch : (s.setCq q x).fetch = s.fetch := rfl
@[simp] theorem State.setCq_sqs : (s.setCq q x).sqs = s.sqs := id rfl
@[simp] theorem State.setCq_movers : (s.setCq q x).movers = s.movers := by rfl
@[simp] theorem State.setCq_moverWait : (s.setCq q x).moverWait = s.moverWait := rfl
@[simp] theorem State.setCq_chans : (s.setCq q x).chans = s.chans := by exact rfl

end

/-! ### `setMover` -/

section

variable (m : Nat) (x : Mover)

@[simp] theorem State.setMover_pending : (s.setMover m x).pending = s.pending := rfl
@[simp] theorem State.setMover_acting : (s.setMover m x).acting = s.acting := rfl
@[simp] theorem State.setMover_bus : (s.setMover m x).bus = s.bus := by rfl
@[simp] theorem State.setMover_regs : (s.setMover m x).regs = s.regs := Eq.refl _
@[simp] theorem State.setMover_latent : (s.setMover m x).latent = s.latent := rfl
@[simp] theorem State.setMover_time : (s.setMover m x).time = s.time := id rfl
@[simp] theorem State.setMover_log : (s.setMover m x).log = s.log := by rfl
@[simp] theorem State.setMover_errFifo : (s.setMover m x).errFifo = s.errFifo := rfl
@[simp] theorem State.setMover_mbx : (s.setMover m x).mbx = s.mbx := by exact rfl
@[simp] theorem State.setMover_snima : (s.setMover m x).snima = s.snima := rfl
@[simp] theorem State.setMover_drives : (s.setMover m x).drives = s.drives := by rfl
@[simp] theorem State.setMover_flash : (s.setMover m x).flash = s.flash := Eq.refl _
@[simp] theorem State.setMover_vault : (s.setMover m x).vault = s.vault := rfl
@[simp] theorem State.setMover_crypto : (s.setMover m x).crypto = s.crypto := id rfl
@[simp] theorem State.setMover_store : (s.setMover m x).store = s.store := by rfl
@[simp] theorem State.setMover_arb : (s.setMover m x).arb = s.arb := rfl
@[simp] theorem State.setMover_events : (s.setMover m x).events = s.events := by exact rfl
@[simp] theorem State.setMover_strikes : (s.setMover m x).strikes = s.strikes := rfl
@[simp] theorem State.setMover_irc : (s.setMover m x).irc = s.irc := by rfl
@[simp] theorem State.setMover_ports : (s.setMover m x).ports = s.ports := Eq.refl _
@[simp] theorem State.setMover_links : (s.setMover m x).links = s.links := rfl
@[simp] theorem State.setMover_stale : (s.setMover m x).stale = s.stale := id rfl
@[simp] theorem State.setMover_ext : (s.setMover m x).ext = s.ext := by rfl
@[simp] theorem State.setMover_fenuz : (s.setMover m x).fenuz = s.fenuz := rfl
@[simp] theorem State.setMover_power : (s.setMover m x).power = s.power := by exact rfl
@[simp] theorem State.setMover_ana : (s.setMover m x).ana = s.ana := rfl
@[simp] theorem State.setMover_side : (s.setMover m x).side = s.side := by rfl
@[simp] theorem State.setMover_fetch : (s.setMover m x).fetch = s.fetch := Eq.refl _
@[simp] theorem State.setMover_sqs : (s.setMover m x).sqs = s.sqs := rfl
@[simp] theorem State.setMover_cqs : (s.setMover m x).cqs = s.cqs := id rfl
@[simp] theorem State.setMover_moverWait : (s.setMover m x).moverWait = s.moverWait := by rfl
@[simp] theorem State.setMover_chans : (s.setMover m x).chans = s.chans := rfl

end

/-! ### `setDrive` -/

section

variable (d : Nat) (x : Drive)

@[simp] theorem State.setDrive_pending : (s.setDrive d x).pending = s.pending := by exact rfl
@[simp] theorem State.setDrive_acting : (s.setDrive d x).acting = s.acting := rfl
@[simp] theorem State.setDrive_bus : (s.setDrive d x).bus = s.bus := rfl
@[simp] theorem State.setDrive_regs : (s.setDrive d x).regs = s.regs := by rfl
@[simp] theorem State.setDrive_latent : (s.setDrive d x).latent = s.latent := Eq.refl _
@[simp] theorem State.setDrive_time : (s.setDrive d x).time = s.time := rfl
@[simp] theorem State.setDrive_log : (s.setDrive d x).log = s.log := id rfl
@[simp] theorem State.setDrive_errFifo : (s.setDrive d x).errFifo = s.errFifo := by rfl
@[simp] theorem State.setDrive_mbx : (s.setDrive d x).mbx = s.mbx := rfl
@[simp] theorem State.setDrive_snima : (s.setDrive d x).snima = s.snima := by exact rfl
@[simp] theorem State.setDrive_flash : (s.setDrive d x).flash = s.flash := rfl
@[simp] theorem State.setDrive_vault : (s.setDrive d x).vault = s.vault := by rfl
@[simp] theorem State.setDrive_crypto : (s.setDrive d x).crypto = s.crypto := Eq.refl _
@[simp] theorem State.setDrive_store : (s.setDrive d x).store = s.store := rfl
@[simp] theorem State.setDrive_arb : (s.setDrive d x).arb = s.arb := id rfl
@[simp] theorem State.setDrive_events : (s.setDrive d x).events = s.events := by rfl
@[simp] theorem State.setDrive_strikes : (s.setDrive d x).strikes = s.strikes := rfl
@[simp] theorem State.setDrive_irc : (s.setDrive d x).irc = s.irc := by exact rfl
@[simp] theorem State.setDrive_ports : (s.setDrive d x).ports = s.ports := rfl
@[simp] theorem State.setDrive_links : (s.setDrive d x).links = s.links := by rfl
@[simp] theorem State.setDrive_stale : (s.setDrive d x).stale = s.stale := Eq.refl _
@[simp] theorem State.setDrive_ext : (s.setDrive d x).ext = s.ext := rfl
@[simp] theorem State.setDrive_fenuz : (s.setDrive d x).fenuz = s.fenuz := id rfl
@[simp] theorem State.setDrive_power : (s.setDrive d x).power = s.power := by rfl
@[simp] theorem State.setDrive_ana : (s.setDrive d x).ana = s.ana := rfl
@[simp] theorem State.setDrive_side : (s.setDrive d x).side = s.side := by exact rfl
@[simp] theorem State.setDrive_fetch : (s.setDrive d x).fetch = s.fetch := rfl
@[simp] theorem State.setDrive_sqs : (s.setDrive d x).sqs = s.sqs := by rfl
@[simp] theorem State.setDrive_cqs : (s.setDrive d x).cqs = s.cqs := Eq.refl _
@[simp] theorem State.setDrive_movers : (s.setDrive d x).movers = s.movers := rfl
@[simp] theorem State.setDrive_moverWait : (s.setDrive d x).moverWait = s.moverWait := id rfl
@[simp] theorem State.setDrive_chans : (s.setDrive d x).chans = s.chans := by rfl

end

/-! ### `setCore` -/

section

variable (n : Nat) (x : Core)

@[simp] theorem State.setCore_pending : (s.setCore n x).pending = s.pending := rfl
@[simp] theorem State.setCore_acting : (s.setCore n x).acting = s.acting := rfl
@[simp] theorem State.setCore_bus : (s.setCore n x).bus = s.bus := by exact rfl
@[simp] theorem State.setCore_regs : (s.setCore n x).regs = s.regs := rfl
@[simp] theorem State.setCore_latent : (s.setCore n x).latent = s.latent := by rfl
@[simp] theorem State.setCore_time : (s.setCore n x).time = s.time := Eq.refl _
@[simp] theorem State.setCore_log : (s.setCore n x).log = s.log := rfl
@[simp] theorem State.setCore_errFifo : (s.setCore n x).errFifo = s.errFifo := id rfl
@[simp] theorem State.setCore_mbx : (s.setCore n x).mbx = s.mbx := by rfl
@[simp] theorem State.setCore_snima : (s.setCore n x).snima = s.snima := rfl
@[simp] theorem State.setCore_drives : (s.setCore n x).drives = s.drives := by exact rfl
@[simp] theorem State.setCore_flash : (s.setCore n x).flash = s.flash := rfl
@[simp] theorem State.setCore_vault : (s.setCore n x).vault = s.vault := by rfl
@[simp] theorem State.setCore_crypto : (s.setCore n x).crypto = s.crypto := Eq.refl _
@[simp] theorem State.setCore_store : (s.setCore n x).store = s.store := rfl
@[simp] theorem State.setCore_arb : (s.setCore n x).arb = s.arb := id rfl
@[simp] theorem State.setCore_events : (s.setCore n x).events = s.events := by rfl
@[simp] theorem State.setCore_strikes : (s.setCore n x).strikes = s.strikes := rfl
@[simp] theorem State.setCore_ports : (s.setCore n x).ports = s.ports := by exact rfl
@[simp] theorem State.setCore_links : (s.setCore n x).links = s.links := rfl
@[simp] theorem State.setCore_stale : (s.setCore n x).stale = s.stale := by rfl
@[simp] theorem State.setCore_ext : (s.setCore n x).ext = s.ext := Eq.refl _
@[simp] theorem State.setCore_fenuz : (s.setCore n x).fenuz = s.fenuz := rfl
@[simp] theorem State.setCore_power : (s.setCore n x).power = s.power := id rfl
@[simp] theorem State.setCore_ana : (s.setCore n x).ana = s.ana := by rfl
@[simp] theorem State.setCore_side : (s.setCore n x).side = s.side := rfl
@[simp] theorem State.setCore_fetch : (s.setCore n x).fetch = s.fetch := by exact rfl
@[simp] theorem State.setCore_sqs : (s.setCore n x).sqs = s.sqs := rfl
@[simp] theorem State.setCore_cqs : (s.setCore n x).cqs = s.cqs := by rfl
@[simp] theorem State.setCore_movers : (s.setCore n x).movers = s.movers := Eq.refl _
@[simp] theorem State.setCore_moverWait : (s.setCore n x).moverWait = s.moverWait := rfl
@[simp] theorem State.setCore_chans : (s.setCore n x).chans = s.chans := id rfl

end

/-! ### `setPort` -/

section

variable (p : Nat) (x : PortConfig)

@[simp] theorem State.setPort_pending : (s.setPort p x).pending = s.pending := by rfl
@[simp] theorem State.setPort_acting : (s.setPort p x).acting = s.acting := rfl
@[simp] theorem State.setPort_bus : (s.setPort p x).bus = s.bus := rfl
@[simp] theorem State.setPort_regs : (s.setPort p x).regs = s.regs := by exact rfl
@[simp] theorem State.setPort_latent : (s.setPort p x).latent = s.latent := rfl
@[simp] theorem State.setPort_time : (s.setPort p x).time = s.time := by rfl
@[simp] theorem State.setPort_log : (s.setPort p x).log = s.log := Eq.refl _
@[simp] theorem State.setPort_errFifo : (s.setPort p x).errFifo = s.errFifo := rfl
@[simp] theorem State.setPort_mbx : (s.setPort p x).mbx = s.mbx := id rfl
@[simp] theorem State.setPort_snima : (s.setPort p x).snima = s.snima := by rfl
@[simp] theorem State.setPort_drives : (s.setPort p x).drives = s.drives := rfl
@[simp] theorem State.setPort_flash : (s.setPort p x).flash = s.flash := by exact rfl
@[simp] theorem State.setPort_vault : (s.setPort p x).vault = s.vault := rfl
@[simp] theorem State.setPort_crypto : (s.setPort p x).crypto = s.crypto := by rfl
@[simp] theorem State.setPort_store : (s.setPort p x).store = s.store := Eq.refl _
@[simp] theorem State.setPort_arb : (s.setPort p x).arb = s.arb := rfl
@[simp] theorem State.setPort_events : (s.setPort p x).events = s.events := id rfl
@[simp] theorem State.setPort_strikes : (s.setPort p x).strikes = s.strikes := by rfl
@[simp] theorem State.setPort_irc : (s.setPort p x).irc = s.irc := rfl
@[simp] theorem State.setPort_links : (s.setPort p x).links = s.links := by exact rfl
@[simp] theorem State.setPort_stale : (s.setPort p x).stale = s.stale := rfl
@[simp] theorem State.setPort_ext : (s.setPort p x).ext = s.ext := by rfl
@[simp] theorem State.setPort_fenuz : (s.setPort p x).fenuz = s.fenuz := Eq.refl _
@[simp] theorem State.setPort_power : (s.setPort p x).power = s.power := rfl
@[simp] theorem State.setPort_ana : (s.setPort p x).ana = s.ana := id rfl
@[simp] theorem State.setPort_side : (s.setPort p x).side = s.side := by rfl
@[simp] theorem State.setPort_fetch : (s.setPort p x).fetch = s.fetch := rfl
@[simp] theorem State.setPort_sqs : (s.setPort p x).sqs = s.sqs := by exact rfl
@[simp] theorem State.setPort_cqs : (s.setPort p x).cqs = s.cqs := rfl
@[simp] theorem State.setPort_movers : (s.setPort p x).movers = s.movers := by rfl
@[simp] theorem State.setPort_moverWait : (s.setPort p x).moverWait = s.moverWait := Eq.refl _
@[simp] theorem State.setPort_chans : (s.setPort p x).chans = s.chans := rfl

end

/-! ### `setLink` -/

section

variable (k : Nat) (x : Link)

@[simp] theorem State.setLink_pending : (s.setLink k x).pending = s.pending := id rfl
@[simp] theorem State.setLink_acting : (s.setLink k x).acting = s.acting := rfl
@[simp] theorem State.setLink_bus : (s.setLink k x).bus = s.bus := by rfl
@[simp] theorem State.setLink_regs : (s.setLink k x).regs = s.regs := rfl
@[simp] theorem State.setLink_latent : (s.setLink k x).latent = s.latent := by exact rfl
@[simp] theorem State.setLink_time : (s.setLink k x).time = s.time := rfl
@[simp] theorem State.setLink_log : (s.setLink k x).log = s.log := by rfl
@[simp] theorem State.setLink_errFifo : (s.setLink k x).errFifo = s.errFifo := Eq.refl _
@[simp] theorem State.setLink_mbx : (s.setLink k x).mbx = s.mbx := rfl
@[simp] theorem State.setLink_snima : (s.setLink k x).snima = s.snima := id rfl
@[simp] theorem State.setLink_drives : (s.setLink k x).drives = s.drives := by rfl
@[simp] theorem State.setLink_flash : (s.setLink k x).flash = s.flash := rfl
@[simp] theorem State.setLink_vault : (s.setLink k x).vault = s.vault := by exact rfl
@[simp] theorem State.setLink_crypto : (s.setLink k x).crypto = s.crypto := rfl
@[simp] theorem State.setLink_store : (s.setLink k x).store = s.store := by rfl
@[simp] theorem State.setLink_arb : (s.setLink k x).arb = s.arb := Eq.refl _
@[simp] theorem State.setLink_events : (s.setLink k x).events = s.events := rfl
@[simp] theorem State.setLink_strikes : (s.setLink k x).strikes = s.strikes := id rfl
@[simp] theorem State.setLink_irc : (s.setLink k x).irc = s.irc := by rfl
@[simp] theorem State.setLink_ports : (s.setLink k x).ports = s.ports := rfl
@[simp] theorem State.setLink_stale : (s.setLink k x).stale = s.stale := by exact rfl
@[simp] theorem State.setLink_ext : (s.setLink k x).ext = s.ext := rfl
@[simp] theorem State.setLink_fenuz : (s.setLink k x).fenuz = s.fenuz := by rfl
@[simp] theorem State.setLink_power : (s.setLink k x).power = s.power := Eq.refl _
@[simp] theorem State.setLink_ana : (s.setLink k x).ana = s.ana := rfl
@[simp] theorem State.setLink_side : (s.setLink k x).side = s.side := id rfl
@[simp] theorem State.setLink_fetch : (s.setLink k x).fetch = s.fetch := by rfl
@[simp] theorem State.setLink_sqs : (s.setLink k x).sqs = s.sqs := rfl
@[simp] theorem State.setLink_cqs : (s.setLink k x).cqs = s.cqs := by exact rfl
@[simp] theorem State.setLink_movers : (s.setLink k x).movers = s.movers := rfl
@[simp] theorem State.setLink_moverWait : (s.setLink k x).moverWait = s.moverWait := by rfl
@[simp] theorem State.setLink_chans : (s.setLink k x).chans = s.chans := Eq.refl _

end

/-! ### `setMsix` -/

section

variable (p v : Nat) (x : MsixEntry)

@[simp] theorem State.setMsix_pending : (s.setMsix p v x).pending = s.pending := rfl
@[simp] theorem State.setMsix_acting : (s.setMsix p v x).acting = s.acting := rfl
@[simp] theorem State.setMsix_bus : (s.setMsix p v x).bus = s.bus := id rfl
@[simp] theorem State.setMsix_regs : (s.setMsix p v x).regs = s.regs := by rfl
@[simp] theorem State.setMsix_latent : (s.setMsix p v x).latent = s.latent := rfl
@[simp] theorem State.setMsix_time : (s.setMsix p v x).time = s.time := by exact rfl
@[simp] theorem State.setMsix_log : (s.setMsix p v x).log = s.log := rfl
@[simp] theorem State.setMsix_errFifo : (s.setMsix p v x).errFifo = s.errFifo := by rfl
@[simp] theorem State.setMsix_mbx : (s.setMsix p v x).mbx = s.mbx := Eq.refl _
@[simp] theorem State.setMsix_snima : (s.setMsix p v x).snima = s.snima := rfl
@[simp] theorem State.setMsix_drives : (s.setMsix p v x).drives = s.drives := id rfl
@[simp] theorem State.setMsix_flash : (s.setMsix p v x).flash = s.flash := by rfl
@[simp] theorem State.setMsix_vault : (s.setMsix p v x).vault = s.vault := rfl
@[simp] theorem State.setMsix_crypto : (s.setMsix p v x).crypto = s.crypto := by exact rfl
@[simp] theorem State.setMsix_store : (s.setMsix p v x).store = s.store := rfl
@[simp] theorem State.setMsix_arb : (s.setMsix p v x).arb = s.arb := by rfl
@[simp] theorem State.setMsix_events : (s.setMsix p v x).events = s.events := Eq.refl _
@[simp] theorem State.setMsix_strikes : (s.setMsix p v x).strikes = s.strikes := rfl
@[simp] theorem State.setMsix_ports : (s.setMsix p v x).ports = s.ports := id rfl
@[simp] theorem State.setMsix_links : (s.setMsix p v x).links = s.links := by rfl
@[simp] theorem State.setMsix_stale : (s.setMsix p v x).stale = s.stale := rfl
@[simp] theorem State.setMsix_ext : (s.setMsix p v x).ext = s.ext := by exact rfl
@[simp] theorem State.setMsix_fenuz : (s.setMsix p v x).fenuz = s.fenuz := rfl
@[simp] theorem State.setMsix_power : (s.setMsix p v x).power = s.power := by rfl
@[simp] theorem State.setMsix_ana : (s.setMsix p v x).ana = s.ana := Eq.refl _
@[simp] theorem State.setMsix_side : (s.setMsix p v x).side = s.side := rfl
@[simp] theorem State.setMsix_fetch : (s.setMsix p v x).fetch = s.fetch := id rfl
@[simp] theorem State.setMsix_sqs : (s.setMsix p v x).sqs = s.sqs := by rfl
@[simp] theorem State.setMsix_cqs : (s.setMsix p v x).cqs = s.cqs := rfl
@[simp] theorem State.setMsix_movers : (s.setMsix p v x).movers = s.movers := by exact rfl
@[simp] theorem State.setMsix_moverWait : (s.setMsix p v x).moverWait = s.moverWait := rfl
@[simp] theorem State.setMsix_chans : (s.setMsix p v x).chans = s.chans := by rfl

end

/-! ### `extWrite` -/

section

variable (z : Nat) (w : List (Nat × Byte))

@[simp] theorem State.extWrite_pending : (s.extWrite z w).pending = s.pending := Eq.refl _
@[simp] theorem State.extWrite_acting : (s.extWrite z w).acting = s.acting := rfl
@[simp] theorem State.extWrite_bus : (s.extWrite z w).bus = s.bus := rfl
@[simp] theorem State.extWrite_regs : (s.extWrite z w).regs = s.regs := id rfl
@[simp] theorem State.extWrite_latent : (s.extWrite z w).latent = s.latent := by rfl
@[simp] theorem State.extWrite_time : (s.extWrite z w).time = s.time := rfl
@[simp] theorem State.extWrite_log : (s.extWrite z w).log = s.log := by exact rfl
@[simp] theorem State.extWrite_errFifo : (s.extWrite z w).errFifo = s.errFifo := rfl
@[simp] theorem State.extWrite_mbx : (s.extWrite z w).mbx = s.mbx := by rfl
@[simp] theorem State.extWrite_snima : (s.extWrite z w).snima = s.snima := Eq.refl _
@[simp] theorem State.extWrite_drives : (s.extWrite z w).drives = s.drives := rfl
@[simp] theorem State.extWrite_flash : (s.extWrite z w).flash = s.flash := id rfl
@[simp] theorem State.extWrite_vault : (s.extWrite z w).vault = s.vault := by rfl
@[simp] theorem State.extWrite_crypto : (s.extWrite z w).crypto = s.crypto := rfl
@[simp] theorem State.extWrite_store : (s.extWrite z w).store = s.store := by exact rfl
@[simp] theorem State.extWrite_arb : (s.extWrite z w).arb = s.arb := rfl
@[simp] theorem State.extWrite_events : (s.extWrite z w).events = s.events := by rfl
@[simp] theorem State.extWrite_strikes : (s.extWrite z w).strikes = s.strikes := Eq.refl _
@[simp] theorem State.extWrite_irc : (s.extWrite z w).irc = s.irc := rfl
@[simp] theorem State.extWrite_ports : (s.extWrite z w).ports = s.ports := id rfl
@[simp] theorem State.extWrite_links : (s.extWrite z w).links = s.links := by rfl
@[simp] theorem State.extWrite_stale : (s.extWrite z w).stale = s.stale := rfl
@[simp] theorem State.extWrite_fenuz : (s.extWrite z w).fenuz = s.fenuz := by exact rfl
@[simp] theorem State.extWrite_power : (s.extWrite z w).power = s.power := rfl
@[simp] theorem State.extWrite_ana : (s.extWrite z w).ana = s.ana := by rfl
@[simp] theorem State.extWrite_side : (s.extWrite z w).side = s.side := Eq.refl _
@[simp] theorem State.extWrite_fetch : (s.extWrite z w).fetch = s.fetch := rfl
@[simp] theorem State.extWrite_sqs : (s.extWrite z w).sqs = s.sqs := id rfl
@[simp] theorem State.extWrite_cqs : (s.extWrite z w).cqs = s.cqs := by rfl
@[simp] theorem State.extWrite_movers : (s.extWrite z w).movers = s.movers := rfl
@[simp] theorem State.extWrite_moverWait : (s.extWrite z w).moverWait = s.moverWait := by exact rfl
@[simp] theorem State.extWrite_chans : (s.extWrite z w).chans = s.chans := rfl

end

/-! ### `reply` -/

section

variable (d : List Byte)

@[simp] theorem State.reply_pending : (s.reply d).pending = s.pending := by rfl
@[simp] theorem State.reply_acting : (s.reply d).acting = s.acting := rfl
@[simp] theorem State.reply_regs : (s.reply d).regs = s.regs := Eq.refl _
@[simp] theorem State.reply_latent : (s.reply d).latent = s.latent := rfl
@[simp] theorem State.reply_time : (s.reply d).time = s.time := id rfl
@[simp] theorem State.reply_log : (s.reply d).log = s.log := by rfl
@[simp] theorem State.reply_errFifo : (s.reply d).errFifo = s.errFifo := rfl
@[simp] theorem State.reply_mbx : (s.reply d).mbx = s.mbx := by exact rfl
@[simp] theorem State.reply_snima : (s.reply d).snima = s.snima := rfl
@[simp] theorem State.reply_drives : (s.reply d).drives = s.drives := by rfl
@[simp] theorem State.reply_flash : (s.reply d).flash = s.flash := Eq.refl _
@[simp] theorem State.reply_vault : (s.reply d).vault = s.vault := rfl
@[simp] theorem State.reply_crypto : (s.reply d).crypto = s.crypto := id rfl
@[simp] theorem State.reply_store : (s.reply d).store = s.store := by rfl
@[simp] theorem State.reply_arb : (s.reply d).arb = s.arb := rfl
@[simp] theorem State.reply_events : (s.reply d).events = s.events := by exact rfl
@[simp] theorem State.reply_strikes : (s.reply d).strikes = s.strikes := rfl
@[simp] theorem State.reply_irc : (s.reply d).irc = s.irc := by rfl
@[simp] theorem State.reply_ports : (s.reply d).ports = s.ports := Eq.refl _
@[simp] theorem State.reply_links : (s.reply d).links = s.links := rfl
@[simp] theorem State.reply_stale : (s.reply d).stale = s.stale := id rfl
@[simp] theorem State.reply_ext : (s.reply d).ext = s.ext := by rfl
@[simp] theorem State.reply_fenuz : (s.reply d).fenuz = s.fenuz := rfl
@[simp] theorem State.reply_power : (s.reply d).power = s.power := by exact rfl
@[simp] theorem State.reply_ana : (s.reply d).ana = s.ana := rfl
@[simp] theorem State.reply_side : (s.reply d).side = s.side := by rfl
@[simp] theorem State.reply_fetch : (s.reply d).fetch = s.fetch := Eq.refl _
@[simp] theorem State.reply_sqs : (s.reply d).sqs = s.sqs := rfl
@[simp] theorem State.reply_cqs : (s.reply d).cqs = s.cqs := id rfl
@[simp] theorem State.reply_movers : (s.reply d).movers = s.movers := by rfl
@[simp] theorem State.reply_moverWait : (s.reply d).moverWait = s.moverWait := rfl
@[simp] theorem State.reply_chans : (s.reply d).chans = s.chans := by exact rfl

end

/-! ### `aside` -/

@[simp] theorem aside_pending : (aside s t).pending = s.pending := rfl
@[simp] theorem aside_acting : (aside s t).acting = s.acting := rfl
@[simp] theorem aside_bus : (aside s t).bus = t.bus := rfl
@[simp] theorem aside_regs : (aside s t).regs = t.regs := by rfl
@[simp] theorem aside_latent : (aside s t).latent = t.latent := Eq.refl _
@[simp] theorem aside_time : (aside s t).time = t.time := rfl
@[simp] theorem aside_log : (aside s t).log = t.log := id rfl
@[simp] theorem aside_errFifo : (aside s t).errFifo = t.errFifo := by rfl
@[simp] theorem aside_mbx : (aside s t).mbx = t.mbx := rfl
@[simp] theorem aside_snima : (aside s t).snima = t.snima := by exact rfl
@[simp] theorem aside_drives : (aside s t).drives = t.drives := rfl
@[simp] theorem aside_flash : (aside s t).flash = t.flash := by rfl
@[simp] theorem aside_vault : (aside s t).vault = t.vault := Eq.refl _
@[simp] theorem aside_crypto : (aside s t).crypto = t.crypto := rfl
@[simp] theorem aside_store : (aside s t).store = t.store := id rfl
@[simp] theorem aside_arb : (aside s t).arb = t.arb := by rfl
@[simp] theorem aside_events : (aside s t).events = t.events := rfl
@[simp] theorem aside_strikes : (aside s t).strikes = t.strikes := by exact rfl
@[simp] theorem aside_irc : (aside s t).irc = t.irc := rfl
@[simp] theorem aside_ports : (aside s t).ports = t.ports := by rfl
@[simp] theorem aside_links : (aside s t).links = t.links := Eq.refl _
@[simp] theorem aside_stale : (aside s t).stale = t.stale := rfl
@[simp] theorem aside_ext : (aside s t).ext = t.ext := id rfl
@[simp] theorem aside_fenuz : (aside s t).fenuz = t.fenuz := by rfl
@[simp] theorem aside_power : (aside s t).power = t.power := rfl
@[simp] theorem aside_ana : (aside s t).ana = t.ana := by exact rfl
@[simp] theorem aside_side : (aside s t).side = t.side := rfl
@[simp] theorem aside_fetch : (aside s t).fetch = t.fetch := by rfl
@[simp] theorem aside_sqs : (aside s t).sqs = t.sqs := Eq.refl _
@[simp] theorem aside_cqs : (aside s t).cqs = t.cqs := rfl
@[simp] theorem aside_movers : (aside s t).movers = t.movers := id rfl
@[simp] theorem aside_moverWait : (aside s t).moverWait = t.moverWait := by rfl
@[simp] theorem aside_chans : (aside s t).chans = t.chans := rfl

/-! ### Time passes -/

theorem State.setRg_eq (k : RegKind) (v i j : Nat) : ∃ r, s.setRg k v i j = { s with regs := r } := ⟨_, rfl⟩

theorem State.setFld_eq (k : RegKind) (hi lo v i j : Nat) : ∃ r, s.setFld k hi lo v i j = { s with regs := r } := ⟨_, rfl⟩

theorem State.growAlign_eq (now : Nat) : ∃ r m, s.growAlign now = { s with regs := r, time := m } := by
  unfold State.growAlign; split
  · exact ⟨s.regs, s.time, rfl⟩
  · rename_i mark _
    obtain ⟨r, h⟩ := s.setFld_eq .timeUnc 63 32 (satAdd 0xFFFFFFFF (s.fld .timeUnc 63 32)
      ((s.clock + (now - s.time.now) - mark) / second * s.fld .timeHold 31 0)) 0 0
    simp only [h]; exact ⟨_, _, rfl⟩

theorem State.pass_eq (now : Nat) : ∃ r m, s.pass now = { s with regs := r, time := m } := by
  unfold State.pass; split
  · exact ⟨s.regs, s.time, rfl⟩
  · obtain ⟨r, m, h⟩ := s.growAlign_eq now
    simp only [h]; exact ⟨_, _, rfl⟩

@[simp] theorem State.pass_pending (now : Nat) : (s.pass now).pending = s.pending := by obtain ⟨r, m, h⟩ := s.pass_eq now; rw [h]
@[simp] theorem State.pass_acting (now : Nat) : (s.pass now).acting = s.acting := let ⟨_, _, h⟩ := s.pass_eq now; h ▸ rfl
@[simp] theorem State.pass_bus (now : Nat) : (s.pass now).bus = s.bus := let ⟨_, _, h⟩ := s.pass_eq now; h ▸ rfl
@[simp] theorem State.pass_latent (now : Nat) : (s.pass now).latent = s.latent := by obtain ⟨r, m, h⟩ := s.pass_eq now; simp only [h]
@[simp] theorem State.pass_log (now : Nat) : (s.pass now).log = s.log := let ⟨_, _, h⟩ := s.pass_eq now; h ▸ rfl
@[simp] theorem State.pass_errFifo (now : Nat) : (s.pass now).errFifo = s.errFifo := by obtain ⟨r, m, h⟩ := s.pass_eq now; simp only [h]
@[simp] theorem State.pass_mbx (now : Nat) : (s.pass now).mbx = s.mbx := by obtain ⟨r, m, h⟩ := s.pass_eq now; rw [h]
@[simp] theorem State.pass_snima (now : Nat) : (s.pass now).snima = s.snima := by obtain ⟨r, m, h⟩ := s.pass_eq now; simp only [h]
@[simp] theorem State.pass_drives (now : Nat) : (s.pass now).drives = s.drives := by obtain ⟨r, m, h⟩ := s.pass_eq now; rw [h]
@[simp] theorem State.pass_flash (now : Nat) : (s.pass now).flash = s.flash := let ⟨_, _, h⟩ := s.pass_eq now; h ▸ rfl
@[simp] theorem State.pass_vault (now : Nat) : (s.pass now).vault = s.vault := by obtain ⟨r, m, h⟩ := s.pass_eq now; rw [h]
@[simp] theorem State.pass_crypto (now : Nat) : (s.pass now).crypto = s.crypto := let ⟨_, _, h⟩ := s.pass_eq now; h ▸ rfl
@[simp] theorem State.pass_store (now : Nat) : (s.pass now).store = s.store := by obtain ⟨r, m, h⟩ := s.pass_eq now; simp only [h]
@[simp] theorem State.pass_arb (now : Nat) : (s.pass now).arb = s.arb := let ⟨_, _, h⟩ := s.pass_eq now; h ▸ rfl
@[simp] theorem State.pass_events (now : Nat) : (s.pass now).events = s.events := by obtain ⟨r, m, h⟩ := s.pass_eq now; simp only [h]
@[simp] theorem State.pass_strikes (now : Nat) : (s.pass now).strikes = s.strikes := by obtain ⟨r, m, h⟩ := s.pass_eq now; rw [h]
@[simp] theorem State.pass_irc (now : Nat) : (s.pass now).irc = s.irc := by obtain ⟨r, m, h⟩ := s.pass_eq now; simp only [h]
@[simp] theorem State.pass_ports (now : Nat) : (s.pass now).ports = s.ports := by obtain ⟨r, m, h⟩ := s.pass_eq now; rw [h]
@[simp] theorem State.pass_links (now : Nat) : (s.pass now).links = s.links := let ⟨_, _, h⟩ := s.pass_eq now; h ▸ rfl
@[simp] theorem State.pass_stale (now : Nat) : (s.pass now).stale = s.stale := by obtain ⟨r, m, h⟩ := s.pass_eq now; rw [h]
@[simp] theorem State.pass_ext (now : Nat) : (s.pass now).ext = s.ext := let ⟨_, _, h⟩ := s.pass_eq now; h ▸ rfl
@[simp] theorem State.pass_fenuz (now : Nat) : (s.pass now).fenuz = s.fenuz := by obtain ⟨r, m, h⟩ := s.pass_eq now; simp only [h]
@[simp] theorem State.pass_power (now : Nat) : (s.pass now).power = s.power := let ⟨_, _, h⟩ := s.pass_eq now; h ▸ rfl
@[simp] theorem State.pass_ana (now : Nat) : (s.pass now).ana = s.ana := by obtain ⟨r, m, h⟩ := s.pass_eq now; simp only [h]
@[simp] theorem State.pass_side (now : Nat) : (s.pass now).side = s.side := by obtain ⟨r, m, h⟩ := s.pass_eq now; rw [h]
@[simp] theorem State.pass_fetch (now : Nat) : (s.pass now).fetch = s.fetch := by obtain ⟨r, m, h⟩ := s.pass_eq now; simp only [h]
@[simp] theorem State.pass_sqs (now : Nat) : (s.pass now).sqs = s.sqs := by obtain ⟨r, m, h⟩ := s.pass_eq now; rw [h]
@[simp] theorem State.pass_cqs (now : Nat) : (s.pass now).cqs = s.cqs := let ⟨_, _, h⟩ := s.pass_eq now; h ▸ rfl
@[simp] theorem State.pass_movers (now : Nat) : (s.pass now).movers = s.movers := by obtain ⟨r, m, h⟩ := s.pass_eq now; rw [h]
@[simp] theorem State.pass_moverWait (now : Nat) : (s.pass now).moverWait = s.moverWait := let ⟨_, _, h⟩ := s.pass_eq now; h ▸ rfl
@[simp] theorem State.pass_chans (now : Nat) : (s.pass now).chans = s.chans := by obtain ⟨r, m, h⟩ := s.pass_eq now; simp only [h]

/-! ### Units by number -/

@[simp] theorem State.box_setBox (c : Nat) (x : Mailbox) : (s.setBox c x).box c = x := by simp [State.box, State.setBox]
@[simp] theorem State.chan_setChan (c : Nat) (x : Chan) : (s.setChan c x).chan c = x := by
  simp only [State.chan, State.setChan, tabGet_tabSet_same]
@[simp] theorem State.sq_setSq (q : Nat) (x : Sq) : (s.setSq q x).sq q = x := by simp [State.sq, State.setSq]
@[simp] theorem State.cq_setCq (q : Nat) (x : Cq) : (s.setCq q x).cq q = x := by
  simp only [State.cq, State.setCq, tabGet_tabSet_same]
@[simp] theorem State.mover_setMover (m : Nat) (x : Mover) : (s.setMover m x).mover m = x := by simp [State.mover, State.setMover]
@[simp] theorem State.drive_setDrive (d : Nat) (x : Drive) : (s.setDrive d x).drive d = x := by
  simp only [State.drive, State.setDrive, tabGet_tabSet_same]
@[simp] theorem State.core_setCore (n : Nat) (x : Core) : (s.setCore n x).core n = x := by simp [State.core, State.setCore]
@[simp] theorem State.port_setPort (p : Nat) (x : PortConfig) : (s.setPort p x).port p = x := by
  simp only [State.port, State.setPort, tabGet_tabSet_same]
@[simp] theorem State.link_setLink (k : Nat) (x : Link) : (s.setLink k x).link k = x := by simp [State.link, State.setLink]
@[simp] theorem State.msix_setMsix (p v : Nat) (x : MsixEntry) : (s.setMsix p v x).msix p v = x := by
  simp only [State.msix, State.setMsix, tabGet_tabSet_same]

theorem State.box_setBox_ne {c e : Nat} (x : Mailbox) (h : e ≠ c) : (s.setBox c x).box e = s.box e :=
  tabGet_tabSet_ne _ _ _ _ h
theorem State.chan_setChan_ne {c e : Nat} (x : Chan) (h : e ≠ c) : (s.setChan c x).chan e = s.chan e :=
  tabGet_tabSet_ne _ _ _ _ h
theorem State.sq_setSq_ne {q e : Nat} (x : Sq) (h : e ≠ q) : (s.setSq q x).sq e = s.sq e := tabGet_tabSet_ne _ _ _ _ h
theorem State.cq_setCq_ne {q e : Nat} (x : Cq) (h : e ≠ q) : (s.setCq q x).cq e = s.cq e := tabGet_tabSet_ne _ _ _ _ h
theorem State.mover_setMover_ne {m e : Nat} (x : Mover) (h : e ≠ m) : (s.setMover m x).mover e = s.mover e :=
  tabGet_tabSet_ne _ _ _ _ h

/-! ### Registers -/

/-- A register reads as what was written to it, in 64 bits. -/
@[simp] theorem State.rg_setRg (k : RegKind) (v i j : Nat) : (s.setRg k v i j).rg k i j = v % 2 ^ 64 := by
  simp only [State.rg, State.setRg, tabGet_tabSet_same, BitVec.toNat_ofNat]

/-- Writing a register leaves every register at another place as it was. -/
theorem State.rg_setRg_ne (k k' : RegKind) (v i j i' j' : Nat) (h : Reg.offset ⟨k', i', j'⟩ ≠ Reg.offset ⟨k, i, j⟩) :
    (s.setRg k v i j).rg k' i' j' = s.rg k' i' j' := by
  simp only [State.rg, State.setRg]; rw [tabGet_tabSet_ne _ _ _ _ h]

theorem State.rg_lt (k : RegKind) (i j : Nat) : s.rg k i j < 2 ^ 64 := (tabGet _ s.regs _).isLt

@[simp] theorem State.rg_mod (k : RegKind) (i j : Nat) : s.rg k i j % 2 ^ 64 = s.rg k i j := Nat.mod_eq_of_lt (s.rg_lt k i j)

theorem State.rg_congr {s t : State} (h : t.regs = s.regs) (k : RegKind) (i j : Nat) : t.rg k i j = s.rg k i j := by
  simp [State.rg, h]

theorem State.fld_congr {s t : State} (h : t.regs = s.regs) (k : RegKind) (hi lo i j : Nat) : t.fld k hi lo i j = s.fld k hi lo i j := by
  simp [State.fld, State.rg_congr h]

theorem State.bit_congr {s t : State} (h : t.regs = s.regs) (k : RegKind) (b i j : Nat) : t.bit k b i j = s.bit k b i j := by
  simp [State.bit, State.rg_congr h]

/-- A field that is put into a number reads back. -/
theorem fieldOf_putField (hi lo v w : Nat) (h : lo ≤ hi) : fieldOf hi lo (putField hi lo v w) = v % 2 ^ (hi + 1 - lo) := by
  have e : hi + 1 = lo + (hi + 1 - lo) := by omega
  unfold fieldOf putField
  generalize hn : hi + 1 - lo = n at *
  rw [e, Nat.pow_add]
  have hL : 0 < 2 ^ lo := Nat.two_pow_pos lo
  have hN : 0 < 2 ^ n := Nat.two_pow_pos n
  generalize 2 ^ lo = L at *
  generalize 2 ^ n = N at *
  have key : (w % L + v % N * L + w / (L * N) * (L * N)) = w % L + L * (v % N + N * (w / (L * N))) := by
    rw [Nat.mul_add]; ring_nf
  rw [key, Nat.add_mul_div_left _ _ hL, Nat.div_eq_of_lt (Nat.mod_lt _ hL), Nat.zero_add, Nat.add_mul_mod_self_left, Nat.mod_mod]

/-- Putting a field leaves the bits below and above it alone. -/
theorem putField_low (hi lo v w : Nat) (h : lo ≤ hi) : putField hi lo v w % 2 ^ lo = w % 2 ^ lo := by
  have e : hi + 1 = lo + (hi + 1 - lo) := by omega
  unfold putField
  rw [e, Nat.pow_add]
  generalize hn : lo + (hi + 1 - lo) - lo = n
  have hL : 0 < 2 ^ lo := Nat.two_pow_pos lo
  generalize 2 ^ lo = L at *
  generalize 2 ^ (hi + 1 - lo) = N at *
  have key : w % L + v % 2 ^ n * L + w / (L * N) * (L * N) = w % L + L * (v % 2 ^ n + N * (w / (L * N))) := by
    rw [Nat.mul_add]; ring_nf
  rw [key, Nat.add_mul_mod_self_left, Nat.mod_mod]

end Sys2Proof.Machine
end

