-- ==== Sys2Proof/Laws/Step.lean ====
section
/-! SUPPORT. How commands act: what `live`, `liveAt`, `unlocked` and Time's passing do in a part that runs, and what a step is. -/

namespace Sys2Proof.Machine

variable {s t : State}

/-! ### What a command leaves alone of what it did -/

/-- Of a port's frames that waited, some go out. -/
theorem State.fnzDrain_eq (s : State) : ∃ a w, s.fnzDrain = { s with fenuz := { s.fenuz with tx := a, txWait := w } } := by
  unfold State.fnzDrain
  dsimp only
  split
  · exact ⟨_, _, rfl⟩
  · exact ⟨s.fenuz.tx, s.fenuz.txWait, rfl⟩

/-- A frame that leaves a port, or waits there, changes nothing but the frames sent and those that wait. -/
theorem State.fnzPut_eq (s : State) (p : Nat) (b : List Byte) :
    ∃ a w, s.fnzPut p b = { s with fenuz := { s.fenuz with tx := a, txWait := w } } := by
  obtain ⟨a, w, h⟩ := s.fnzDrain_eq
  unfold State.fnzPut
  rw [h]
  dsimp only
  split
  · exact ⟨a, w, rfl⟩
  · split
    · exact ⟨a, _, rfl⟩
    · exact ⟨_, w, rfl⟩

/-- What a command's end adds to its effect: vectors that a host reset left IDLE and whose cause has gone, and frames that a port need
not keep queued any longer. -/
theorem State.afterwards_eq (t : State) : ∃ i a w, t.afterwards = { t with
    irc := { t.irc with idled := i }, fenuz := { t.fenuz with tx := a, txWait := w }
    power := { t.power with warmDue := false } } := by
  obtain ⟨a, w, h⟩ := t.idledNow.fnzDrain_eq
  exact ⟨_, a, w, by rw [State.afterwards, h]; rfl⟩

/-- Beside the queue and the accesses in progress, a command keeps of its effect all but a Time that would go back (R29). -/
theorem noRewind_eq (s t : State) : ∃ i a w m, noRewind s t = { t with
    pending := s.pending, acting := s.acting, irc := { t.irc with idled := i }
    fenuz := { t.fenuz with tx := a, txWait := w }, power := { t.power with warmDue := false }, time := m } := by
  obtain ⟨i, a, w, h⟩ := t.afterwards_eq
  unfold noRewind aside
  rw [h]
  dsimp only
  split
  · exact ⟨i, a, w, _, rfl⟩
  · exact ⟨i, a, w, t.time, rfl⟩

@[simp] theorem noRewind_pending : (noRewind s t).pending = s.pending := by obtain ⟨i, a, w, m, h⟩ := noRewind_eq s t; rw [h]
@[simp] theorem noRewind_acting : (noRewind s t).acting = s.acting := by obtain ⟨i, a, w, m, h⟩ := noRewind_eq s t; rw [h]
@[simp] theorem noRewind_bus : (noRewind s t).bus = t.bus := by obtain ⟨i, a, w, m, h⟩ := noRewind_eq s t; rw [h]
@[simp] theorem noRewind_regs : (noRewind s t).regs = t.regs := by obtain ⟨i, a, w, m, h⟩ := noRewind_eq s t; rw [h]
@[simp] theorem noRewind_latent : (noRewind s t).latent = t.latent := let ⟨_, _, _, _, h⟩ := noRewind_eq s t; h ▸ rfl
@[simp] theorem noRewind_log : (noRewind s t).log = t.log := by obtain ⟨i, a, w, m, h⟩ := noRewind_eq s t; simp only [h]
@[simp] theorem noRewind_errFifo : (noRewind s t).errFifo = t.errFifo := let ⟨_, _, _, _, h⟩ := noRewind_eq s t; h ▸ rfl
@[simp] theorem noRewind_mbx : (noRewind s t).mbx = t.mbx := by obtain ⟨i, a, w, m, h⟩ := noRewind_eq s t; rw [h]
@[simp] theorem noRewind_snima : (noRewind s t).snima = t.snima := by obtain ⟨i, a, w, m, h⟩ := noRewind_eq s t; simp only [h]
@[simp] theorem noRewind_drives : (noRewind s t).drives = t.drives := by obtain ⟨i, a, w, m, h⟩ := noRewind_eq s t; rw [h]
@[simp] theorem noRewind_flash : (noRewind s t).flash = t.flash := let ⟨_, _, _, _, h⟩ := noRewind_eq s t; h ▸ rfl
@[simp] theorem noRewind_vault : (noRewind s t).vault = t.vault := let ⟨_, _, _, _, h⟩ := noRewind_eq s t; h ▸ rfl
@[simp] theorem noRewind_crypto : (noRewind s t).crypto = t.crypto := by obtain ⟨i, a, w, m, h⟩ := noRewind_eq s t; simp only [h]
@[simp] theorem noRewind_store : (noRewind s t).store = t.store := by obtain ⟨i, a, w, m, h⟩ := noRewind_eq s t; rw [h]
@[simp] theorem noRewind_arb : (noRewind s t).arb = t.arb := let ⟨_, _, _, _, h⟩ := noRewind_eq s t; h ▸ rfl
@[simp] theorem noRewind_events : (noRewind s t).events = t.events := by obtain ⟨i, a, w, m, h⟩ := noRewind_eq s t; simp only [h]
@[simp] theorem noRewind_strikes : (noRewind s t).strikes = t.strikes := by obtain ⟨i, a, w, m, h⟩ := noRewind_eq s t; simp only [h]
@[simp] theorem noRewind_ports : (noRewind s t).ports = t.ports := by obtain ⟨i, a, w, m, h⟩ := noRewind_eq s t; rw [h]
@[simp] theorem noRewind_links : (noRewind s t).links = t.links := let ⟨_, _, _, _, h⟩ := noRewind_eq s t; h ▸ rfl
@[simp] theorem noRewind_stale : (noRewind s t).stale = t.stale := by obtain ⟨i, a, w, m, h⟩ := noRewind_eq s t; rw [h]
@[simp] theorem noRewind_ext : (noRewind s t).ext = t.ext := by obtain ⟨i, a, w, m, h⟩ := noRewind_eq s t; simp only [h]
@[simp] theorem noRewind_power : (noRewind s t).power = { t.power with warmDue := false } :=
  let ⟨_, _, _, _, h⟩ := noRewind_eq s t; h ▸ rfl
@[simp] theorem noRewind_ana : (noRewind s t).ana = t.ana := by obtain ⟨i, a, w, m, h⟩ := noRewind_eq s t; rw [h]
@[simp] theorem noRewind_side : (noRewind s t).side = t.side := by obtain ⟨i, a, w, m, h⟩ := noRewind_eq s t; rw [h]
@[simp] theorem noRewind_fetch : (noRewind s t).fetch = t.fetch := let ⟨_, _, _, _, h⟩ := noRewind_eq s t; h ▸ rfl
@[simp] theorem noRewind_sqs : (noRewind s t).sqs = t.sqs := by obtain ⟨i, a, w, m, h⟩ := noRewind_eq s t; simp only [h]
@[simp] theorem noRewind_cqs : (noRewind s t).cqs = t.cqs := by obtain ⟨i, a, w, m, h⟩ := noRewind_eq s t; rw [h]
@[simp] theorem noRewind_movers : (noRewind s t).movers = t.movers := let ⟨_, _, _, _, h⟩ := noRewind_eq s t; h ▸ rfl
@[simp] theorem noRewind_moverWait : (noRewind s t).moverWait = t.moverWait := by obtain ⟨i, a, w, m, h⟩ := noRewind_eq s t; simp only [h]
@[simp] theorem noRewind_chans : (noRewind s t).chans = t.chans := let ⟨_, _, _, _, h⟩ := noRewind_eq s t; h ▸ rfl

/-- Time after a command is the later of what it was and what the command left (R29). -/
@[simp] theorem noRewind_now : (noRewind s t).time.now = max s.time.now t.time.now := by
  obtain ⟨i, a, w, h⟩ := t.afterwards_eq
  unfold noRewind aside
  rw [h]
  dsimp only
  split
  · exact (Nat.max_eq_left (Nat.le_of_lt ‹_›)).symm
  · exact (Nat.max_eq_right (Nat.not_lt.1 ‹_›)).symm

/-- Where Time does not go back, the command's effect is all there is, beside the queue and what its end adds. -/
theorem noRewind_of_le (h : s.time.now ≤ t.time.now) : noRewind s t = aside s t.afterwards := by
  obtain ⟨i, a, w, e⟩ := t.afterwards_eq
  have now : t.afterwards.time = t.time := by rw [e]
  unfold noRewind
  dsimp only
  rw [now, if_neg (Nat.not_lt.2 h)]

/-! ### How commands act -/

/-- In a part that runs, a command has its effect. -/
theorem live_running (h : Running s) (f : State → State) : live s f = .next (noRewind s (f s)) := by
  simp only [Running] at h; simp only [live, h, Bool.false_eq_true, if_false]

/-- In cold reset nothing answers (R387). -/
theorem live_reset (h : s.power.coldReset = true) (f : State → State) : live s f = .next s := by simp [live, h]

/-- Every live command answers a next state, keeps the queue, and leaves Time where it was or later. -/
theorem live_spec (s : State) (f : State → State) :
    ∃ t, live s f = .next t ∧ t.pending = s.pending ∧ s.time.now ≤ t.time.now := by
  refine ⟨_, rfl, ?_⟩
  split
  · exact ⟨rfl, Nat.le_refl _⟩
  · simp

theorem liveAt_running (h : Running s) (now : Nat) (f : State → State) : liveAt s now f = .next (noRewind s (f (s.pass now))) :=
  live_running h _

/-- Accesses of the store that are granted at once leave a command its effect. -/
theorem State.orWaits_granted (h : s.granted t = true) : s.orWaits t = t := by
  simp only [State.granted, Option.isNone_iff_eq_none] at h
  simp only [State.orWaits, h, ite_self]

theorem liveM_granted {f : State → State} (h : Running s) (g : s.granted (f s) = true) : liveM s f = .next (noRewind s (f s)) := by
  rw [liveM, live_running h, State.orWaits_granted g]

theorem liveMAt_granted {now : Nat} {f : State → State} (h : Running s) (g : (s.pass now).granted (f (s.pass now)) = true) :
    liveMAt s now f = .next (noRewind s (f (s.pass now))) := by
  rw [liveMAt, live_running h, State.orWaits_granted g]

theorem liveC_granted {f : State → State} (h : Running s) (g : s.granted (f s).follows = true) :
    liveC s f = .next (noRewind s (f s).follows) := by
  rw [liveC, live_running h, State.orWaits_granted g]

theorem liveCAt_granted {now : Nat} {f : State → State} (h : Running s)
    (g : (s.pass now).granted (f (s.pass now)).follows = true) : liveCAt s now f = .next (noRewind s (f (s.pass now)).follows) := by
  rw [liveCAt, live_running h, State.orWaits_granted g]

theorem unlocked_free (h : s.locked = false) (f : State → State) : unlocked f s = f s := by simp [unlocked, h]

theorem unlocked_locked (h : s.locked = true) (f : State → State) : unlocked f s = s := by simp [unlocked, h]

theorem freeM_granted {f : State → State} (h : Free s) (g : s.granted (f s) = true) : freeM s f = .next (noRewind s (f s)) := by
  rw [freeM, live_running h.1, unlocked_free h.2, State.orWaits_granted g]

theorem freeC_granted {f : State → State} (h : Free s) (g : s.granted (f s).follows = true) :
    freeC s f = .next (noRewind s (f s).follows) := by
  rw [freeC, live_running h.1, unlocked_free h.2, State.orWaits_granted g]

theorem freeM_locked (h : Running s) (l : s.locked = true) (f : State → State) : freeM s f = .next (noRewind s s) := by
  rw [freeM, live_running h, unlocked_locked l]

theorem freeC_locked (h : Running s) (l : s.locked = true) (f : State → State) : freeC s f = .next (noRewind s s) := by
  rw [freeC, live_running h, unlocked_locked l]

/-- The growth of ALIGN changes TIME_UNC and the time core's own marks, and nothing else. -/
theorem State.growAlign_cases (s : State) (now : Nat) :
    s.growAlign now = s ∨ ∃ v m, s.growAlign now = { s.setFld .timeUnc 63 32 v with time := m } := by
  unfold State.growAlign
  split
  · exact .inl rfl
  · dsimp only
    generalize satAdd 0xFFFFFFFF _ _ = v
    exact .inr ⟨v, _, rfl⟩

/-- Time's passing changes no register but TIME_UNC. -/
theorem State.pass_rg (s : State) (now : Nat) (k : RegKind) (i j : Nat) (h : Reg.offset ⟨k, i, j⟩ ≠ Reg.offset ⟨.timeUnc, 0, 0⟩) :
    (s.pass now).rg k i j = s.rg k i j := by
  have timed : ∀ (u : State) (m : TimeCore), ({ u with time := m } : State).rg k i j = u.rg k i j := fun _ _ => rfl
  unfold State.pass
  split
  · rfl
  · dsimp only
    rw [timed]
    rcases s.growAlign_cases now with e | ⟨v, m, e⟩
    · rw [e]
    · rw [e, timed]; unfold State.setFld; exact State.rg_setRg_ne _ _ _ _ _ _ _ _ h

/-- Time's passing leaves Lockdown as it is. -/
@[simp] theorem State.pass_locked (s : State) (now : Nat) : (s.pass now).locked = s.locked := by
  unfold State.locked State.fld
  rw [State.pass_rg s now .gctlLock 0 0 (by decide)]

theorem freeCAt_granted {now : Nat} {f : State → State} (h : Free s)
    (g : (s.pass now).granted (f (s.pass now)).follows = true) : freeCAt s now f = .next (noRewind s (f (s.pass now)).follows) := by
  rw [freeCAt, live_running h.1, unlocked_free ((State.pass_locked _ _).trans h.2), State.orWaits_granted g]

theorem freeCAt_locked (h : Running s) (l : s.locked = true) (now : Nat) (f : State → State) :
    freeCAt s now f = .next (noRewind s (s.pass now)) := by
  rw [freeCAt, live_running h, unlocked_locked ((State.pass_locked _ _).trans l)]

/-- Time's passing never takes it back. -/
theorem State.le_pass_now (s : State) (now : Nat) : s.time.now ≤ (s.pass now).time.now := by
  unfold State.pass
  split
  · exact Nat.le_refl _
  · rename_i h
    simp only [not_or, Nat.not_le] at h
    exact Nat.le_of_lt h.1

theorem Running.pass (h : Running s) (now : Nat) : Running (s.pass now) := by simpa [Running] using h

theorem Free.pass (h : Free s) (now : Nat) : Free (s.pass now) := ⟨h.1.pass now, by simpa using h.2⟩

/-- A step on a queue with a command at its front. -/
theorem step_cons (c : Instr) (r : List Instr) (h : s.pending = c :: r) : step s = exec c { s with pending := r } := by
  simp [step, h]

theorem step_nil (h : s.pending = []) : step s = .next s := by simp [step, h]

end Sys2Proof.Machine
end

