-- ==== Sys2Proof/Laws/Exec.lean ====
section
/-! SUPPORT. Every command of the part but those of power, the TAP, the sideband, the tamper sensors and the levels of reset and presence
pins leaves a part in cold reset alone, and else does no more than an effect that `noRewind` bounds. -/

namespace Sys2Proof.Machine

/-- A command that cold reset holds acts through `live`, but for the one that may step Time back. -/
theorem exec_live (c : Instr) (s : State) (h : actsInColdReset c = false) (h' : setsTimeBack c = false) :
    ∃ f, exec c s = live s f := by
  have effect : ∃ u, exec c s = .next (if s.power.coldReset then s else noRewind s u) := by
    cases c <;> first
      | (cases h; done)
      | (cases h'; done)
      | exact ⟨_, rfl⟩
  obtain ⟨u, e⟩ := effect
  exact ⟨fun _ => u, e⟩

end Sys2Proof.Machine
end

