-- ==== Sys2Proof/Laws/Ops.lean ====
section
/-! SUPPORT. What the shared operations can change: each lemma names every field of the state that an operation may touch, so that the
rest stays as it was, and says that Time stands still. -/

namespace Sys2Proof.Machine

variable {s : State}

theorem State.addFld_eq (k : RegKind) (hi lo n i j : Nat) : ∃ r, s.addFld k hi lo n i j = { s with regs := r } := by
  unfold State.addFld; exact State.setFld_eq _ _ _ _ _ _ _

/-- A source's event changes nothing but the events that wait. -/
theorem State.emit_eq (src time hop : Nat) : ∃ v, s.emit src time hop = { s with events := v } := by
  unfold State.emit
  split
  · exact ⟨_, rfl⟩
  · split <;> exact ⟨_, rfl⟩

/-! ### Stamps, records and faults -/

/-- What stamps, records and faults may change: registers, Time's own counters (Time stands still), the log unit, the error FIFO and the
events that wait. -/
def Logged (s t : State) : Prop :=
  ∃ n m g q v, t = { s with regs := n, time := m, log := g, errFifo := q, events := v } ∧ m.now = s.time.now

theorem Logged.refl (s : State) : Logged s s := ⟨_, _, _, _, _, rfl, rfl⟩

theorem Logged.trans {s t u : State} (h : Logged s t) (k : Logged t u) : Logged s u := by
  obtain ⟨_, _, _, _, _, rfl, e⟩ := h
  obtain ⟨_, _, _, _, _, rfl, e'⟩ := k
  exact ⟨_, _, _, _, _, rfl, e'.trans e⟩

/-- A chain of such steps is one. -/
theorem Logged.fold {α : Type} {f : State → α → State} (h : ∀ t a, Logged t (f t a)) (l : List α) (s : State) : Logged s (l.foldl f s) := by
  induction l generalizing s with
  | nil => exact Logged.refl s
  | cons a l ih => exact (h s a).trans (ih (f s a))

theorem Logged.regs (s : State) (r : Tab Word) : Logged s { s with regs := r } := ⟨_, _, _, _, _, rfl, rfl⟩

theorem Logged.log (s : State) (g : LogUnit) : Logged s { s with log := g } := ⟨_, _, _, _, _, rfl, rfl⟩

/-- A Stamp changes nothing but the DOMAIN's SEQ and last TIME. -/
theorem State.stamp_logged (d after : Nat) : Logged s (s.stamp d after).2 := ⟨_, _, _, _, _, rfl, rfl⟩

/-- A record's entry into the drain FIFO. -/
theorem State.logPush_logged (r : LogRecord) : Logged s (s.logPush r) := by
  unfold State.logPush
  dsimp only
  split
  · generalize Option.getD _ _ = hop
    generalize ({ fifo := _, waiting := _, lostDue := _, since := _, hold := _, hops := _, hop := _ } : LogUnit) = g
    obtain ⟨v, e⟩ := State.emit_eq (s := { s with log := g }) 0x1F0 (r.stamp.time + 1) hop
    exact ⟨s.regs, s.time, g, s.errFifo, v, e, rfl⟩
  · exact Logged.log s _

/-- The LOG_LOST record. -/
theorem State.logLost_logged : Logged s s.logLost := by
  unfold State.logLost
  split
  · exact Logged.refl s
  · exact (State.stamp_logged 0 0).trans ((Logged.log _ _).trans (State.logPush_logged _))

/-- A record that is logged always. -/
theorem State.logAlways_logged (r : LogRecord) : Logged s (s.logAlways r) := by
  unfold State.logAlways
  dsimp only
  split
  · exact State.logLost_logged.trans (Logged.log _ _)
  · exact State.logLost_logged.trans (State.logPush_logged r)

/-- A record that waited and enters. -/
theorem State.logEnter_logged : Logged s s.logEnter := by
  unfold State.logEnter
  dsimp only
  split
  · split
    · exact State.logLost_logged.trans ((Logged.log _ _).trans (State.logPush_logged _))
    · exact State.logLost_logged
  · exact State.logLost_logged

theorem State.logTurn_logged (d : Nat) : Logged s (s.logTurn d) := by
  unfold State.logTurn
  split
  · exact Logged.fold (fun _ _ => State.logEnter_logged) _ s
  · exact Logged.refl s

/-- A record of a class that is enabled may also count in LOG_LOST. -/
theorem State.logKept_logged (r : LogRecord) : Logged s (s.logKept r) := by
  unfold State.logKept
  dsimp only
  have turn : Logged s (s.logLost.logTurn r.stamp.domain) := State.logLost_logged.trans (State.logTurn_logged _)
  generalize s.logLost.logTurn r.stamp.domain = t at turn ⊢
  refine turn.trans ?_
  split
  · obtain ⟨n, e⟩ := State.addFld_eq (s := t) .logLost 31 0 1 0 0
    rw [e]
    exact ⟨_, _, _, _, _, rfl, rfl⟩
  · exact State.logPush_logged r

theorem State.logClass_logged (b : Nat) (r : LogRecord) : Logged s (s.logClass b r) := by
  unfold State.logClass
  split
  · exact State.logKept_logged r
  · exact Logged.refl s

/-- A record's entry into the error FIFO may count in FLT_ERR_LOST instead. -/
theorem State.errPush_logged (r : LogRecord) : Logged s (s.errPush r) := by
  unfold State.errPush
  split
  · obtain ⟨n, e⟩ := State.addFld_eq (s := s) .fltErrLost 31 0 1 0 0
    rw [e]
    exact Logged.regs s n
  · exact ⟨_, _, _, _, _, rfl, rfl⟩

/-- A FAULT record. -/
theorem State.fault_logged (d sub unit a b after hop : Nat) : Logged s (s.fault d sub unit a b after hop) := by
  unfold State.fault
  dsimp only
  refine (State.logLost_logged.trans (State.stamp_logged d after)).trans ?_
  split
  · exact (State.errPush_logged _).trans (State.logAlways_logged _)
  · exact (Logged.log _ _).trans ((State.errPush_logged _).trans (State.logAlways_logged _))

/-- A stale completion's record. -/
theorem State.staleRecord_logged (d sub unit a b : Nat) : Logged s (s.staleRecord d sub unit a b) := by
  unfold State.staleRecord
  dsimp only
  obtain ⟨r, e⟩ := State.addFld_eq (s := s) .fltStale 31 0 1 0 0
  rw [e]
  exact (Logged.regs s r).trans ((State.stamp_logged d 0).trans ((State.errPush_logged _).trans (State.logAlways_logged _)))

/-! ### The Central Store -/

/-- What meeting a word in error may change: all that a record changes, and of the store its words' states and its lists of pages; the
bytes and the remapping stay. -/
def Marked (s t : State) : Prop :=
  ∃ n m g q v w i l u, t = { s with
    regs := n, time := m, log := g, errFifo := q, events := v
    store := { s.store with words := w, windows := i, lasting := l, unret := u } } ∧ m.now = s.time.now

theorem Marked.refl (s : State) : Marked s s := ⟨_, _, _, _, _, _, _, _, _, rfl, rfl⟩

theorem Marked.trans {s t u : State} (h : Marked s t) (k : Marked t u) : Marked s u := by
  obtain ⟨_, _, _, _, _, _, _, _, _, rfl, e⟩ := h
  obtain ⟨_, _, _, _, _, _, _, _, _, rfl, e'⟩ := k
  exact ⟨_, _, _, _, _, _, _, _, _, rfl, e'.trans e⟩

theorem Marked.fold {α : Type} {f : State → α → State} (h : ∀ t a, Marked t (f t a)) (l : List α) (s : State) : Marked s (l.foldl f s) := by
  induction l generalizing s with
  | nil => exact Marked.refl s
  | cons a l ih => exact (h s a).trans (ih (f s a))

/-- Records change less than words in error do. -/
theorem Logged.marked {s t : State} (h : Logged s t) : Marked s t := by
  obtain ⟨_, _, _, _, _, rfl, e⟩ := h
  exact ⟨_, _, _, _, _, _, _, _, _, rfl, e⟩

/-- The state of a word, the windows and the lists of pages. -/
theorem Marked.pages (s : State) (w : List (Nat × WordState)) (i : List PageWindow) (l u : List Nat) :
    Marked s { s with store := { s.store with words := w, windows := i, lasting := l, unret := u } } :=
  ⟨_, _, _, _, _, _, _, _, _, rfl, rfl⟩

theorem State.stayInPlace_marked : Marked s s.stayInPlace := by
  unfold State.stayInPlace
  split
  · exact Marked.refl s
  · exact Marked.fold (fun t p => (Marked.pages t t.store.words t.store.windows t.store.lasting _).trans
      (State.fault_logged _ _ _ _ _ _ _).marked) _ s

/-- A page that becomes lasting. -/
theorem State.pageLasting_marked (p : Nat) : Marked s (s.pageLasting p) := by
  unfold State.pageLasting
  split
  · exact Marked.refl s
  · exact (Marked.pages s s.store.words s.store.windows _ s.store.unret).trans State.stayInPlace_marked

/-- A corrected event. -/
theorem State.corrected_marked (who w : Nat) : Marked s (s.corrected who w) := by
  unfold State.corrected
  dsimp only
  generalize windowStep _ _ _ _ = x
  have first := Marked.pages s (tabSet .sound s.store.words w .sound) x.1 s.store.lasting s.store.unret
  generalize ({ s with store := { s.store with windows := x.1, words := tabSet .sound s.store.words w .sound } } : State) = t at first ⊢
  obtain ⟨r1, e1⟩ := State.addFld_eq (s := t) .cstStat 31 0 1 0 0
  rw [e1]
  obtain ⟨r2, e2⟩ := State.addFld_eq (s := { t with regs := r1 }) .cstSeg 47 32 1 (segOf (w * 8)) 0
  rw [e2]
  obtain ⟨r, hy⟩ := State.setRg_eq (s := { t with regs := r2 }) .cstLast (w * 8) 0 0
  rw [hy]
  have second := (first.trans (Logged.regs t r).marked).trans
    (State.fault_logged 0x61 0x06 (segOf (w * 8)) (who + min x.2 255 * 2 ^ 16) (w * 8) 0 0).marked
  split
  · exact second.trans (State.pageLasting_marked _)
  · exact second

/-- A read of an uncorrectable word. -/
theorem State.uncorrectable_marked (who w : Nat) : Marked s (s.uncorrectable who w) := by
  unfold State.uncorrectable
  dsimp only
  obtain ⟨r1, e1⟩ := State.addFld_eq (s := s) .cstStat 63 48 1 0 0
  rw [e1]
  generalize 2 ^ 63 + w * 8 = z
  obtain ⟨r, hy⟩ := State.setRg_eq (s := { s with regs := r1 }) .cstLast z 0 0
  rw [hy]
  exact ((Logged.regs s r).trans (State.fault_logged _ _ _ _ _ _ _)).marked.trans (State.pageLasting_marked _)

/-- A read of one word leaves the store's bytes and remapping, and Time. -/
theorem State.readWord_marked (who w : Nat) : Marked s (s.readWord who w) := by
  unfold State.readWord
  split
  · exact Marked.refl s
  · exact State.corrected_marked who w
  · exact State.uncorrectable_marked who w

/-! ### Channels and Snima -/

/-- A channel as it stands after the sums of its time spent retrying have moved on. -/
def Retried (x y : Chan) : Prop := ∃ a b d, y = { x with retrySince := a, heldRun := b, graceUsed := d }

theorem Retried.refl (x : Chan) : Retried x x := ⟨_, _, _, rfl⟩

theorem Retried.trans {x y z : Chan} (h : Retried x y) (k : Retried y z) : Retried x z := by
  obtain ⟨a, b, d, rfl⟩ := h
  obtain ⟨a', b', d', rfl⟩ := k
  exact ⟨a', b', d', rfl⟩

/-- A channel's retrying is set anew: only that channel's sums change. -/
theorem State.retryCheck_eq (c : Nat) : ∃ l, s.retryCheck c = { s with chans := l } ∧ ∀ n, Retried (s.chan n) (tabGet chan0 l n) := by
  have put : ∀ x, Retried (s.chan c) x → ∃ l, s.setChan c x = { s with chans := l } ∧ ∀ n, Retried (s.chan n) (tabGet chan0 l n) := by
    intro x hx
    refine ⟨_, rfl, fun n => ?_⟩
    by_cases h : n = c
    · subst h; rw [tabGet_tabSet_same]; exact hx
    · rw [tabGet_tabSet_ne _ _ _ _ h]; exact Retried.refl _
  unfold State.retryCheck
  dsimp only
  split
  · unfold State.retryBegins
    dsimp only
    split
    · exact ⟨_, rfl, fun n => Retried.refl _⟩
    · exact put _ ⟨_, _, _, rfl⟩
  · split
    · unfold State.retryEnds
      exact put _ ⟨_, _, _, rfl⟩
    · exact ⟨_, rfl, fun n => Retried.refl _⟩

/-- What follows a command that may change what channels have outstanding: only the sums of their time spent retrying change. -/
theorem State.retrySync_eq : ∃ l, s.retrySync = { s with chans := l } ∧ ∀ n, Retried (s.chan n) (tabGet chan0 l n) := by
  have fold : ∀ (r : List Nat) (t : State), ∃ l, r.foldl (fun t c => t.retryCheck c) t = { t with chans := l } ∧
      ∀ n, Retried (t.chan n) (tabGet chan0 l n) := by
    intro r
    induction r with
    | nil => exact fun t => ⟨_, rfl, fun n => Retried.refl _⟩
    | cons c r ih =>
      intro t
      obtain ⟨l, e, h⟩ := State.retryCheck_eq (s := t) c
      obtain ⟨l', e', h'⟩ := ih (t.retryCheck c)
      rw [List.foldl_cons, e', e]
      refine ⟨l', rfl, fun n => (h n).trans ?_⟩
      have k := h' n
      rw [e] at k
      exact k
  unfold State.retrySync
  split
  · exact fold _ _
  · exact ⟨_, rfl, fun n => Retried.refl _⟩

/-- A mailbox command that Snima takes and lets through runs its handler, and its turn ends. -/
theorem snimaAct_takes {s t u : State} {c cmd cls : Nat} {ln : List Byte → Bool} {h : Handler} {q : Pending} {drop : Bool} {turn : Turn}
    (h1 : s.snimaUp = true ∧ (drawsRandom cmd && s.snima.kats.any (·.1 = 3)) = false ∧ (s.box c).busy = none ∧
      ∃ v, s.takeMsg c (fun n => n = cmd) = some (q, v) ∧ msgEpoch q.msg = v.epoch c false ∧ v.gate c cls true ln q.msg = (.pass drop, t))
    (h2 : h c (bodyOf c q.msg) none t = (turn, u)) : s.snimaAct c cmd cls ln h = (u.nonceSpent c cmd).endTurn c q true drop turn := by
  obtain ⟨a, k, b, w, e1, e2, e3⟩ := h1
  simp only [State.snimaAct, a, Bool.true_and, k, Bool.false_eq_true, if_false, if_true, b]
  simp [e1, e2, e3, h2]

end Sys2Proof.Machine
end

