-- ==== Sys2Proof/Tests/Slice0.lean ====
section
/-! SUPPORT. Tests. The ill-formed commands that each check of WellFormed refuses; the spec's own worked examples; and, for every
statement that has hypotheses, a concrete state and operands that meet them: `witness_<statement>` lists, clause by clause and in the
statement's order, the hypotheses with their values put in (a variable that only names a result is left out, since it is defined by its
equation). A clause whose only hypothesis is that the part runs, or is free to run, is met by `up`. -/

set_option Elab.async false

namespace Sys2Proof.Tests

open Sys2Proof Sys2Proof.Machine

/-- The part as reset leaves it, out of cold reset. -/
def up : State := { State.reset with power := { State.reset.power with coldReset := false } }

/-- The part in Lockdown. -/
def lockedUp : State := up.setFld .gctlLock 1 0 2

/-- The part with Snima running. -/
def snimaOn : State := up.setFld .gctlBoot 2 0 4

/-- The part with a pending vector of port B. -/
def msixPart : State :=
  ((((up.setRg .ircPost 1 0x11).setBit .ircSrc 0 true 0x11).setFld .ircSrc 26 24 5 0x11).setPort 1 { port0
    with msixEnable := true, busMaster := true }).setMsix
    1 0 ⟨0, 0, false⟩

/-- A log record. -/
def rec0 : LogRecord := ⟨⟨1, 2, 3, 4⟩, 0x0D, 0, 0, 0, 0⟩

/-- A mailbox message of a command without payload. -/
def ask0 (cmd c : Nat) : List Byte := natLe 2 cmd ++ natLe 5 0 ++ natLe 1 c ++ natLe 4 1 ++ natLe 4 0

/-- A channel command of an opcode. -/
def cmdOf (opc : Nat) : Cmd := ⟨opc, 0, 0, 0, 0, 0, 0, 0, 0, 0, 0, 0, 0, true⟩

/-- A channel that executes a command. -/
def doing (x : Cmd) : Chan := { chan0 with phase := .active, chain := [⟨0x1000, x, none⟩] }

/-- The part with one channel, 5. -/
def withChan (x : Chan) : State := up.setChan 5 x

/-- The part with submission queue 3, and with completion queue 3. -/
def withSq (x : Sq) : State := up.setSq 3 { x with exists_ := true }
def withCq (x : Cq) : State := up.setCq 3 { x with exists_ := true }

/-- The part with mover 2. -/
def withMover (x : Mover) : State := up.setMover 2 x

/-- The part with submission queue 3 whose configuration register reads as given and is in use, and with completion queue 3 so. -/
def cfgSq (cfg : Nat) (x : Sq) : State := (withSq { x with conf := { conf0 with cfg := cfg } }).setRg .sqCfg cfg 3
def cfgCq (cfg : Nat) (x : Cq) : State := (withCq { x with conf := { conf0 with cfg := cfg } }).setRg .cqCfg cfg 3

/-- The part with submission queue 3, whose channels are 5 alone. -/
def chanSq (x : Sq) : State := withSq { x with conf := { conf0 with chan := 2 ^ 16 + 5 } }

/-- An accepted entry. -/
def entry (sop : Nat) : HeldEntry := ⟨1, sop, 0x1000, 0, 0, 7, 0, 0⟩

/-- A transfer, and a burst of it. -/
def xfer : Transfer :=
  { kind := .copy, op := 1, zs := 4, zd := 0, src := 0x1000, dst := 0x2000, count := 64, total := 64, pside := 0, pidx := 0, pattern := none
    fill := 0, desc := false, dry := false, place := true, chan := none, base := 0, hop := 0, next := 0, last := true, bursts := []
    carry := [], words := [], failed := none, canceled := false, cause := 0 }
def burst (st : BurstStage) : Burst :=
  { num := 0, lo := 0, hi := 64, side := 0, stage := st, wz := 0, wpos := 0, out := [], credits := [], data := [], issued := 0
    link := none, ord := 0 }

/-- The part in which P-521 engine 3 serves channel 5 on mover 2 for an opcode, with a secret scalar and a private key. -/
def p521Xfer : Transfer := { xfer with chan := some 5 }
def p521Part (o : Nat) (secret key : List Byte) : State :=
  let x : Chan := { doing { cmdOf o with sess := 1 } with stage := .p521Run, session := some (1, 1), stream := { stream0 with iv := secret } }
  (({ up with crypto := { up.crypto with p521 := [(3, some 5)], cache := [⟨1, 1, [], 4, key, 0, true, true, [5]⟩] } }).setMover 2
    { mover0 with owner := some 5, active := some p521Xfer }).setChan 5 x

/-- A completion entry. -/
def cqe0 : Cqe := ⟨1, 0, 3, 0, false, 0, 0⟩

/-- A part that is node 5 of fleet 9, and one that joins it with node 2 as its sponsor; a Fenuz frame from node 2 with a payload of
zeros. -/
def fleetPart : State :=
  { snimaOn.setBit .fnzPort 0 true 1 with vault := { up.vault with member := true, fleetId := 9, node := 5 } }
def joiner : State :=
  { snimaOn.setBit .fnzPort 0 true 1 with fenuz := { up.fenuz with join := some ⟨3, 2, 5, 0, [], [], [], [], [], [], 7, 1, 2, 0⟩ } }
def frm (kind sub fleet dst n : Nat) : Frame := ⟨true, frameBytes kind sub 5 7 2 dst fleet (List.replicate n 0)⟩

/-! ### Ill-formed commands, one for each check of WellFormed -/

theorem test_wf_refuses_a_master_id_of_nobody : (Instr.chnStop 0x11 5).wf = false := by decide
theorem test_wf_refuses_an_offset_outside_the_space : (Instr.registerWrite 0 0x4000000 .full 0).wf = false := by decide
theorem test_wf_refuses_a_time_of_81_bits : (Instr.announcePeriod (2 ^ 80)).wf = false := by decide
theorem test_wf_refuses_link_widths_and_speeds :
    (Instr.linkWidthChange 1 3).wf = false ∧ (Instr.linkSpeedChange 1 0).wf = false ∧ (Instr.dlUp 1 0 16 false).wf = false := by decide
theorem test_wf_refuses_a_link_event_of_no_kind : (Instr.linkCe 1 0 5).wf = false := by decide
theorem test_wf_refuses_a_long_frame : (Instr.hello 1 ⟨true, List.replicate 1501 0⟩).wf = false := by decide +kernel
theorem test_wf_refuses_a_long_burst : (Instr.cont 1 (.ok (List.replicate 513 0))).wf = false := by decide +kernel
theorem test_wf_refuses_bad_link_requests :
    (Instr.inboundMemoryRequest 0 (.read (.bar 0 0) 0 [])).wf = false ∧ (Instr.configSpaceWrite 1 (.maxPayload 64)).wf = false := by decide
theorem test_wf_refuses_a_window_of_part_of_an_entry : (Instr.windowDataReturn 3 [0, 0]).wf = false := by decide
theorem test_wf_refuses_a_scrub_read_of_nothing : (Instr.scrubRead 3 0 []).wf = false := by decide
theorem test_wf_refuses_a_queue_past_256 : (Instr.driveCqScan 1 257).wf = false := by decide
theorem test_wf_refuses_too_few_readings : (Instr.paceRefresh [] 0).wf = false := by decide
theorem test_wf_refuses_an_upset_outside_the_store : (Instr.scrubRead 3 1 [⟨2 ^ 27, false⟩]).wf = false := by decide

/-! ### The spec's worked examples -/

/-- Channel 0x2A7's block, its CHN_CTL, queue 0x0C1's Chime page and lock register 0x1F (after R53). -/
theorem test_map_example :
    Reg.offset ⟨.chnCtl, 0x2A7, 0⟩ = 0x10A9C00 ∧ Reg.offset ⟨.lckSem, 0x1F, 0⟩ = 0x18000F8 ∧
    placeOf (targetAddr (.bar 2 0xC1000)) = .chime 0xC1000 ∧ placeOf 0x10010A9C00 = .regs 0x10A9C00 := by decide +kernel

/-- The Stamp of mover 2 (R25). -/
theorem test_stamp_example :
    let x : Stamp := ⟨0x6B2C4E10400000044C, 0xC35, 0x22, 0x1F40⟩
    x.lo = 0x044C030D48801F40 ∧ x.hi = 0x006B2C4E10400000 := by decide +kernel

/-- The branches "any code other than OK" and "AUTH_FAIL and VERIFY_FAIL alike" (R218). -/
theorem test_branch_examples :
    [0x00, 0x01, 0x30].map (branchTaken 0x100FF) = [false, true, true] ∧
    [0x30, 0x31, 0x40].map (branchTaken 0x30F0) = [true, true, false] := by decide

/-- The completion entry of SQ 0x0C1 (after R151), P 1 added. -/
theorem test_cqe_example : (⟨4, 4, 0xC1, 0x23, true, 9, 0⟩ : Cqe).word + 1 = 0x0004000400C12303 := by decide

/-- Slot 5 of CQ 0x0C1 in Ballast (R153). -/
theorem test_ballast_example : up.ballastAddr 0xC1 5 = 0x081C20A0 := by decide +kernel

/-- The pattern that gathers two columns (after R242): its words, its span, and where its stream begins each row of the table. -/
theorem test_gather_example :
    (parsePattern (natLe 8 0x80001 ++ natLe 8 0x200000004 ++ natLe 8 0x40000000002 ++ natLe 8 0x40 ++ natLe 8 0x10000 ++ natLe 24
      0)).map
      (fun p => (p.span, [0, 8, 32, 71, 127].map (fun i => p.addr 0x25000000 i (fun _ => 0))))
    = some (128, [0x25000000, 0x25000400, 0x25000040, 0x25010007, 0x25010C47]) := by decide +kernel

/-! ### Known answers of the algorithms that R256 names -/

/-- The check value of SMBus's CRC-8, over the digits 1 to 9. -/
theorem test_pec_of_the_digits : smbusPec ((List.range 9).map (fun i => BitVec.ofNat 8 (0x31 + i))) = 0xF4 := by decide +kernel

/-- SHA-512 of "abc" (FIPS 180-4), and SHA3-256 of nothing (FIPS 202). -/
theorem test_hash_known_answers :
    (Algo.hash 3 (Algo.ascii ['a', 'b', 'c'])).take 8 = [0xDD, 0xAF, 0x35, 0xA1, 0x93, 0x61, 0x7A, 0xBA] ∧
    (Algo.hash 5 []).take 4 = [0xA7, 0xFF, 0xC6, 0xF8] := by decide +kernel

/-- The example of AES-256 (FIPS 197, appendix C.3), both ways. -/
theorem test_aes_known_answer :
    let ks := Algo.aesKeys ((List.range 32).map (BitVec.ofNat 8))
    let p := (List.range 16).map (fun i => BitVec.ofNat 8 (17 * i))
    (Algo.aesBlock true ks p).take 4 = [0x8E, 0xA2, 0xB7, 0xCA] ∧ Algo.aesBlock false ks (Algo.aesBlock true ks p) = p := by decide +kernel

/-- The base point of P-521 is on the curve, and its compressed form gives it back (SEC 1). -/
theorem test_base_point_is_on_the_curve :
    (Algo.decompress (2 :: Algo.natBe 66 Algo.baseX)).map (·.y) = some Algo.baseY := by decide +kernel

/-! ### Witnesses -/

theorem witness_TimeCoreCommandsComplete :
    (let p := up.pass (2 * second); Running up ∧ p.time.lastSecond < p.time.now / second) ∧
    (let p := (up.setBit .timeCtl 1 true).pass 5; Running p ∧ p.bit .timeCtl 1 = true ∧ true ≠ p.bit .timeCtl 2) ∧
    (let p := (up.setBit .timeCtl 0 true).pass second; p.bit .timeCtl 0 = true ∧ p.time.ppsOut = false ∧
    (p.time.ppsMark + (second - p.ppsOfs)) / second < (p.time.now + (second - p.ppsOfs)) / second) ∧
    (let p := ({ up with time := { up.time with ppsOut := true } }).pass second; p.time.ppsOut = true ∧
    usPassed p.time.ppsRise p.clock (clampTo 1 200000 (p.fld .timePps 17 0)) = true) ∧
    (let p := (up.setFld .timeCtl 5 4 1).pass 5; p.refSel ≠ 0 ∧ p.timeState ≠ 3 ∧ p.bit .timeStat 4 = false) ∧
    (let p := (((up.setFld .timeCtl 5 4 1).setFld .timeStat 1 0 1).setBit .timeStat 4 true).pass 5;
    p.timeState = 1 ∧ p.bit .timeStat 4 = true ∧ p.refSel = 1) ∧
    (let p := ({ ((up.setFld .timeCtl 5 4 2).setFld .timeStat 1 0 1).setBit .timeStat 4 true
      with time := { up.time with lockRun := 16 } }).pass 5;
    p.timeState = 1 ∧ p.bit .timeStat 4 = true ∧ p.refSel = 2 ∧ 16 ≤ p.time.lockRun) ∧
    (Free up ∧ Acc.lo ≠ .hi) := by
  repeat' apply And.intro
  all_goals decide +kernel

theorem witness_StampLogCommandsComplete :
    (let u := ({ up with log := { up.log with waiting := [rec0] } }).logLost; u.log.waiting = [rec0] ∧ u.log.fifo.length < 512) ∧
    (let s := { up with log := { up.log with lostDue := 1, fifo := List.replicate 511 rec0 } }; Running s ∧ 0 < s.log.lostDue ∧
      s.log.fifo.length < 512) ∧
    (let s := { up with log := { up.log with fifo := List.replicate 16 rec0 } }; Running s ∧ 16 ≤ s.log.fifo.length ∧
    s.granted (s.logTake 16) = true) ∧
    (let s := up.setRg .logTmo 0; Running s ∧ s.log.fifo.length < 16 ∧ s.fld .logTmo 23 0 = 0 ∧
    s.granted (s.logTake 512) = true) ∧
    (let p := ({ up with log := { up.log with since := some 0 } }).pass second; p.log.since = some 0 ∧
    usPassed 0 p.clock (p.fld .logTmo 23 0) = true ∧
    p.granted (p.logTake 512) = true) := by
  repeat' apply And.intro
  all_goals decide +kernel

theorem witness_RegisterReadsComplete :
    (Running up ∧ Acc.full ≠ .hi ∧ up.bit .lckSem 8 255 = false) ∧
    (let s := up.setRg .lckSem 0x125 255; Running s ∧ s.bit .lckSem 8 255 = true) := by
  decide +kernel

theorem witness_MailboxCommandsComplete :
    (let s := up.setRg .mbxInStg 1 0 1; Running s ∧ s.postRes 0 false (s.staged 0 false) = 0) ∧
    (up.postRes 31 false (up.staged 31 false) = 2) ∧
    (let s := up.setRg .mbxOutStg 1 0 1; Running s ∧ s.postRes 0 true (s.staged 0 true) = 0) ∧
    (up.postRes 0 true (up.staged 0 true) = 5) ∧
    (let s := up.setBox 3 { mailbox0 with inFifo := [⟨ask0 0 3, 0⟩] }; Running s ∧ (s.box 3).inFifo = [⟨ask0 0 3, 0⟩]) ∧
    (let s := up.setBox 3 { mailbox0 with outFifo := [⟨ask0 0 3, 0⟩] }; Running s ∧ (s.box 3).outFifo = [⟨ask0 0 3, 0⟩]) ∧
    (let s := up.setBit .mbxStat 48 true 31; Running s ∧ s.bit .mbxStat 48 31 = true ∧ s.timerDue 31 = false) ∧
    (let s := ((up.setBox 31 { mailbox0 with timer := some 0 }).pass second).setBit .mbxStat 48 true 31; Running s ∧
      s.bit .mbxStat 48 31 = true ∧
    s.timerDue 31 = true) ∧
    (let p := (up.setBox 3 { mailbox0 with timer := some 0 }).pass second; (p.box 3).timer = some 0 ∧ p.rto 3 ≠ 0 ∧
    usPassed 0 p.clock (p.rto 3) = true) := by
  repeat' apply And.intro
  all_goals decide +kernel

theorem witness_QueueCommandsComplete :
    (let s := cfgSq (2 ^ 28) { sq0 with en := true }; Free s ∧ (s.sq 3).exists_ = true ∧ (s.sq 3).en = true ∧
      indexMode (s.sq 3).conf.cfg = true) ∧
    (let s := cfgSq 0 { sq0 with en := true }; Free s ∧ (s.sq 3).exists_ = true ∧ (s.sq 3).en = true ∧
      indexMode (s.sq 3).conf.cfg = false) ∧
    (let s := cfgCq (2 ^ 28) cq0; Free s ∧ (s.cq 3).exists_ = true ∧ indexMode (s.cq 3).conf.cfg = true) ∧
    (let s := cfgCq 0 cq0; Free s ∧ (s.cq 3).exists_ = true ∧ indexMode (s.cq 3).conf.cfg = false) ∧
    (let s := withSq sq0; Free s ∧ (s.sq 3).exists_ = true ∧ (s.sq 3).en = false) ∧
    (let s := cfgSq (8 * 2 ^ 56 + 2 ^ 29 + 4 * 2 ^ 16) { sq0 with en := true, wake := true }; Free s ∧ s.fetch.accepting = true ∧
    (s.sqs.filter (fun e => e.2.window.isSome)).length < 256 ∧
    nextAfter s.fetch.lastUrgent (((s.sqs.map (·.1)).filter s.sqEligible).filter s.sqUrgent) = some 3) ∧
    (let s := cfgSq (8 * 2 ^ 56 + 4 * 2 ^ 16) { sq0 with en := true, wake := true, credit := 2 };
      let l := (s.sqs.map (·.1)).filter s.sqEligible;
    Free s ∧ s.fetch.accepting = true ∧ l = [3] ∧ nextAfter s.fetch.lastUrgent (l.filter s.sqUrgent) = none ∧
    l.any (fun q => 0 < (s.sq q).credit) = true ∧
      nextAfter s.fetch.lastWeighted (l.filter (fun q => 0 < (s.sq q).credit)) = some 3) ∧
    (let w : Window := ⟨1, false, false, 0, none⟩; let s := cfgSq (2 ^ 24) { sq0 with en := true, window := some w };
      let x := s.windowBytes 3 w []; Free s ∧ (s.sq 3).window = some w ∧ s.ringHere (w.issued, w.link) = true ∧
      w.dropped = false ∧ (s.sq 3).en = true ∧ x.1.toOption = some (fitBytes 64 []) ∧ x.2.fetch.accepting = true ∧
      s.granted (x.2.windowData 3 w.slots (fitBytes 64 [])) = true) ∧
    (let w : Window := ⟨1, false, true, 0, none⟩; let s := cfgSq (2 ^ 24) { sq0 with window := some w };
      let x := s.windowBytes 3 w []; Free s ∧ (s.sq 3).window = some w ∧ s.ringHere (w.issued, w.link) = true ∧
      x.1.toOption = some (fitBytes 64 []) ∧ w.dropped = true ∧
      s.granted (x.2.setSq 3 { x.2.sq 3 with window := none }) = true) ∧
    (let s := cfgSq 0 { sq0 with tailReads := [(0, none)] };
      let x := s.indexWord (ringZone (s.sq 3).conf.cfg) (s.sq 3).conf.taddr none 0; Free s ∧
      (s.sq 3).tailReads = (0, none) :: [] ∧ s.ringHere (0, none) = true ∧ x.1.toOption = some 0 ∧
    s.granted (x.2.setSq 3 { x.2.sq 3 with tailReads := (x.2.sq 3).tailReads.tail, tail := 0 % qSlots (s.sq 3).conf.cfg }) = true) ∧
    (let s := cfgCq 0 { cq0 with headReads := [(0, none)] };
      let x := s.indexWord (ringZone (s.cq 3).conf.cfg) (s.cq 3).conf.haddr none 0; Free s ∧
      (s.cq 3).headReads = (0, none) :: [] ∧ s.ringHere (0, none) = true ∧ x.1.toOption = some 0 ∧
    s.granted ((x.2.setCq 3 { x.2.cq 3 with headReads := (x.2.cq 3).headReads.tail }).newHead 3 0 false) = true) ∧
    (let s := withSq { sq0 with window := some ⟨1, false, false, 0, none⟩ }; Free s ∧ (s.sq 3).window.isSome = true) ∧
    (let s := ({ cfgSq (2 ^ 24) { sq0 with window := some ⟨1, false, false, 0, none⟩ } with ports := [(0, { port0 with ctoUs := 50 })] } : State).pass second;
    Free s ∧ (s.sq 3).window.isSome = true ∧ s.ctoPassed (s.ringIssued 3 .window).1 (s.ringIssued 3 .window).2 = true) ∧
    (let s := withSq { sq0 with tailReads := [(0, none)] }; Free s ∧ (s.sq 3).tailReads ≠ [] ∧
      s.ctoPassed (s.ringIssued 3 .tail).1 (s.ringIssued 3 .tail).2 = true) ∧
    (let s := withCq { cq0 with headReads := [(0, none)] }; Free s ∧ (s.cq 3).headReads ≠ [] ∧
      s.ctoPassed (s.ringIssued 3 .head).1 (s.ringIssued 3 .head).2 = true) ∧
    (let p := (withSq { sq0 with en := true, repoll := some 0 }).pass second; Free p ∧ (p.sq 3).repoll = some 0 ∧
      (p.sq 3).en = true ∧
    nsPassed 0 p.clock (p.repollNs 3) = true) ∧
    (let s := withCq { cq0 with due := [cqe0], held := [(.engine, cqe0)] }; Free s ∧ (s.cq 3).due = [cqe0] ∧ s.cqePlace 3 = true ∧
    s.granted ((s.setCq 3 { s.cq 3 with due := [] }).postCqe 3 cqe0) = true) ∧
    (let s := cfgCq (4 * 2 ^ 16) { cq0 with en := true, balCount := 1 }; Free s ∧ (s.cq 3).en = true ∧ 0 < (s.cq 3).balCount ∧
      0 < (s.cqLoad 3).cqRoom 3 ∧
    s.granted (s.ballastOut 3) = true) ∧
    (let s := withCq { cq0 with held := [(.engine, cqe0)] }; Free s ∧ (s.cq 3).held = [(.engine, cqe0)] ∧ (s.cq 3).due = [] ∧
      s.cqePlace 3 = true ∧
    s.granted (((s.setCq 3 { s.cq 3 with held := [] }).postCqe 3 cqe0).holderFreed .engine).follows = true) := by
  repeat' apply And.intro
  all_goals decide +kernel

theorem witness_QueueEntryCommandsComplete :
    (let s := withSq { sq0 with acts := [entry 1] }; Free s ∧ (s.sq 3).acts = [entry 1]) ∧
    (let s := ((chanSq { sq0 with acts := [entry 2] }).setChan 5 { chan0 with phase := .suspended }).setRg .chnTag 7 5;
      let t := s.setSq 3 { s.sq 3 with acts := [] };
    Free s ∧ (s.sq 3).acts = [entry 2] ∧ t.targetOf 3 7 = some 5 ∧ (t.chan 5).phase = .suspended ∧
    s.granted ((t.setChan 5 { t.chan 5 with sq := 3, cause := max (t.chan 5).cause (entry 2).cause }).resumeRun 5 (some
      (entry 2).num)).follows = true) ∧
    (let s := withSq { sq0 with acts := [entry 2] }; let t := s.setSq 3 { s.sq 3 with acts := [] }; Free s ∧
      (s.sq 3).acts = [entry 2] ∧ t.targetOf 3 7 = none ∧
    s.granted (t.decideEntry 3 (entry 2).num 0x12 (entry 2).cause .engine).2.follows = true) ∧
    (let s := ((chanSq { sq0 with acts := [entry 3] }).setChan 5 { chan0 with phase := .active }).setRg .chnTag 7 5;
      let t := s.setSq 3 { s.sq 3 with acts := [] };
    Free s ∧ (s.sq 3).acts = [entry 3] ∧ t.targetOf 3 7 = some 5 ∧
    s.granted ((t.decideEntry 3 (entry 3).num 0 (entry 3).cause .engine).2.chanStop 5).follows = true) ∧
    (let s := withSq { sq0 with acts := [entry 3] }; let t := s.setSq 3 { s.sq 3 with acts := [] }; Free s ∧
      (s.sq 3).acts = [entry 3] ∧ t.targetOf 3 7 = none ∧
    s.granted (t.decideEntry 3 (entry 3).num 0x12 (entry 3).cause .engine).2.follows = true) ∧
    (let s := withSq { sq0 with acts := [entry 4] }; Free s ∧ (s.sq 3).acts = [entry 4]) ∧
    (let s := chanSq { sq0 with starts := [entry 1] }; Free s ∧ (s.sq 3).starts = [entry 1] ∧
      (s.setOf 3).find? s.chanIdle = some 5 ∧
    s.granted ((s.setSq 3 { s.sq 3 with starts := [] }).dispatchTo 3 5 (entry 1)).follows = true) ∧
    (let p := (withChan { chan0 with phase := .waitStart, startAt := 9 }).pass 9; Free p ∧ (p.chan 5).phase = .waitStart ∧
      (p.chan 5).startAt ≤ p.time.now ∧
    p.granted (p.goFetch 5 (p.rg .chnCur 5)).follows = true) := by
  repeat' apply And.intro
  all_goals decide +kernel

theorem witness_ChannelControlCommandsComplete :
    (∀ x ∈ [Phase.fetch, .halted, .active], let s := withChan { doing (cmdOf 1) with phase := x }; Free s ∧ (s.chan 5).phase = x ∧
      (s.chan 5).waited = none ∧ (s.chan 5).stage ≠ .loopGuard ∧
      s.granted (s.setChan 5 { s.chan 5 with stop := true }).follows = true) ∧
    (let s := withChan { chan0 with phase := .draining, outcome := some 3 }; Free s ∧ (s.chan 5).phase = .draining ∧
      (s.chan 5).outcome = some 3 ∧
    s.granted (s.setChan 5 { s.chan 5 with stop := true }).follows = true) ∧
    (∀ x ∈ [Phase.waitStart, .suspended], let s := withChan { chan0 with phase := x }; Free s ∧ (s.chan 5).phase = x ∧
      s.granted (s.endProgram 5 0x04).follows = true) ∧
    (∀ x ∈ [Phase.waitEvent, .waitHold], let s := withChan { doing (cmdOf 0x22) with phase := x }; Free s ∧ (s.chan 5).phase = x ∧
    s.granted (s.endCmd 5 0x04 0 0).follows = true) ∧
    (let w : Member := ⟨0x1000, cmdOf 0x22, none⟩;
      let s := withChan { chan0 with phase := .fetch, waited := some (w, 0, some rec0) }; Free s ∧
    (s.chan 5).phase = .fetch ∧ (s.chan 5).waited = some (w, s.clock, some rec0) ∧ (s.chan 5).chain = [] ∧
    s.granted (s.stopAtWait 5 w (some rec0)).follows = true) ∧
    (let s := withChan { doing (cmdOf 0x25) with stage := .loopGuard }; Free s ∧ (s.chan 5).phase = .active ∧
      (s.chan 5).stage = .loopGuard ∧
    s.granted ((s.setChan 5 { s.chan 5 with stop := true }).boundary 5).follows = true) ∧
    (let s := withChan { chan0 with phase := .suspended }; Free s ∧ (s.chan 5).phase = .suspended ∧
    s.granted ((s.setChan 5 { s.chan 5 with cause := max (s.chan 5).cause 0 }).resumeRun 5 none).follows = true) ∧
    (let s := withChan { chan0 with phase := .fetch }; Free s ∧
    (s.chan 5).phase ∉ [Phase.idle, .checked, .suspended, .draining] ∧
    s.granted (s.setChan 5 { s.chan 5 with resPend := true, resCause := max (s.chan 5).resCause 0 }).follows = true) ∧
    (∀ x ∈ [true, false], let s := withChan { doing (cmdOf 1) with phase := .halted, fetchHalt := x }; Free s ∧
      (s.chan 5).releasable = true ∧ s.granted (s.relRetry 5).follows = true) ∧
    (let s := withChan { doing (cmdOf 1) with phase := .halted }; Free s ∧ (s.chan 5).phase = .halted ∧ s.progZone 5 = 0 ∧
    s.granted (s.relSkip 5 (.ok [])).follows = true) ∧
    (let s := withChan { chan0 with phase := .halted, fetchHalt := true }; Free s ∧ (s.chan 5).phase = .halted ∧
      (s.chan 5).fetchHalt = true ∧ s.granted (s.relSkip 5 (.ok [])).follows = true) ∧
    (let s := withChan { chan0 with phase := .halted, fetchHalt := true }; let p := s.progressed 5; Free s ∧
      (s.chan 5).releasable = true ∧ (p.chan 5).fetchHalt = true ∧
    s.granted (((p.releaseUnits 5).setChan 5 { p.chan 5 with phase := .active, endRec := none }).dispose 5 false (some
      (p.fld .chnErr 31 24 5)) 0 none).follows = true) ∧
    (let s := withChan { doing (cmdOf 1) with phase := .halted }; let p := s.progressed 5; Free s ∧ (s.chan 5).releasable = true ∧
      (p.chan 5).fetchHalt = false ∧
    s.granted ((p.failedEnd 5).dispose 5 true (some (p.fld .chnErr 31 24 5)) 0 none).follows = true) ∧
    (let s := withChan { chan0 with phase := .fetch }; let x := s.rereadCmd 5 (s.rg .chnCur 5) (.ok []); Free s ∧
      (s.chan 5).phase = .fetch ∧ s.readWaits 5 (.ok []) = false ∧ (s.chan 5).condNext = false ∧
    x.1.toOption = some (List.replicate 64 0) ∧
      s.granted ((x.2.progressed 5).commandRead 5 (List.replicate 64 0)).follows = true) ∧
    (let s := (withChan { chan0 with phase := .fetch }).setRg .chnCur (2 ^ 40) 5; let x := s.rereadCmd 5 (s.rg .chnCur 5) (.ok []);
      Free s ∧ (s.chan 5).phase = .fetch ∧ s.readWaits 5 (.ok []) = false ∧
      (match x.1 with | .error f => s.granted (x.2.fetchFails 5 f).follows | .ok _ => false) = true) ∧
    (let s := withChan { chan0 with phase := .active, stage := .sync, syncs := [0] }; Free s ∧
      (s.chan 5).syncs.find? (fun j => linkZone j = 1) = some 0 ∧ s.tagged 5 0 = true ∧
    s.granted ((s.linkAnswers (some 0)).syncDone 5 0).follows = true) ∧
    (let h := { cmdOf 0x26 with zd := 1 }; let s := (withChan { doing h with stage := .cpWrite }).setBit .lnkStat 0 true 0; Free s ∧
      (s.chan 5).cpWrites = true ∧ (s.chan 5).head.cmd = h ∧ h.zd ≠ 0 ∧ s.writeLink 5 = some 0 ∧ s.linkUp 0 = true ∧
    s.granted ((((s.linkAnswers (some 0)).extWrite h.zd
      (s.cpBytes 5)).setChan 5 { s.chan 5 with dirty := ((s.chan 5).dirty ++ [0]).eraseDups }).cpNext 5).follows = true) ∧
    (let s := withChan { doing (cmdOf 0x26) with stage := .cpWrite }; let w := s.cpStore 5; Free s ∧
    (s.chan 5).cpWrites = true ∧ (s.chan 5).head.cmd.zd = 0 ∧ w.1 = none ∧ (w.2.chan 5).cpWrites = true ∧
    s.granted (w.2.cpNext 5).follows = true) ∧
    (let s := withChan { doing (cmdOf 0x25) with stage := .loopGuard }; Free s ∧ (s.chan 5).phase = .active ∧
      (s.chan 5).stage = .loopGuard ∧
    s.granted (s.dispose 5 true (some 0x16) (s.chan 5).nextAt (if haltCode
      (s.chan 5).ending.code then none else some 0x16)).follows = true) ∧
    (let p := ((withChan (doing (cmdOf 1))).setRg .chnTmo 1 5).pass (9 * second); Free p ∧ p.tmoDue 5 = true ∧ ((p.settle 5).chan 5).timed = true ∧
      p.granted ((p.settle 5).timeoutEnd 5).follows = true) ∧
    (let p := (withChan { doing (cmdOf 1) with retrySince := some 0 }).pass (99 * second); Free p ∧ (p.chan 5).retrySince = some 0 ∧
    p.grace ≤ (p.chan 5).graceUsed + (p.clock - 0) ∧ p.granted (p.setChan 5 { p.chan 5 with
      retrySince := some p.clock, heldRun := (p.chan 5).heldRun + (p.chan 5).heldNow p.grace p.clock,
        graceUsed := p.grace }).follows = true) := by
  repeat' apply And.intro
  all_goals decide +kernel

theorem witness_ControlCommandsComplete :
    (let s := withChan (doing (cmdOf 0x0B)); let x := s.stamp (cpDomain 5) ((s.chan 5).cause + 1); Free s ∧ s.ready 5 0x0B = true ∧
    s.granted (x.2.setChan 5 { s.chan 5 with
      stage := .cpWrite, cpStep := 0, cause := x.1.time, pin := some (x.2.linkOf (s.chan 5).head.cmd.zd (s.chan 5).head.cmd.dst)
      stream := { (s.chan 5).stream with result := x.1.bytes } }).follows = true) ∧
    (let s := withChan (doing (cmdOf 0x20)); Free s ∧ s.ready 5 0x20 = true ∧
      s.granted (s.endCmd 5 0 0 0 (some (s.chan 5).head.cmd.param2)).follows = true) ∧
    (let s := withChan (doing { cmdOf 0x21 with param := 0xFF }); Free s ∧ s.ready 5 0x21 = true ∧
    branchTaken (s.chan 5).head.cmd.param (s.chan 5).prevCode = true ∧
      s.granted (s.endCmd 5 0 0 0 (some (s.chan 5).head.cmd.param2)).follows = true) ∧
    (let s := withChan (doing { cmdOf 0x21 with param := 0x100FF }); Free s ∧ s.ready 5 0x21 = true ∧
    branchTaken (s.chan 5).head.cmd.param (s.chan 5).prevCode = false ∧ s.granted (s.endCmd 5 0 0 0 none).follows = true) ∧
    (let s := withChan (doing (cmdOf 0x22)); Free s ∧ s.ready 5 0x22 = true ∧ fieldOf 31 0 (s.chan 5).head.cmd.param2 = 0 ∧
    s.granted (s.checkFail 5 0x12 0x28 0 (s.chan 5).pos).follows = true) ∧
    (let s := (withChan (doing { cmdOf 0x22 with param2 := 1 })).setCarFlag 0 true; Free s ∧ s.ready 5 0x22 = true ∧
    fieldOf 31 0 (s.chan 5).head.cmd.param2 ≠ 0 ∧ s.carFlag 0 = true ∧
    s.granted ((if (s.chan 5).head.cmd.param.testBit 8 then s.setCarFlag 0 false else s).endCmd 5 0 0 0).follows = true) ∧
    (let s := withChan (doing { cmdOf 0x22 with param2 := 1 }); Free s ∧ s.ready 5 0x22 = true ∧
    fieldOf 31 0 (s.chan 5).head.cmd.param2 ≠ 0 ∧ s.carFlag 0 = false ∧ (s.chan 5).stop = false ∧
    s.granted (s.setChan 5 { s.chan 5 with phase := .waitEvent, waitSince := s.clock }).follows = true) ∧
    (let p := (withChan { doing { cmdOf 0x22 with param2 := 1 } with phase := .waitEvent }).pass second; Free p ∧
      (p.chan 5).phase = .waitEvent ∧
    usPassed (p.chan 5).waitSince p.clock (fieldOf 31 0 (p.chan 5).head.cmd.param2) = true ∧
      p.granted (p.endCmd 5 0x40 0 0).follows = true) ∧
    (let s := withChan (doing (cmdOf 0x23)); Free s ∧ s.ready 5 0x23 = true ∧
      s.granted (s.syncFirst 5 none .signal).follows = true) ∧
    (let s := withChan (doing { cmdOf 0x24 with param := 9 }); Free s ∧ s.ready 5 0x24 = true ∧
      s.time.now < holdTarget (s.chan 5).head.cmd ∧ (s.chan 5).stop = false ∧
    s.granted (s.setChan 5 { s.chan 5 with phase := .waitHold }).follows = true) ∧
    (let s := withChan (doing (cmdOf 0x24)); Free s ∧ s.ready 5 0x24 = true ∧ holdTarget (s.chan 5).head.cmd ≤ s.time.now ∧
    s.granted (s.endCmd 5 (if (s.chan 5).head.cmd.param2.testBit 32 then 0x42 else 0) 0 0).follows = true) ∧
    (let p := (withChan { doing { cmdOf 0x24 with param := 9 } with phase := .waitHold }).pass second; Free p ∧
      (p.chan 5).phase = .waitHold ∧
    holdTarget (p.chan 5).head.cmd ≤ p.time.now ∧ p.granted (p.endCmd 5 0 0 0).follows = true) ∧
    (let s := withChan (doing (cmdOf 0x25)); Free s ∧ s.ready 5 0x25 = true ∧ s.granted (s.endCmd 5 0 0 0).follows = true) ∧
    (let s := withChan (doing (cmdOf 0x26)); Free s ∧ s.ready 5 0x26 = true ∧
      s.granted (s.syncFirst 5 (if (s.chan 5).head.cmd.zd = 0 then none
        else s.linkOf (s.chan 5).head.cmd.zd (s.chan 5).head.cmd.dst) .post).follows = true) := by
  repeat' apply And.intro
  all_goals decide +kernel

theorem witness_DataCommandsComplete :
    (∀ o ∈ [1, 2, 3, 4, 5, 6, 7, 8, 9], let s := withChan (doing (cmdOf o)); Free s ∧ s.ready 5 o = true ∧
    s.granted (if (s.chan 5).total = 0 then s.movesNothing 5 else s.waitsForMover 5).follows = true) ∧
    (let s := (withChan { doing (cmdOf 1) with stage := .member, chain := [⟨0x1000, cmdOf 1, none⟩, ⟨2 ^ 40, cmdOf 0x0F, none⟩] }).setMover 2 { mover0 with owner := some 5 };
    let x := s.rereadCmd 5 (2 ^ 40) (.ok []); Free s ∧ s.memberDue 5 = true ∧
    (s.chan 5).chain[1]? = some ⟨2 ^ 40, cmdOf 0x0F, none⟩ ∧ s.moverOf 5 = some 2 ∧
      s.readWaits 5 (.ok []) = false ∧
    (match x.1 with | .error f => s.granted (x.2.memberFails 5 (2 ^ 40) f).follows | .ok _ => false) = true) ∧
    (let mb : Member := ⟨0x1040, cmdOf 0x0F, none⟩; let y := parseCmd (List.replicate 64 0);
    let s := (withChan { doing (cmdOf 1) with stage := .member, chain := [⟨0x1000, cmdOf 1, none⟩, mb] }).setMover 2 { mover0
      with owner := some 5 };
    let x := s.rereadCmd 5 0x1040 (.ok []);
    let u := ((x.2.setRg .chnCur 0x1040 5).progressed 5).cmdStart 5 y 0x1040;
    let v := u.setChan 5 { u.chan 5 with chain := (u.chan 5).chain.set 1 { mb with cmd := { mb.cmd with count := y.count, src := y.src, dst := y.dst, own := y.own } } };
    Free s ∧ s.memberDue 5 = true ∧ (s.chan 5).chain[1]? = some mb ∧ s.moverOf 5 = some 2 ∧
    s.readWaits 5 (.ok []) = false ∧ x.1.toOption = some (List.replicate 64 0) ∧
    s.granted ((v.loadMember 2 5 1).run 2).follows = true) := by
  repeat' apply And.intro
  all_goals decide +kernel

theorem fillsWait_placeWanted (l : List CacheEntry) (h : l.length = 65536) :
    ∃ s : State, s.crypto.cache = l ∧ Free s ∧ s.placeWanted = true :=
  ⟨{ up with crypto := { up.crypto with cache := l, fills := [⟨1, 1, [], none, [], false⟩] } }, rfl,
   ⟨rfl, show up.locked = false by decide +kernel⟩, by simp [State.placeWanted, h]⟩

theorem witness_CryptoCommandsComplete :
    ((let s := { withChan (doing (cmdOf 2)) with crypto := { up.crypto with aesWait := [5] } };
    let t := { s with crypto := { s.crypto with aesWait := [], aes := tabSet none s.crypto.aes 0 (some 5) } }; Free s ∧
      s.crypto.aesWait = [5] ∧
    s.freeUnit 0 32 s.crypto.aes s.crypto.aesOut = some 0 ∧ s.granted ((t.progressed 5).streamBegin 5).follows = true) ∧
    (let s := ({ withChan (doing (cmdOf 5)) with crypto := { up.crypto with shaWait := [5] } }).setMover 2 { mover0
      with owner := some 5 };
    let t := ({ s with crypto := { s.crypto with shaWait := [], sha := tabSet none s.crypto.sha 0 (some 5) } }).progressed 5;
      Free s ∧ s.crypto.shaWait = [5] ∧
    s.freeUnit 1 8 s.crypto.sha s.crypto.shaOut = some 0 ∧ t.moverOf 5 = some 2 ∧
      s.granted ((t.loadMember 2 5 0).run 2).follows = true) ∧
    (let s := { withChan (doing (cmdOf 7)) with crypto := { up.crypto with p521Wait := [5] } };
    let t := { s with crypto := { s.crypto with p521Wait := [], p521 := tabSet none s.crypto.p521 0 (some 5) } }; Free s ∧
      s.crypto.p521Wait = [5] ∧
    s.freeUnit 2 4 s.crypto.p521 s.crypto.p521Out = some 0 ∧ s.granted ((t.progressed 5).p521Begin 5 0).follows = true) ∧
    (let s := p521Part 6 (natLe 66 0 ++ [1]) [1];
      let x := { (s.chan 5).stream with result := Algo.ecdsaSign (s.keyOf 5) (s.chan 5).stream.result (s.chan 5).stream.iv };
    Free s ∧ tabGet none s.crypto.p521 3 = some 5 ∧ s.moverActive 5 = some 2 ∧ (s.mover 2).active = some p521Xfer ∧
      (s.chan 5).phase = .active ∧
    (s.chan 5).stage = .p521Run ∧ (s.chan 5).head.cmd.opc = 6 ∧ Algo.sigOutOfRange (x.result.take 66) = false ∧
      Algo.sigOutOfRange (x.result.drop 66) = false ∧
    s.granted (((s.setChan 5 { s.chan 5 with stage := .moving, stream := { x with formed := true } }).emitOut 2 5 p521Xfer
      p521Xfer.bursts [] []).run 2).follows = true) ∧
    (let s := p521Part 6 [] []; let y := Algo.ecdsaSign (s.keyOf 5) (s.chan 5).stream.result (s.chan 5).stream.iv;
    Free s ∧ tabGet none s.crypto.p521 3 = some 5 ∧ s.moverActive 5 = some 2 ∧ (s.mover 2).active = some p521Xfer ∧
      (s.chan 5).phase = .active ∧
    (s.chan 5).stage = .p521Run ∧ (s.chan 5).head.cmd.opc = 6 ∧ Algo.sigOutOfRange (y.take 66) = true ∧
      s.granted (s.p521Begin 5 3).follows = true) ∧
    (let s := p521Part 7 [] []; let x := (s.chan 5).stream;
    Free s ∧ tabGet none s.crypto.p521 3 = some 5 ∧ s.moverActive 5 = some 2 ∧ (s.mover 2).active = some p521Xfer ∧
      (s.chan 5).phase = .active ∧
    (s.chan 5).stage = .p521Run ∧ (s.chan 5).head.cmd.opc ≠ 6 ∧ Algo.sigOutOfRange (x.other.take 66) = true ∧
    s.granted (((s.setChan 5 { s.chan 5 with stage := .moving, stream := { x with result := [], formed := true, diff := some 1 } }).emitOut 2 5
      p521Xfer p521Xfer.bursts [] []).run 2).follows = true)) ∧
    (∃ s : State, s.crypto.cache = List.replicate 65536 ⟨1, 1, [], 2, [], 4, true, true, []⟩ ∧ Free s ∧ s.placeWanted = true) ∧
    ((let s := { up with crypto := { up.crypto with fills := [⟨1, 1, [], none, [], false⟩] } }; Free s ∧ s.placeWanted = false ∧
    s.crypto.fills.find? (fun f => f.engine.isNone) = some ⟨1, 1, [], none, [], false⟩ ∧
    (List.range 4).find? (fun n => s.crypto.fills.all (fun f => f.engine ≠ some n)) = some 0 ∧
      s.crypto.cache.length + s.fillsRunning < 65536) ∧
    (let f : Fill := ⟨1, 1, [], some 3, [(5, [])], false⟩;
      let s := { withChan (doing (cmdOf 2)) with vault := { up.vault with drk := none }, crypto := { up.crypto with fills := [f] } };
    let t := { s with crypto := { s.crypto with fills := [] } }; Free s ∧
      s.crypto.fills.find? (fun f => f.engine = some 3) = some f ∧ unwrapCtx t.dkek 1 [] = none ∧
    s.granted ((byChan [((5 : Nat), ([] : List Byte))]).foldl (fun t w => (t.progressed w.1).sessionInvalid w.1) t).follows = true) ∧
    (let f : Fill := ⟨1, 1, [], some 3, [], false⟩;
      let s := { up with vault := { up.vault with drk := none }, crypto := { up.crypto with fills := [f] } };
    let t := { s with crypto := { s.crypto with fills := [] } }; Free s ∧
      s.crypto.fills.find? (fun f => f.engine = some 3) = some f ∧
    unwrapCtx t.dkek 1 [] = none ∧ s.granted t.follows = true) ∧
    (let e : CacheEntry := ⟨1, 1, [], 2, [], 4, false, false, []⟩;
      let s := { up with crypto := { up.crypto with cache := [e] } }; Free s ∧
    s.crypto.cache.find? (fun e => !e.keyed) = some e ∧ s.crypto.listed.length < 256) ∧
    (let p := (up.setBit .anaCal 4 true).pass 5; Running p ∧ p.bit .anaCal 4 = true ∧
      (tabGet drbg0 p.crypto.drbg 5).seeded = false ∧
    p.granted (p.reseed 5).drbgResume.follows = true) ∧
    (Running up ∧ up.testFailed (.bits (List.replicate 41 true)) = 3 ∧ up.bit .anaCal 5 = false) ∧
    (let t := (List.range 6).foldl (fun t i => t.reseed i) { up.setBit .anaCal 4 true
      with ana := { (up.setBit .anaCal 4 true).ana with startupRuns := false } };
    Running up ∧ up.ana.startupRuns = true ∧ up.granted t.redraw.drbgResume.follows = true)) := by
  refine ⟨?_, fillsWait_placeWanted _ List.length_replicate, ?_⟩
  all_goals repeat' apply And.intro
  all_goals decide +kernel

theorem witness_MoverCommandsComplete :
    (∀ o ∈ [1, 2, 5], let s := { withChan (doing (cmdOf o)) with moverWait := [5] };
    let t := (({ s with moverWait := [] }).setMover 0 { s.mover 0 with owner := some 5 }).progressed 5; Free s ∧
      s.moverWait = [5] ∧ s.freeMover = some 0 ∧
    (t.chan 5).head.cmd.usesAes = decide (o = 2) ∧ (t.chan 5).head.cmd.usesSha = decide (o = 5) ∧
      s.granted ((t.loadMember 0 5 0).run 0).follows = true ∧
    s.granted { (t.setChan 5 { t.chan 5 with stage := .aesWait }) with crypto := { t.crypto with aesWait := t.crypto.aesWait ++ [5] } }.follows = true ∧
    s.granted { (t.setChan 5 { t.chan 5 with stage := .shaWait }) with crypto := { t.crypto with shaWait := t.crypto.shaWait ++ [5] } }.follows = true) ∧
    (let s := (withMover { mover0 with direct := true }).setRg .movShXf 1 2; let x := s.shadowTransfer 2 0 0; Free s ∧
      (s.mover 2).direct = true ∧
    (s.mover 2).shadow = none ∧ (match x.1 with | some tr => s.granted ((x.2.setMover 2
      (promote { x.2.mover 2 with shadow := some tr })).work 2).follows | none => false) = true) ∧
    (let s := withMover { mover0 with direct := true }; let x := s.shadowTransfer 2 0 0; Free s ∧ (s.mover 2).direct = true ∧
      (s.mover 2).shadow = none ∧ x.1 = none ∧
    s.granted (x.2.setBit .movEvt 2 true 2).follows = true) ∧
    (let s := withMover { mover0 with direct := true, active := some xfer }; Free s ∧ (s.mover 2).direct = true ∧
      (s.mover 2).active = some xfer ∧ (s.mover 2).halt = false ∧
    xfer.failed = none ∧ s.granted (s.movCancel 2).follows = true) ∧
    (let s := withMover { mover0 with direct := true }; Free s ∧ (s.mover 2).direct = true ∧
      s.granted (s.setMover 2 { s.mover 2 with shadow := none }).follows = true) ∧
    (let s := withMover { mover0 with direct := true, halt := true, active := some xfer }; Free s ∧ (s.mover 2).direct = true ∧
      (s.mover 2).halt = true ∧
    s.granted (s.movRetry 2).follows = true ∧
      s.granted ((s.setMover 2 (promote { s.mover 2 with halt := false, active := none })).work 2).follows = true) ∧
    (Free up ∧ (up.mover 63).active = none ∧ (up.mover 63).shadow = none ∧ (up.mover 63).tracker = none ∧
      (up.mover 63).owner = none) ∧
    (let b := burst .readWait; let r : ArbReq := ⟨9, 2, 1, 0, false, false, none⟩;
    let s := { withMover { mover0 with active := some { xfer with bursts := [b] } } with arb := { up.arb with presented := [r] } }; let v := s.giveUpRow 9;
    let u := ({ v with arb := { v.arb with
      ptr := tabSet 71 v.arb.ptr (16 * 9 + 8) r.req, presented := v.arb.presented.erase r
      holder := tabSet none v.arb.holder 9 (some r), heldAt := tabSet 0 v.arb.heldAt 9 v.clock } } : State).tetherGrant r.req
      r.lines;
    Running s ∧ tabGet none v.arb.holder 9 = none ∧ v.arbPick 9 = some (r, 8) ∧ r.row = false ∧
    (u.mover r.req).active.bind (fun t => t.bursts.find? (fun b => b.num = r.burst)) = some b ∧
    s.granted ((u.issueBurst 2 { b with stage := .reading }).run 2).follows = true) ∧
    (let r : ArbReq := ⟨9, 70, 1, 0, false, true, none⟩;
      let s := ({ up with arb := { up.arb with presented := [r], holder := [(9, some ⟨9, 64, 1, 0, false, true, none⟩)] } } : State).pass second;
    let v := s.giveUpRow 9;
    let u := ({ v with arb := { v.arb with
      ptr := tabSet 71 v.arb.ptr (16 * 9 + v.prio 70) r.req, presented := v.arb.presented.erase r
      holder := tabSet none v.arb.holder 9 (some r), heldAt := tabSet 0 v.arb.heldAt 9 v.clock } } : State).tetherGrant r.req
      r.lines;
    Running s ∧ tabGet none v.arb.holder 9 = none ∧ v.arbPick 9 = some (r, v.prio 70) ∧ r.row = true ∧
      s.granted u.runAll.follows = true) ∧
    (let p := (withMover { mover0 with active := some xfer }).pass 5; Free p ∧ p.granted (p.run 2).follows = true) ∧
    (let p := ({ up with arb := { up.arb with tethered := [71] } }).pass 5; Free p ∧ 71 ∈ p.arb.tethered ∧
      p.tetherFits 71 1 = true ∧
    p.granted ({ p with arb := { p.arb with tethered := p.arb.tethered.filter (fun k => k ≠ 71) } } : State).runAll.follows =
      true) ∧
    (let x := { xfer with bursts := [burst .reading] }; let s := withMover { mover0 with active := some x }; Free s ∧
      ((s.upset []).mover 2).active = some x ∧
    x.bursts.find? (·.stage = .reading) = some (burst .reading) ∧
      s.granted ((s.upset []).burstData 2 (.ok [])).retryCredits.follows = true) ∧
    (let x := { xfer with bursts := [burst .writing] }; let s := withMover { mover0 with active := some x }; Free s ∧
      (s.mover 2).tracker = none ∧
    (s.mover 2).active = some x ∧ x.bursts.find? (·.stage = .writing) = some (burst .writing) ∧
      s.granted (s.burstWritten 2 .ok).retryCredits.follows = true) ∧
    (∀ z ∈ [4, 1], let x := { xfer with zs := z, bursts := [burst .reading] };
    let p := ({ withMover { mover0 with active := some x } with ports := [(0, { port0 with ctoUs := 50 })] } : State).pass second;
    Free p ∧ (p.mover 2).active = some x ∧ x.bursts.find? (fun b => b.stage = .reading && readZone x b ≠ 0) =
      some (burst .reading) ∧
    readZone x (burst .reading) = z ∧ p.ctoPassed z (burst .reading).issued = true ∧
    p.granted ((p.burstFails 2 false (burst .reading)
      (failWith 3 0x20 z 1 ((p.burstReads x (burst .reading)).headD 0 / 64 * 64) (x.offOf 0))).run 2).retryCredits.follows =
        true) := by
  repeat' apply And.intro
  all_goals decide +kernel

/-- Copying the words of a page of which nothing was written leaves an empty Central Store. -/
theorem copyWord_empty {s : State} (w v : Nat) (hm : s.store.mem = []) (hw : s.store.words = []) : s.copyWord w v = s := by
  have h : ({ s.store with mem := [], words := [] } : Store) = s.store := by rw [← hm, ← hw]
  simp [State.copyWord, hm, hw, tabGet, tabSet, tabDel, memRead, memGet, memWrite, memSet, h]

theorem copyWords_empty {s : State} (f g : Nat → Nat) (hm : s.store.mem = []) (hw : s.store.words = []) (l : List Nat) :
    l.foldl (fun t i => t.copyWord (f i) (g i)) s = s := by
  induction l with
  | nil => rfl
  | cons a l ih => rw [List.foldl_cons, copyWord_empty _ _ hm hw, ih]

theorem witness_StoreUpkeepCommandsComplete :
    (let s := { up with store := { up.store with lasting := [9] } };
      let w := (s.arb.holder.map (·.1)).foldl (fun t g => t.giveUpRow g) s;
      let t := w.fault 0x61 0x08 (segOf (9 * 4096)) (9 + 0 * 2 ^ 18) (sparePage 0 * 4096);
    let u := (List.range 512).foldl (fun t i => t.copyWord (9 * 512 + i) (sparePage 0 * 512 + i)) t;
    let v := ({ u with
      store := { u.store with
        remap := remapMoved u.store.remap 9 0, lasting := u.store.lasting.filter (fun p => p ≠ 9),
          unret := u.store.unret.filter (fun p => p ≠ 9) } } : State).vaultPut [vaultRetired + 0 / 2]
      (fun x => { x with retired := remapMoved u.store.remap 9 0 });
    Running s ∧ w.bit .cstCtl 1 = true ∧ 9 ∈ w.store.lasting ∧ w.freeSpare = some 0 ∧
      w.arb.holder.any (fun e => e.2.any (fun r => r.page = some 9)) = false ∧
    9 ∉ v.store.lasting ∧ s.granted ((w.arb.presented.filter (fun r => !r.row && r.page =
      some 9)).foldl (fun t r => t.presentAgain r) (v.rowsMove 9)).stayInPlace.follows = true) ∧
    (Running up ∧ (up.upset []).scrubOn 63 = true ∧ (up.upset []).arb.presented.any (fun r => r.seg = 63) = false ∧
    (tabGet none (up.upset []).arb.holder 63).isNone = true) ∧
    (let t := (up.pass (9 * second)).upset []; t.scrubOn 0 = true ∧ t.scrubBehind 0 = true) ∧
    (let s := { up with store := { up.store with zeroing := true } }; Running s ∧ s.store.zeroing = true) :=
  ⟨by
    intro s w t u
    rw [show u = t from copyWords_empty _ _ (by decide +kernel) (by decide +kernel) _]
    decide +kernel, by decide +kernel⟩

theorem witness_CarillonCommandsComplete :
    (Free up ∧ up.granted (up.cascade [] [⟨255, 0, 0x1000, 0⟩] 10).follows = true) ∧
    (let e : SourceEvent := ⟨2047, 0, 0⟩; let s := { up with events := [e] }; Running s ∧
      s.events.find? (fun e => e.source = 2047) = some e ∧
    s.granted (({ s with events := s.events.erase e }).sourceEvent 2047 e.time e.hop).follows = true) ∧
    (∀ u ∈ [up, lockedUp], let x : Strike := ⟨1, ⟨0, 0, 0, 0⟩, 0, 0⟩; let s := { u with strikes := [x] };
      let f := ({ s with strikes := [] }).strikeInput 1 [x];
    Running s ∧ s.strikes = [x] ∧ s.granted (if f.2.locked then f.2 else f.2.cascade [1] f.1.toList 10).follows = true) ∧
    (Running up ∧ up.ana.gpioIn.testBit 15 ≠ true) := by
  repeat' apply And.intro
  all_goals decide +kernel

theorem witness_InterruptCommandsComplete :
    (let s := up.setCore 3 { core0 with entry := some 0x10 }; Free s ∧ (s.core 3).entry = some 0x10 ∧
      s.damperFree (fieldOf 21 16 (s.srcDecided 0x10)) = true) ∧
    (let u := (up.setCore 3 { core0 with entry := some 0x10 }).setRg .ircDamp 0xFFFFF 0;
      let s := { u with irc := { u.irc with lastDelivery := [(0, some 0)] } };
    Free s ∧ (s.core 3).entry = some 0x10 ∧ s.damperFree (fieldOf 21 16 (s.srcDecided 0x10)) = false) ∧
    (Free up ∧ (up.core 3).entry = none) ∧
    (let s := ((((up.setCore 3 { core0 with entry := some 0x10 }).setFld .ircSrc 3 1 5 0x10).setRg .ircPost 1 0x11).setBit
      .ircSrc 0 true 0x11).setFld .ircSrc 26 24 3 0x11; Free s ∧ (s.core 3).entry = some 0x10 ∧
    s.firstSrc ((s.candidates 3).filter (fun a =>
      s.srcLevel a < fieldOf 3 1 (s.srcDecided 0x10) && s.damperFree (s.fld .ircSrc 21 16 a))) = some 0x11) ∧
    (let s := ((up.setRg .ircPost 1 0x11).setBit .ircSrc 0 true 0x11).setFld .ircSrc 26 24 3 0x11; let l := s.candidates 3;
      let t := (l.filter (fun n => !s.damperFree (s.fld .ircSrc 21 16 n))).foldl
        (fun t n => t.damperHold (t.fld .ircSrc 21 16 n) n) s; Free s ∧ (s.core 3).entry = none ∧
    t.firstSrc (l.filter (fun n => t.damperFree (t.fld .ircSrc 21 16 n))) = some 0x11) ∧
    (Free up ∧ up.candidates 3 = [] ∧ (up.core 3).entry = none ∧ (up.core 3).stack = [] ∧ up.bit .carMcev 3 = false) ∧
    (∀ u ∈ [msixPart, msixPart.idledNow], let l := (u.vecsOf 1).filter (fun v => u.vecPending 1 v && !u.vecHeld 1 v);
      let t := (l.filter (fun v => !u.damperFree (u.vecGrp 1 v))).foldl
        (fun t v => t.damperHold (t.vecGrp 1 v) (0x10000 + 8192 * 1 + v)) u; Running u ∧ u.vecPending 1 0 = true ∧
      u.vecHeld 1 0 = false ∧ t.firstVec 1 (l.filter (fun v => t.damperFree (t.vecGrp 1 v))) = some 0) ∧
    (let p := up.pass 5; Running p ∧ p.damperFree 63 = true) := by
  repeat' apply And.intro
  all_goals decide +kernel

theorem witness_FaultCommandsComplete :
    (let s := up.setFld .gctlLock 1 0 1; Running s ∧ s.fld .gctlLock 1 0 = 1) ∧
    (let s := { up with stale := [⟨11, 0, 0, 0, false⟩] }; Running s ∧
      (s.stale.filter (fun a => a.link = 11))[0]? = some ⟨11, 0, 0, 0, false⟩) ∧
    (let p := up.pass 5; (6 : Fin 7) ≠ 0 ∧ (1 : Fin 7) ≠ 0 ∧ ((6 : Fin 7).val = 6 ↔ 10 ≤ (10 : Fin 12).val) ∧
      ((1 : Fin 7).val = 6 ↔ 10 ≤ (9 : Fin 12).val) ∧ Running p ∧
    p.granted (p.linkCeEvent 10 6).follows = true ∧ p.granted (p.linkCeEvent 9 1).follows = true) := by
  repeat' apply And.intro
  all_goals decide +kernel

theorem witness_LinkAndDriveCommandsComplete :
    (let s := up; Running s ∧ s.mayTrain 2 = true ∧ s.linkUp 2 = false ∧
      s.granted ((s.setRg .lnkStat (1 + s.rg .lnkStat 2 % 4 / 2 * 2 + b2n (false || min 6 (s.maxSpeed 2) = 6) * 4
      + min 6 (s.maxSpeed 2) * 2 ^ 4 + min 8 (s.maxWidth 2) * 2 ^ 8 + 3 * 2 ^ 16) 2).linkEvent 2 0).follows = true) ∧
    (let s := up.setRg .fnzCfg 3; Running s ∧ s.mayTrain 11 = true ∧ s.bit .fnzPort 0 1 = false ∧
      s.granted ((({ s with fenuz := { s.fenuz with
        calDue := s.fenuz.calDue.filter (fun p => p ≠ 1) ++ [1] } }).setBit .fnzPort 0 true 1).linkEvent 11 0).follows = true) ∧
    (let s := (up.setBit .fnzPort 0 true 1).setBit .lnkStat 0 true 9; Running s ∧ s.bit .fnzPort 0 1 = true ∧ s.linkUp 9 = true ∧
    s.granted (s.linkDown 9).follows = true ∧ s.granted (s.linkDown 11).follows = true) ∧
    (let s := (up.setBit .lnkStat 0 true 2).setFld .lnkStat 6 4 5 2; Running s ∧ s.linkUp 2 = true ∧
      s.fld .lnkStat 6 4 2 ≠ min 3 (s.maxSpeed 2)) ∧
    (let s := (up.setBit .lnkStat 0 true 2).setFld .lnkStat 12 8 8 2; Running s ∧ s.linkUp 2 = true ∧
      s.fld .lnkStat 12 8 2 ≠ min 4 (s.maxWidth 2)) ∧
    (let t := up.presenceLevel 8 true; Running up ∧ t.linkPresent 8 = true ∧ t.bit .lnkStat 1 8 ≠ true ∧
      t.granted ((t.setBit .lnkStat 1 true 8).linkEvent 8 4).follows = true) ∧
    (let s := up.setBit .lnkStat 1 true 8; let t := s.presenceLevel 8 false; Running s ∧ t.linkPresent 8 = true ∧
      t.bit .lnkStat 1 8 ≠ false ∧ t.granted (((t.setBit .lnkStat 1 false 8).linkEvent 8 4).linkDown 8).follows = true) ∧
    (Running up ∧ up.linkPresent (6 + 2) = true) ∧
    (let p := (up.setBit .lnkStat 0 true 9).pass 5; Running p ∧ p.linkUp 9 = true ∧ (p.link 9).recovering = none ∧
    p.granted (((p.setFld .lnkStat 19 16 4 9).addFld .lnkEvt 63 48 1 9).setLink 9 { p.link 9
      with recovering := some p.clock, replaying := false }).follows = true) ∧
    (let p := (up.setLink 9 { link0 with recovering := some 0 }).pass 5; Running p ∧ (p.link 9).recovering.isSome = true ∧
    p.granted ((p.setFld .lnkStat 19 16 3 9).setLink 9 { p.link 9 with recovering := none }).follows = true) ∧
    (let s := up.setBit .lnkStat 1 true 1; let t := s.perstLevel 1 false; Running s ∧ s.bit .lnkStat 1 1 = true ∧
      t.granted (t.perstFalls 1).follows = true) ∧
    (let p := (up.setLink 9 { link0 with perstAt := some 5 }).pass 5; Running p ∧ (p.link 9).perstAt = some 5 ∧ 5 ≤ p.clock) ∧
    (Free up ∧ up.linkPresent (0 + 2) = true ∧ up.linkPresent (2 + 2 * 3) = true ∧
    up.granted (up.writePlain 0 ⟨.lnkCtl, 2, 0⟩ .lo (putField 4 4 1 (up.view ⟨.lnkCtl, 2, 0⟩))).follows = true ∧
    up.granted (up.writePlain 0 ⟨.lnkCtl, 8, 0⟩ .lo (putField 8 8 1 (up.view ⟨.lnkCtl, 8, 0⟩))).follows = true ∧
    up.granted (up.writePlain 0 ⟨.lnkCtl, 2, 0⟩ .lo (putField 9 9 1 (up.view ⟨.lnkCtl, 2, 0⟩))).follows = true) ∧
    (let s := up.setDrive 6 { drive0 with attached := true }; Free s ∧ s.linkPresent (6 + 2) = true ∧
      (s.drive 6).attached = true ∧ 256 ∉ (s.drive 6).scanDue ∧
    s.granted ((s.replyRead 6 256).setDrive 6 { s.drive 6
      with scanDue := (s.drive 6).scanDue.filter (fun n => n ≠ 256), scanAt := s.clock }) = true) ∧
    (let s := withChan (doing (cmdOf 0x0A)); let h := (s.chan 5).head.cmd; Free s ∧ s.ready 5 0x0A = true ∧
      s.readWaits 5 (.ok []) = false ∧
    (s.drive h.drive).attached = false ∧ s.granted ((s.readOver 5).endCmd 5 0x52 0x0001 h.count).follows = true) ∧
    (let d : Drive := { drive0 with attached := true, qdLog2 := 4, info := ⟨1, 0, 63, 0, 0, [512]⟩ };
    let img := natLe 4 2 ++ natLe 4 1 ++ natLe 40 0 ++ natLe 16 0;
      let h := { cmdOf 0x0A with zs := 0, zd := 4, count := 512, src := 0x40 };
    let s := { ((withChan (doing h)).setDrive h.drive d).setBit .lnkStat 0 true
      (h.drive + 2) with store := { up.store with mem := memWrite [] 0x40 img } };
    let x := s.imageRead 5 h (.ok []); Free s ∧ s.ready 5 0x0A = true ∧ (s.chan 5).head.cmd = h ∧ s.readWaits 5 (.ok []) = false ∧
    (s.drive h.drive).attached = true ∧ s.linkUp (h.drive + 2) = true ∧ x.1.toOption = some img ∧
    imageOk (x.2.drive h.drive) img = true ∧ h.count = imageCount (x.2.drive h.drive) img ∧
    s.granted (x.2.takeSlot 5 h.drive (if fieldOf 8 0 h.param2 =
      0 then 1 + 5 % max 1 (x.2.drive h.drive).info.granted else fieldOf 8 0 h.param2) img).follows = true) ∧
    (let e : DrvCid := ⟨9, 1, 5, false⟩; let d : Drive := { drive0 with attached := true, qdLog2 := 4, cids := [e] };
    let s := (withChan { doing (cmdOf 0x0A) with stage := .drvRun, drv := some (7, 1, 9) }).setDrive 7 d;
    let t := ((s.setDrive 7 { s.drive 7 with cids := [] }).replyTaken 7 1).replyRead 7 1; e.abandoned = false ∧
    Running s ∧ (s.drive 7).cids.find? (fun x => x.cid = 9) = some e ∧ t.locked = false ∧ (t.chan 5).phase = .active ∧
      (t.chan 5).stage = .drvRun ∧
    (t.chan 5).drv = some (7, 1, 9) ∧ (t.endCmd 5 0 0 0).locked = false ∧
      s.granted ((t.endCmd 5 0 0 0).slotFreed 7 1).follows = true) ∧
    (let e : DrvCid := ⟨9, 1, 5, true⟩; let s := up.setDrive 7 { drive0 with attached := true, qdLog2 := 4, cids := [e] };
    let t := (((s.setDrive 7 { s.drive 7 with cids := [] }).replyTaken 7 1).replyRead 7 1).staleRecord
        0x77 1 5 (9 + 7 * 2 ^ 16) 0; e.abandoned = true ∧
    Running s ∧ (s.drive 7).cids.find? (fun x => x.cid = 9) = some e ∧ t.locked = false ∧
      s.granted (t.slotFreed 7 1).follows = true) ∧
    (let p := ((withChan { doing (cmdOf 0x0A) with stage := .drvRun, drv := some (0, 1, 9) }).setDrive 0 { drive0
      with attached := true, qdLog2 := 4 }).pass (99 * second);
    let t := (p.setDrive 0 { p.drive 0 with cids := (p.drive 0).cids.map (fun e => if e.cid = 9 then { e with abandoned := true } else e) }).putEntry
      0 0 (natLe 1 8 ++ natLe 39 0 ++ natLe 2 1 ++ natLe 2 9 ++ natLe 20 0); Free p ∧ (p.chan 5).drv = some (0, 1, 9) ∧
    (p.chan 5).phase = .active ∧ (p.chan 5).stage = .drvRun ∧ (p.chan 5).head.cmd.ntmo * second ≤ p.idleTime 5 * 1000000 ∧
    p.granted (t.endCmd 5 0x51 0 (p.chan 5).head.cmd.count).follows = true) := by
  repeat' apply And.intro
  all_goals decide +kernel

theorem witness_PowerCommandsComplete :
    (let s := { up with power := { up.power with state := .standby } }; s.power.state ≠ .run ∧ s.power.vaon = true ∧ 5 ≠ 0) ∧
    (let s := { up with power := { up.power with state := .off, vaon := false } }; s.power.state ≠ .run ∧ s.power.vaon = false ∧
      5 ≠ 0) ∧
    (State.reset.power.coldReset = true ∧ State.reset.power.state = .run ∧ State.reset.power.railDown = none) ∧
    (let s := { up with power := { up.power with vaon := false } }; s.power.vaon = false) ∧
    (let s := { up with power := { up.power with txn := some .readMode } }; Running s ∧ s.power.lostArb = false ∧
      s.power.txn = some .readMode ∧ (0x17 : BitVec 8).toNat / 32 = 0) ∧
    (let s := { up with power := { up.power with txn := some (.send 9) } }; Running s ∧ s.power.lostArb = false ∧
      s.power.txn = some (.send 9)) ∧
    (Running up ∧ up.warmRuns = false) ∧
    (Free up ∧ up.granted (up.writePlain 0 ⟨.pwrLane, 0, 0⟩ .lo 1).follows = true) := by
  repeat' apply And.intro
  all_goals decide +kernel

theorem witness_AnalogueCommandsComplete :
    (let p := up.pass (99999 * second); Running p ∧ usPassed p.vault.lastScrub p.clock 86400000000 = true) ∧
    (let s := { up with vault := { up.vault with armWord := 0x3FF } }; Running s ∧ s.power.vaon = true ∧
      (∀ e ∈ [((0 : Nat), TamperSense.pin .open_), (8, .other 0)], s.armed e.1 = true ∧ (s.senses e.1 e.2).1 = true)) ∧
    (let s := { State.reset with vault := { up.vault with armWord := 0x3FF } }; s.power.coldReset = true ∧ s.power.vaon = true ∧
      bothStates 0 = true ∧ s.armed 0 = true ∧ (s.senses 0 (.pin .open_)).1 = true) ∧
    (Running up ∧ up.power.vaon = true ∧ (up.senses 3 (.pin .open_)).1 = true ∧ (up.senses 9 (.other 0)).1 = true ∧
      (up.senses 3 (.pin .high)).1 = false) := by
  repeat' apply And.intro
  all_goals decide +kernel

theorem witness_SidebandAndTapCommandsComplete :
    (([1, 2] : List Byte).length ≠ 1 ∧ State.reset.power.coldReset = true ∧ Running up ∧ up.power.state = .run) := by
  decide +kernel

theorem witness_RegisterSpaceCommandsComplete :
    (Running up ∧ (∀ e ∈ [((0x100030 : Nat), Acc.full), (0x100034, .hi)], e.1 < 0x4000000 ∧
      (e.1 % 8 = 0 ∨ (e.2 = .hi ∧ e.1 % 4 = 0)) ∧ regAt? (e.1 / 8 * 8) = some ⟨.timeHold, 0, 0⟩ ∧
      up.granted (up.writeReg 0 ⟨.timeHold, 0, 0⟩ e.2 1).follows = true)) ∧
    (0x3FFFFFC < 0x4000000 ∧ 0x3FFFFFC % 4 = 0 ∧ regAt? (0x3FFFFFC / 8 * 8) = none ∧
      up.granted (up.fault 0 0x01 0 2 (0x1000000000 + 0x3FFFFFC / 8 * 8 + 4)).follows = true) ∧
    (regAt? 0x3FFFFF8 = none ∧ 0x3FFFFF8 < 0x4000000 ∧ 0x3FFFFF8 % 8 = 0 ∧ Acc.lo ≠ .hi ∧
      up.granted (up.fault 0 0x01 0 2 (0x1000000000 + 0x3FFFFF8)).follows = true) ∧
    (∀ e ∈ [((0x3FFFFFF : Nat), Acc.full), (0x3FFFFFC, .lo), (0x3FFFFFE, .hi)], e.1 < 0x4000000 ∧ e.1 % 8 ≠ 0 ∧
      ¬ (e.1 % 4 = 0 ∧ e.2 = .hi) ∧ up.granted (up.fault 0 0x01 0 2 (0x1000000000 + e.1)).follows = true) ∧
    (Running up ∧ refusedAt 0x40000000 8 = true ∧ engineMaster 0x63 = false ∧
      up.granted ((up.fault 0x63 0x01 0x63 1 0x40000000).reply (List.replicate 8 0xFF)).follows = true ∧
    up.granted ((up.fault 0x63 0x01 0x63 2 0x40000000).reply []).follows = true) ∧
    (refusedAt 0x1003FFFFF8 8 = false ∧ unmappedAt 0x1003FFFFF8 = true ∧
    up.granted ((up.fault 0x63 0x01 0x63 1 0x1003FFFFF8).reply (List.replicate 8 0xFF)).follows = true) ∧
    (Running up ∧ refusedAt 0x40000000 8 = true ∧ engineMaster 0x20 = true ∧
      up.granted ({ up.engineRefused 0x20 0x40000000 true with bus := ⟨[], false, some 5⟩ } : State).follows = true) ∧
    (let x := up.inRead 0x74 0x3FFFFFFF 1 2; mayReach 0x74 (.zone0 0x3FFFFFFF) = true ∧
      placeOf (targetAddr (.zone0 0x3FFFFFFF)) = .store ∧
    up.granted { x.2.2 with bus := ⟨x.1, x.2.1, none⟩ }.follows = true ∧
      up.granted (up.inWrite 0x74 0x3FFFFFFF [7] [] false 2).follows = true) ∧
    (let a := 0x1000100030; let x := up.otherRead 0x74 71 a 8; mayReach 0x74 (.zone0 a) = true ∧
      placeOf (targetAddr (.zone0 a)) ≠ .store ∧
    [true].any (fun b => !b) = false ∧ up.granted { x.2.2 with bus := ⟨x.1, x.2.1, none⟩ }.follows = true ∧
    up.granted (up.otherWrite 0x74 71 a (natLe 8 1)).follows = true) ∧
    (let a := 0x1000100030; placeOf (targetAddr (.zone0 a)) ≠ .store ∧ [true, false].any (fun b => !b) = true ∧
    up.granted ((up.fault 0x74 0x01 0x74 1 a.toNat).reply (List.replicate 8 0xFF)).follows = true ∧
    up.granted (up.fault 0x74 0x01 0x74 2 a.toNat).follows = true) ∧
    (mayReach 0x70 (.zone0 0) = false ∧ mayReach 0x74 (.bar 1 0) = false ∧ up.granted (up.unsupported 0x70).follows = true ∧
      up.granted (up.unsupported 0x74).follows = true) := by
  repeat' apply And.intro
  all_goals decide +kernel

theorem witness_FenuzCommandsComplete :
    (fleetPart.pass 5).hears 1 (frm 1 1 9 5 8) 1 1 ∧
    (fleetPart.pass 5).hears 1 (frm 1 2 9 5 24) 1 2 ∧
    (fleetPart.pass 5).hears 1 (frm 1 3 9 262143 12) 1 3 ∧
    (fleetPart.pass 5).hears 1 (frm 2 1 0 5 134) 2 1 ∧
    (fleetPart.pass 5).hears 1 (frm 2 3 9 5 488) 2 3 ∧
    (fleetPart.pass 5).hears 1 (frm 2 4 9 5 48) 2 4 ∧
    (fleetPart.pass 5).hears 1 (frm 2 5 9 5 32) 2 5 ∧
    (let s := fleetPart.pass 5; let f := frm 2 6 9 5 388; s.hears 1 f 2 6 ∧
      s.granted (s.reportArrives 1 (headerOf f.bytes) (frameBody f.bytes)) = true) ∧
    (fleetPart.pass 5).hears 1 (frm 3 1 9 5 16) 3 1 ∧
    (fleetPart.pass 5).hears 1 (frm 3 2 9 5 32) 3 2 ∧
    (let s := fleetPart.pass 5; let f := frm 4 1 9 5 168; s.hears 1 f 4 1 ∧
      s.granted (s.recArrives 1 (headerOf f.bytes) (frameBody f.bytes)) = true) ∧
    (fleetPart.pass 5).hears 1 (frm 4 2 9 5 2) 4 2 ∧
    joiner.hears 1 (frm 2 2 0 5 2) 2 2 ∧
    (let p := (fleetPart.setFld .fnzStat 33 32 1).pass 5; Running p ∧ p.vault.member = true ∧ p.fld .fnzStat 33 32 ≠ 0 ∧
      p.fenuz.lastSync = none ∧ p.measuring (p.fld .fnzStat 33 32 - 1) = false ∧ p.fenuz.heard = []) ∧
    (let p := (fleetPart.setFld .fnzCfg 15 8 1).pass 5; Running p ∧ p.vault.member = true ∧ p.fnzPrio ≠ 0xFF ∧
      p.fenuz.gms.any (fun e => !usPassed e.2.2 p.clock heardUs && e.2.1 ≠ p.vault.node
        && betterGm e.1 e.2.1 p.fnzPrio p.vault.node) = false) ∧
    (let p := joiner.pass (2 * second); Free p ∧ p.fenuz.join.isSome = true ∧ p.fenuz.sponsoring = [] ∧
      usPassed 0 p.clock 1000000 = true) ∧
    (let s := { fleetPart with crypto := { up.crypto with drbg := [(2, { drbg0 with seeded := true })] } };
      s.hears 1 (frm 2 5 9 5 32) 2 5 ∧ s.signReady = true) ∧
    (msgChn (frameBody (frm 3 1 9 5 16).bytes) < 32) ∧
    (let p := ({ fleetPart with fenuz := { up.fenuz with relays := [⟨7, 2, .mbox, 3, 0, 0, false⟩] } }).pass (2 * second); Free p ∧
    p.fenuz.relays.find? (fun r => r.xid = 7 && !r.dead && usPassed r.at_ p.clock 1000000) = some ⟨7, 2, .mbox, 3, 0, 0, false⟩) ∧
    (let f := frm 2 5 9 6 32; let h := headerOf f.bytes; let s := fleetPart; Running s ∧ s.bit .fnzPort 0 1 = true ∧
      frameGood f = true ∧
    s.fleetFits h = true ∧ s.locked = false ∧ (s.vault.member && h.src = s.vault.node) = false ∧ h.kind ≠ 1 ∧ h.dst ≠ s.fnzNode ∧
      1 < h.ttl) ∧
    (let p := ({ fleetPart with fenuz := { up.fenuz with calDue := [1] } } : State).pass 5; Running p ∧ p.calIsDue 1 = true) := by
  repeat' apply And.intro
  all_goals decide +kernel

theorem witness_TimeNeverGoesBack :
    (let s := { up with pending := [.nop 5, .timeStatus 9], time := { up.time with now := 7 } }; (7 ≤ s.time.now ∧
      s.pending.all (fun c => !setsTimeBack c) = true)) := by
  decide +kernel

theorem witness_ColdResetHoldsEveryCommand :
    (State.reset.power.coldReset = true ∧ actsInColdReset (.gctlRstWarm 0) = false) := by
  decide +kernel

theorem witness_LockdownHoldsQueuesChannelsAndMovers :
    (Running lockedUp ∧ lockedUp.locked = true ∧ heldInLockdown (.tetherRelease 71 9) = true ∧
      heldInLockdown (.commandTimeout 5 9) = true) := by
  decide +kernel

theorem witness_LockdownStoresRegisterWrites :
    (Running lockedUp ∧ lockedUp.locked = true ∧ lockedUp.power.warmDue = false ∧ regAt? (Reg.offset ⟨.arbPrioSh, 71, 0⟩) = some ⟨.arbPrioSh, 71, 0⟩) := by
  decide +kernel

theorem witness_StampsAndRecordsLieInTheirWords :
    (Stamp.fits ⟨2 ^ 80 - 1, 2 ^ 18 - 1, 255, 2 ^ 22 - 1⟩ ∧ Stamp.fits ⟨0, 0, 0, 0⟩) ∧
    (let r : LogRecord := ⟨⟨1, 2, 3, 4⟩, 0xFF, 0xFF, 0xFFF, 2 ^ 32 - 1, 2 ^ 64 - 1⟩; Stamp.fits r.stamp ∧ r.kind < 2 ^ 8 ∧
      r.sub < 2 ^ 8 ∧ r.unit < 2 ^ 12 ∧ r.arg0 < 2 ^ 32 ∧ r.arg1 < 2 ^ 64) := by
  decide +kernel

theorem witness_MemoryAndFifosKeepTheirForm :
    (let s := { up with pending := [.nop 5] }; s.errFifo.length ≤ 64 ∧ s.log.fifo.length ≤ 512 ∧
      Memory.wf s.store.mem = true) := by
  decide +kernel

theorem witness_NoWarmResetIsLeftDue :
    ({ up with pending := [.nop 5] }.power.warmDue = false) := by
  decide +kernel

theorem witness_PopTakesTheOldest :
    (Running up ∧ (up.box 31).fifo true = []) ∧
    (let s := up.setBox 3 { mailbox0 with outFifo := [⟨ask0 0 3, 0⟩, ⟨ask0 1 3, 0⟩] }; Running s ∧
    (s.box 3).fifo true = [⟨ask0 0 3, 0⟩, ⟨ask0 1 3, 0⟩] ∧ (ask0 0 3).length ≤ 256) := by
  decide +kernel

theorem witness_TimeSnapshots : Running up ∧ Acc.lo ≠ .hi ∧ Acc.full ≠ .hi ∧ (5 : Nat) ≠ 4 := by decide +kernel

theorem witness_FlushEmptiesOneFifo : Running up ∧ (31 : Nat) ≠ (3 : Fin 32).val := by decide +kernel

theorem witness_ColdResetKeepsWhatTheTableKeeps : Running lockedUp ∧ lockedUp.power.vaon = true := by decide +kernel

theorem witness_EveryRegisterIsFoundAtItsOffset :
    (Reg.valid ⟨.lnkCtl, 9, 0⟩ = true ∧ Reg.valid ⟨.msixTable, 1, 16383⟩ = true ∧ regAt? 0x100030 = some ⟨.timeHold, 0, 0⟩) := by
  decide +kernel

theorem witness_PlainRegistersTakeTheBitsWritten :
    (Free up ∧ regAt? (Reg.offset ⟨.arbTether, 71, 0⟩) = some ⟨.arbTether, 71, 0⟩) := by
  decide +kernel

theorem witness_StoreWritesAndReads :
    (Memory.wf up.store.mem = true ∧ ((List.range 3).map (fun j => up.phys (0x3FFFFFFD + j))).Nodup) ∧
    (∀ e ∈ [((5 : Nat), (7 : Byte))], up.phys e.1 ≠ up.phys 6) := by
  decide +kernel

theorem witness_InboundWriteStoresItsBytesAlone :
    (let a := targetAddr (.bar 1 0x3FFFFFFF); Running up ∧ mayReach 0x70 (.bar 1 0x3FFFFFFF) = true ∧ placeOf a = .store ∧
    up.power.warmDue = false ∧ up.granted (up.inWrite 0x70 a [7] [true] false 2).follows = true ∧
    ((List.range 1).map (fun i => up.phys (a + i))).Nodup ∧ placeOf (a + 0) = .store ∧ up.underTest (a + 0) = false) := by
  decide +kernel

theorem witness_BranchDecision :
    (let s := withChan (doing (cmdOf 0x21)); Free s ∧ s.ready 5 0x21 = true ∧
      s.granted (s.endCmd 5 0 0 0 (if branchTaken (s.chan 5).head.cmd.param
    (s.chan 5).prevCode then some (s.chan 5).head.cmd.param2 else none)).follows = true) := by
  decide +kernel

theorem witness_FaultAndLogFifosAreBounded :
    (up.errFifo.length < 64 ∧ up.log.fifo.length < 496 ∧ up.log.lostDue = 0 ∧ up.log.waiting = []) ∧
    (let s := { up with errFifo := List.replicate 64 rec0, log := { up.log with fifo := List.replicate 512 rec0 } };
      64 ≤ s.errFifo.length ∧
    512 ≤ s.log.fifo.length ∧ s.log.fifo.length ≤ 512 ∧ s.log.lostDue = 0) ∧
    (let r : LogRecord := { rec0 with stamp := ⟨2, 2, 3, 5⟩ }; (∀ x ∈ [rec0], x.stamp.domain = r.stamp.domain →
      x.stamp.node = r.stamp.node → x.stamp.time ≤ r.stamp.time)) := by
  repeat' apply And.intro
  all_goals decide +kernel

theorem witness_LockdownEntryZeroises :
    (Running up ∧ up.locked = false ∧ up.warmRuns = false ∧ up.errFifo.length < 64) := by
  decide +kernel

theorem witness_TimeRestartsWithoutVaon :
    (let s := { up with power := { up.power with vaon := false } }; s.power.vaon = false ∧ s.power.aonLoss = false ∧ Running s) ∧
    (let s := { State.reset with power := { State.reset.power with vaon := false, state := .off } }; s.power.vaon = false ∧
      s.power.state ≠ .run ∧
    s.power.coldReset = true ∧ 7 ≠ 0) := by
  decide +kernel

theorem witness_PatternsVisitTheirElements :
    (let p : Pattern := ⟨4, 2, true, 3, 2, 1, 0, 64, 0, 0x100⟩; 1 < p.n1 ∧ 2 < p.n0 ∧ 3 < p.elem ∧ p.idx = true) := by
  decide +kernel

theorem witness_StepRunsTheFrontCommand :
    ({ up with pending := [.nop 5, .arbCommit 0] }.pending = .nop 5 :: [.arbCommit 0]) := by
  decide +kernel

theorem witness_EveryStepTakesOneCommand :
    (up.pending = []) := by
  decide +kernel

theorem witness_StampsOfADomainRise :
    (let a := up.stamp 7 9; let b := a.2.stamp 7 0; a.1 = ⟨9, 0, 7, 0⟩ ∧ b.1 = ⟨10, 0, 7, 1⟩) := by
  decide +kernel

theorem witness_NumbersAreLittleEndian :
    (7 < 8 ∧ (natLe 8 (2 ^ 64 - 2))[0]? = some 0xFE#8) := by
  decide +kernel

theorem witness_LocksAreTakenByReading :
    (Running up ∧ Acc.lo ≠ .hi ∧ up.bit .lckSem 8 255 = false) ∧
    ((up.setRg .lckSem 0x125 0).bit .lckSem 8 0 = true) := by
  decide +kernel

theorem witness_PostChecksInOrder :
    (let s := { (up.setRg .mbxOutStg 1 16 1) with mbx := [(16, { mailbox0 with outFifo := List.replicate 64 ⟨ask0 0 16, 0⟩ })] };
      Running s ∧ s.postRes 16 true (s.staged 16 true) = 1) ∧
    ((up.setRg .mbxOutStg (31 * 2 ^ 56) 16 0).postRes 16 true ((up.setRg .mbxOutStg (31 * 2 ^ 56) 16 0).staged 16 true) = 2) ∧
    (let s := up.setRg .mbxInStg (14 * 2 ^ 56) 15 0; s.postRes 15 false (s.staged 15 false) = 3) ∧
    (let s := (up.setRg .mbxInStg (15 * 2 ^ 56) 15 0).setRg .mbxInStg (2 ^ 63) 15 1; s.postRes 15 false (s.staged 15 false) = 4) ∧
    (let s := (up.setRg .mbxInStg (15 * 2 ^ 56) 15 0).setRg .mbxInStg 2 15 1; s.postRes 15 false (s.staged 15 false) = 5) ∧
    (let s := (up.setRg .mbxInStg (15 * 2 ^ 56) 15 0).setRg .mbxInStg 1 15 1; s.postRes 15 false (s.staged 15 false) = 0) := by
  repeat' apply And.intro
  all_goals decide +kernel

theorem witness_EpochsAdvance :
    (Running (up.setRg .mbxEpoch 0xFFFFFFFF 31) ∧ (up.setRg .mbxEpoch 0xFFFFFFFF 31).epoch 31 false = 0xFFFFFFFF) := by
  decide +kernel

theorem witness_Zone0Map :
    (placeOf 0x3FFFFFFF = .store ∧ placeOf 0x40000000 = .outside) ∧
    (placeOf 0xFFFFFFFFF = .outside ∧ placeOf 0x1000000000 = .regs 0) ∧
    (placeOf 0x1003FFFFFF = .regs 0x3FFFFFF ∧ placeOf 0x1004000000 = .chime 0) ∧
    (placeOf 0x1004FFFFFF = .chime 0xFFFFFF ∧ placeOf 0x1005000000 = .outside) ∧
    (chimeAt? (4095 * 0x1000) = some (4095, false)) := by
  decide +kernel

theorem witness_CommitCopiesEveryPriority :
    (Free (up.setRg .arbPrioSh 5 71) ∧ (up.setRg .arbPrioSh 5 71).rg .arbPrioSh 71 = 5) := by
  decide +kernel

theorem witness_TamperErasesTheRootKeys :
    (up.vault.moved + 4 ≤ 513536 ∧ up.vault.tamperLog.length ≤ 256) := by
  decide +kernel

theorem witness_FenuzFramesKeepTheirFields :
    ((4 : Nat) < 2 ^ 4 ∧ 0x3FFFF < 2 ^ 18 ∧ (List.replicate 1476 (0 : Byte)).length ≤ 1476) := by
  decide +kernel

theorem witness_CommandWordsKeepTheirFields :
    ((cmdOf 0x2C).opc < 2 ^ 8 ∧ (cmdOf 0x2C).sess < 2 ^ 20 ∧ (cmdOf 0x2C).aux < 2 ^ 32) := by
  decide +kernel

/-! ### Messages to Snima -/

/-- The header of a message with the first SEQ to channel 16, whose payload has `n` bytes. -/
def head16 (cmd n : Nat) : List Byte := natLe 2 cmd ++ natLe 2 0 ++ natLe 2 n ++ natLe 1 0 ++ natLe 1 16 ++ natLe 4 1 ++ natLe 4 0

/-- A message to channel 16 with the MAC that the channel's key gives it. -/
def sealedMsg (cmd : Nat) (body : List Byte) : List Byte :=
  head16 cmd (body.length + 32) ++ body ++ Algo.hmac256 [] (head16 cmd (body.length + 32) ++ body)

/-- A mailbox whose outbound FIFO is full, so that an answer waits for room. -/
def fullBox : Mailbox := { mailbox0 with outFifo := List.replicate 64 ⟨[], 0⟩ }

/-- The part with Snima running and one message in such a mailbox. -/
def asking (c : Nat) (m : List Byte) (k : Option ChanKey) : State :=
  (snimaOn.setRg .logEn 0).setBox c { fullBox with inFifo := [⟨m, 0⟩], key := k }

theorem length_fitBytes (n : Nat) (l : List Byte) : (fitBytes n l).length = n := by
  induction n generalizing l with
  | zero => rfl
  | succ n ih => cases l <;> simp [fitBytes, ih]

theorem head16_parts (cmd n : Nat) (x : List Byte) : ∃ a : List Byte, head16 cmd n = a ∧ a.length = 16 ∧
    (a ++ x).take 2 = natLe 2 cmd ∧ ((a ++ x).drop 2).take 2 = natLe 2 0 ∧ ((a ++ x).drop 4).take 2 = natLe 2 n ∧
    ((a ++ x).drop 6).take 1 = natLe 1 0 ∧ ((a ++ x).drop 8).take 4 = natLe 4 1 ∧ (a ++ x).drop 16 = x :=
  ⟨_, rfl, rfl, rfl, rfl, rfl, rfl, rfl, rfl⟩

/-- The body of a sealed message. -/
theorem bodyOf_sealed (cmd : Nat) (body : List Byte) (hn : leNat (natLe 2 (body.length + 32)) = body.length + 32) :
    bodyOf 16 (sealedMsg cmd body) = body := by
  have hm : (Algo.hmac256 [] (head16 cmd (body.length + 32) ++ body)).length = 32 := length_fitBytes _ _
  generalize hmac : Algo.hmac256 [] (head16 cmd (body.length + 32) ++ body) = mac at hm
  obtain ⟨a, ha, l16, _, _, p4, _, _, p16⟩ := head16_parts cmd (body.length + 32) (body ++ mac)
  have e : msgLen (a ++ (body ++ mac)) = body.length + 32 := by simp only [msgLen, p4, hn]
  have u : (a ++ (body ++ mac)).drop 16 = body ++ mac := p16
  have t : (body ++ mac).take (body.length + 32) = body ++ mac := List.take_of_length_le (by simp [hm])
  rw [sealedMsg, hmac, ha, List.append_assoc]
  simp only [bodyOf, msgPayload, e, u, t]
  simp [secure, hm]

/-- A sealed message passes the checks of its command. -/
theorem gate_sealed (t : State) (cmd cls : Nat) (lenOk : List Byte → Bool) (body : List Byte)
    (hk : (t.box 16).key = some ⟨[], [], 0, 0⟩) (hc : leNat (natLe 2 cmd) = cmd) (hx : exempt cmd = false)
    (hn : leNat (natLe 2 (body.length + 32)) = body.length + 32) (hl : lenOk body = true) :
    t.gate 16 cls true lenOk (sealedMsg cmd body) = (.pass false, t.setBox 16 { t.box 16 with key := some ⟨[], [], 0, 1⟩ }) := by
  have hm : (Algo.hmac256 [] (head16 cmd (body.length + 32) ++ body)).length = 32 := length_fitBytes _ _
  generalize hmac : Algo.hmac256 [] (head16 cmd (body.length + 32) ++ body) = mac at hm
  obtain ⟨a, ha, l16, p0, p2, p4, p6, _, p16⟩ := head16_parts cmd (body.length + 32) (body ++ mac)
  have hs : sealedMsg cmd body = a ++ (body ++ mac) := by rw [sealedMsg, hmac, ha, List.append_assoc]
  rw [hs]
  rw [ha] at hmac
  have e1 : msgCmd (a ++ (body ++ mac)) = cmd := by simp only [msgCmd, p0, hc]
  have e2 : msgSeq (a ++ (body ++ mac)) = 0 := by rw [msgSeq, p2]; rfl
  have e3 : msgLen (a ++ (body ++ mac)) = body.length + 32 := by simp only [msgLen, p4, hn]
  have e4 : msgFlg (a ++ (body ++ mac)) = 0 := by rw [msgFlg, p6]; rfl
  have e5 : bodyOf 16 (a ++ (body ++ mac)) = body := by
    have : (a ++ (body ++ mac)).drop 16 = body ++ mac := p16
    have t : (body ++ mac).take (body.length + 32) = body ++ mac := List.take_of_length_le (by simp [hm])
    simp only [bodyOf, msgPayload, e3, this, t]
    simp [secure, hm]
  have e6 : (a ++ (body ++ mac)).take (16 + (body.length + 32) - 32) = a ++ body := by
    rw [← List.append_assoc, List.take_left' (by simp [l16]; omega)]
  have e7 : ((a ++ (body ++ mac)).drop (16 + (body.length + 32) - 32)).take 32 = mac := by
    rw [← List.append_assoc, List.drop_left' (by simp [l16]; omega), List.take_of_length_le (by simp [hm])]
  simp only [State.gate, e1, hx, State.authentic, hk, e3, e6, e7, hmac, e2, e4, e5, hl]
  simp [secure]

/-- What it takes for Snima to take a message and let it through. -/
theorem takes_of {c cmd cls : Nat} {lenOk : List Byte → Bool} {m : List Byte} {k : Option ChanKey} {drop : Bool}
    (hc : msgCmd m = cmd) (h0 : (asking c m k).snimaUp = true) (hb : (asking c m k).box c =
      { fullBox with inFifo := [⟨m, 0⟩], key := k })
    (he : msgEpoch m = ((asking c m k).popMsg c false).epoch c false)
    (hg : (((asking c m k).popMsg c false).gate c cls true lenOk m).1 = .pass drop) :
    Running (asking c m k) ∧ (asking c m k).snimaTakes c cmd cls lenOk ⟨m, none, 0, 0⟩
      (((asking c m k).popMsg c false).gate c cls true lenOk m).2 drop :=
  ⟨rfl, h0, by simp [show (asking c m k).snima.kats = [] from rfl], by rw [hb]; rfl, _, by simp [State.takeMsg, hb, fullBox, mailbox0, hc], he,
    by rw [← hg]⟩

/-- The part with a sealed command in channel 16's mailbox, and with the command taken. -/
def keyed (cmd : Nat) (body : List Byte) : State := asking 16 (sealedMsg cmd body) (some ⟨[], [], 0, 0⟩)
def opened (cmd : Nat) (body : List Byte) : State :=
  let t := (keyed cmd body).popMsg 16 false
  t.setBox 16 { t.box 16 with key := some ⟨[], [], 0, 1⟩ }

/-- A sealed command is taken from channel 16. -/
theorem takes_sealed (cmd cls : Nat) (lenOk : List Byte → Bool) (body : List Byte) (hc : leNat (natLe 2 cmd) = cmd)
    (hx : exempt cmd = false) (hn : leNat (natLe 2 (body.length + 32)) = body.length + 32) (hl : lenOk body = true) :
    Running (keyed cmd body) ∧ (keyed cmd body).snimaTakes 16 cmd cls lenOk ⟨sealedMsg cmd body, none, 0,
      0⟩ (opened cmd body) false := by
  have hbox : (keyed cmd body).box 16 =
      { fullBox with inFifo := [⟨sealedMsg cmd body, 0⟩], key := some ⟨[], [], 0, 0⟩ } := by simp [keyed, asking]
  have hm : ∃ x, sealedMsg cmd body = head16 cmd (body.length + 32) ++ x := ⟨_, by rw [sealedMsg, List.append_assoc]⟩
  have hp : ((keyed cmd body).popMsg 16 false).regs = (snimaOn.setRg .logEn 0).regs ∧
      (((keyed cmd body).popMsg 16 false).box 16).key = some ⟨[], [], 0, 0⟩ := by
    have hl : ∀ (t : State) r, t.regs = (snimaOn.setRg .logEn 0).regs → t.logClass 6 r = t := by
      intro t r h
      rw [State.logClass, State.bit_congr h, if_neg (by decide +kernel)]
    simp only [State.popMsg, hbox, Mailbox.fifo, Bool.false_eq_true, if_false]
    generalize he : State.stamp _ 0x64 _ = p
    rw [hl _ _ (by rw [← he]; rfl)]
    rw [← he]
    exact ⟨rfl, by simp [State.box, State.setBox, Mailbox.setFifo]⟩
  obtain ⟨x, hx'⟩ := hm
  have he : msgEpoch (sealedMsg cmd body) = ((keyed cmd body).popMsg 16 false).epoch 16 false := by
    rw [State.epoch, if_neg (by decide), State.fld_congr hp.1, hx']
    exact (by decide +kernel : leNat (natLe 4 1) = (snimaOn.setRg .logEn 0).fld .mbxEpoch 31 0 16)
  have hg := gate_sealed ((keyed cmd body).popMsg 16 false) cmd cls lenOk body hp.2 hc hx hn hl
  have ht := takes_of (c := 16) (cmd := cmd) (k := some ⟨[], [], 0, 0⟩) (by rw [hx']; exact hc)
    (show (snimaOn.setRg .logEn 0).snimaUp = true by decide +kernel) hbox he (congrArg Prod.fst hg)
  have h2 : (((keyed cmd body).popMsg 16 false).gate 16 cls true lenOk (sealedMsg cmd body)).2 =
    opened cmd body := congrArg Prod.snd hg
  exact ⟨ht.1, by rw [← h2]; exact ht.2⟩

/-- Some state of a running part in which Snima takes a command of channel 16 and lets it through. -/
def Taken (cmd cls : Nat) (lenOk : List Byte → Bool) : Prop := ∃ s q t drop, Running s ∧
    State.snimaTakes s 16 cmd cls lenOk q t drop

/-- The same, where the accesses of the store that the command's handler makes, and what follows its turn, are granted at once. -/
def TakenGranted (cmd cls : Nat) (lenOk : List Byte → Bool) (turn : Handler) : Prop :=
  ∃ s q t drop, Running s ∧ State.snimaTakes s 16 cmd cls lenOk q t drop ∧
    (let z := (turn 16 (bodyOf 16 q.msg) none t).2.endTurn 16 q true drop (turn 16 (bodyOf 16 q.msg) none t).1
    s.granted z = true ∧ s.granted z.follows = true)

theorem taken (cmd cls : Nat) (lenOk : List Byte → Bool) (n : Nat) (h : leNat (natLe 2 cmd) = cmd ∧ exempt cmd = false ∧
    leNat (natLe 2 (n + 32)) = n + 32 ∧ lenOk (List.replicate n 0) = true) : Taken cmd cls lenOk := by
  obtain ⟨r, k⟩ := takes_sealed cmd cls lenOk (List.replicate n 0) h.1 h.2.1 (by simpa using h.2.2.1) h.2.2.2
  exact ⟨_, _, _, _, r, k⟩

/-- Commands that are taken where their bodies are zeros: each with its code, its class and the length of its body. -/
theorem taken_all (l : List (Nat × Nat × Nat)) (h : ∀ e ∈ l, leNat (natLe 2 e.1) = e.1 ∧ exempt e.1 = false ∧
    leNat (natLe 2 (e.2.2 + 32)) = e.2.2 + 32 ∧ lenIs e.2.2 (List.replicate e.2.2 0) = true) :
    ∀ e ∈ l, Taken e.1 e.2.1 (lenIs e.2.2) := fun e m => taken _ _ _ e.2.2 (h e m)

theorem takenGranted (cmd cls : Nat) (lenOk : List Byte → Bool) (turn : Handler) (n : Nat) (h : leNat (natLe 2 cmd) = cmd ∧
    exempt cmd = false ∧
    leNat (natLe 2 (n + 32)) = n + 32 ∧ lenOk (List.replicate n 0) = true ∧
    (let x := turn 16 (List.replicate n 0) none (opened cmd (List.replicate n 0))
    let z := x.2.endTurn 16 ⟨sealedMsg cmd (List.replicate n 0), none, 0, 0⟩ true false x.1
    (keyed cmd (List.replicate n 0)).granted z = true ∧ (keyed cmd (List.replicate n 0)).granted z.follows = true)) :
    TakenGranted cmd cls lenOk turn := by
  obtain ⟨r, k⟩ := takes_sealed cmd cls lenOk (List.replicate n 0) h.1 h.2.1 (by simpa using h.2.2.1) h.2.2.2.1
  refine ⟨_, _, _, _, r, k, ?_⟩
  rw [show (⟨sealedMsg cmd (List.replicate n 0), none, 0, 0⟩ : Pending).msg = sealedMsg cmd (List.replicate n 0) from rfl,
    bodyOf_sealed _ _ (by simpa using h.2.2.1)]
  exact h.2.2.2.2

/-- Commands of class 1 whose handlers' accesses are granted, where their bodies are zeros. -/
theorem takenGranted_all (l : List (Nat × Nat × Handler)) (h : ∀ e ∈ l, leNat (natLe 2 e.1) = e.1 ∧ exempt e.1 = false ∧
    leNat (natLe 2 (e.2.1 + 32)) = e.2.1 + 32 ∧ lenIs e.2.1 (List.replicate e.2.1 0) = true ∧
    (let m := List.replicate e.2.1 0
    let x := e.2.2 16 m none (opened e.1 m)
    let z := x.2.endTurn 16 ⟨sealedMsg e.1 m, none, 0, 0⟩ true false x.1
    (keyed e.1 m).granted z = true ∧ (keyed e.1 m).granted z.follows = true)) :
    ∀ e ∈ l, TakenGranted e.1 1 (lenIs e.2.1) e.2.2 := fun e m => takenGranted _ _ _ _ e.2.1 (h e m)

/-- The commands that open a channel carry no MAC. -/
theorem taken_open (cmd : Nat) (lenOk : List Byte → Bool) (m : List Byte)
    (h : msgCmd m = cmd ∧ (asking 16 m none).snimaUp = true ∧
      (asking 16 m none).box 16 = { fullBox with inFifo := [⟨m, 0⟩], key := none } ∧
      msgEpoch m = ((asking 16 m none).popMsg 16 false).epoch 16 false ∧
      (((asking 16 m none).popMsg 16 false).gate 16 2 true lenOk m).1 = .pass false) : Taken cmd 2 lenOk := by
  obtain ⟨r, k⟩ := takes_of h.1 h.2.1 h.2.2.1 h.2.2.2.1 h.2.2.2.2
  exact ⟨_, _, _, _, r, k⟩

theorem witness_SnimaDeviceCommandsComplete :
    (∀ e ∈ [(0x0000, 0, 0), (0x0001, 0, 0), (0x0005, 1, 8), (0x0100, 0, 0), (0x0004, 1, 0)], Taken e.1 e.2.1 (lenIs e.2.2)) ∧
    Taken 0x0002 2 (lenIs 0) ∧ Taken 0x0003 2 (lenIs 203) ∧ TakenGranted 0x0101 1 (lenIs 8) layoutSetTurn ∧
    ((let s := snimaOn.setBox 3 { mailbox0 with respWait := some ⟨⟨0, 0, []⟩, false, false, .nothing⟩, busy := some ⟨ask0 0 3, none, 0, 0⟩ }; Running s ∧
    (s.box 3).respWait = some ⟨⟨0, 0, []⟩, false, false, .nothing⟩ ∧ (s.box 3).busy = some ⟨ask0 0 3, none, 0, 0⟩ ∧
      s.snimaUp = true ∧ (s.box 3).outFifo.length < 64) ∧
    (let s := asking 0 (ask0 0x7FFF 0) none; let t := s.popMsg 0 false; Running s ∧ s.snimaUp = true ∧
    s.takeMsg 0 (fun n => !cmdKnown n) = some (⟨ask0 0x7FFF 0, none, 0, 0⟩, t) ∧ msgEpoch (ask0 0x7FFF 0) = t.epoch 0 false ∧
    (t.gate 0 0 false (fun _ => true) (ask0 0x7FFF 0)).1 = .shut snBadCmd 0 true false) ∧
    (let s := { up.setFld .gctlBoot 2 0 1 with snima := { up.snima with bootSlots := [false, true] } }; Running s ∧
      s.locked = false ∧
    s.fld .gctlBoot 2 0 = 1 ∧ s.snima.bootSlots = [false, true]) ∧
    (let m := natLe 2 0x05FF ++ natLe 2 0 ++ natLe 2 16 ++ natLe 2 0 ++ natLe 4 1 ++ natLe 20 0;
      let s := (asking 0 m none).setFld .gctlBoot 2 0 3;
    let t := s.popMsg 0 false; Running s ∧ s.locked = false ∧ s.fld .gctlBoot 2 0 = 3 ∧
      s.takeMsg 0 (fun n => n = 0x05FF) = some (⟨m, none, 0, 0⟩, t) ∧
    msgEpoch m = t.epoch 0 false ∧ (let u := t.gate 0 0 true (lenIs 16) m; let x := u.2.bootStagedTurn (bodyOf 0 m);
      u.1 = .pass false ∧
    s.granted (x.2.endTurn 0 ⟨m, none, 0, 0⟩ true false x.1) = true))) :=
  ⟨taken_all _ (by decide +kernel), taken_open 0x0002 _ (head16 2 32 ++ List.replicate 32 0) (by decide +kernel),
    taken_open 0x0003 _ (head16 3 235 ++ List.replicate 235 0) (by decide +kernel),
    takenGranted 0x0101 1 _ _ 8 (by decide +kernel), by decide +kernel⟩

theorem witness_SnimaQueueAndDriveCommandsComplete :
    (∀ e ∈ [(0x0200, 1, 32), (0x0201, 1, 40), (0x0202, 1, 8), (0x0203, 1, 8), (0x0204, 0, 8), (0x0800, 0, 0)],
      Taken e.1 e.2.1 (lenIs e.2.2)) ∧
    TakenGranted 0x0801 1 (lenIs 16) (drvAttachTurn .fatal) ∧ TakenGranted 0x0802 1 (lenIs 8) drvDetachTurn ∧
    TakenGranted 0x0803 1 (lenIs 88) (drvAdminTurn .issued) ∧
    ((let p := (snimaOn.setBox 3 { mailbox0 with busy := some ⟨ask0 0x0801 3, none, 5, 0⟩ }).pass 5; Running p ∧ p.snimaUp = true ∧
    (p.box 3).busy = some ⟨ask0 0x0801 3, none, 5, 0⟩ ∧ p.running 3 = some 0x0801 ∧ 5 ≤ p.clock ∧
    p.granted ((p.setDrive 0 drive0).finish 3 (ansErr snHwFault)) = true) ∧
    (let p := ((snimaOn.setBox 3 { mailbox0 with busy := some ⟨ask0 0x0803 3, none, 5, 0⟩ }).setDrive 0 { drive0
      with attached := true }).pass 5;
    Running p ∧ p.snimaUp = true ∧ (p.box 3).busy = some ⟨ask0 0x0803 3, none, 5, 0⟩ ∧ p.running 3 = some 0x0803 ∧ 5 ≤ p.clock ∧
    bytesAt (bodyOf 3 (ask0 0x0803 3)) 0 1 % 8 = 0 ∧ (p.drive 0).attached = true ∧
    p.granted (((p.putEntry 0 0 (natLe 1 8 ++ natLe 39 0 ++ natLe 2 0 ++ natLe 2 0 ++ natLe 20 0)).adminFree 0 0).finish 3
      (ansErr snHwFault)) = true)) :=
  ⟨taken_all _ (by decide +kernel), takenGranted 0x0801 1 _ _ 16 (by decide +kernel),
    takenGranted 0x0802 1 _ _ 8 (by decide +kernel), takenGranted 0x0803 1 _ _ 88 (by decide +kernel), by decide +kernel⟩

theorem witness_SnimaSessionCommandsComplete :
    (∀ e ∈ [(0x0301, 56, sessGenerateTurn), (0x0302, 8, sessExportTurn), (0x0303, 56, sessPolicyTurn),
      (0x0304, 8, sessDestroyTurn), (0x0306, 16, sessMigrateOutTurn), (0x0307, 16, sessAdoptTurn)],
      TakenGranted e.1 1 (lenIs e.2.1) e.2.2) ∧
    TakenGranted 0x0300 1 importLen sessImportTurn ∧ TakenGranted 0x0305 0 (lenIs 8) sessQueryTurn ∧
    (let s := { snimaOn with crypto := { up.crypto with listed := [⟨1, 0, 9⟩] } }; Running s ∧ s.snimaUp = true ∧
    s.crypto.listed.find? (fun e => !s.held 32 [.session e.sess]) = some ⟨1, 0, 9⟩ ∧ 1 < 2 ^ s.snima.layout.sessLog2 ∧
    (let u := ({ s with crypto := { s.crypto with listed := [] } } : State).mcRead (sessAddr 1) 128; let b := List.replicate 128 0;
    u.1 = some b ∧ ctxEpoch b = 0 ∧ s.granted (({ u.2 with crypto := { u.2.crypto with fills := [] } } : State).mcWrite
      (sessAddr 1) (ctxAddUsed b 9)) = true)) :=
  ⟨takenGranted_all _ (by decide +kernel), takenGranted 0x0300 1 _ _ 128 (by decide +kernel),
    takenGranted 0x0305 0 _ _ 8 (by decide +kernel), by decide +kernel⟩

theorem witness_SnimaOperatorAndFirmwareCommandsComplete :
    (∀ e ∈ [(0x0308, 0, 67), (0x0309, 1, 75), (0x030A, 1, 8), (0x030B, 0, 0), (0x0501, 1, 8), (0x0502, 1, 8), (0x0503, 1, 8),
      (0x0504, 0, 0)], Taken e.1 e.2.1 (lenIs e.2.2)) ∧
    TakenGranted 0x0400 0 (lenIs 40) attReportTurn ∧ TakenGranted 0x0401 0 (lenIs 8) attCertTurn ∧
    TakenGranted 0x0500 1 (lenIs 16) (fwStageTurn true) :=
  ⟨taken_all _ (by decide +kernel), takenGranted 0x0400 0 _ _ 40 (by decide +kernel),
    takenGranted 0x0401 0 _ _ 8 (by decide +kernel), takenGranted 0x0500 1 _ _ 16 (by decide +kernel)⟩

theorem witness_SnimaFleetAndStoreCommandsComplete :
    (∀ e ∈ [(0x0600, 0, 0), (0x0601, 1, 8), (0x0602, 1, 72), (0x0603, 1, 72), (0x0604, 1, 0), (0x0605, 1, 16), (0x0607, 0, 48)],
      Taken e.1 e.2.1 (lenIs e.2.2)) ∧
    (∀ e ∈ [(0x0700, 1, 8), (0x0701, 1, 8), (0x0704, 0, 0), (0x0705, 1, 8), (0x0702, 1, 8)], Taken e.1 e.2.1 (lenIs e.2.2)) ∧
    Taken 0x0606 0 relayLen ∧ TakenGranted 0x0608 1 (lenIs 24) recSendTurn ∧
    TakenGranted 0x0703 1 (lenIs 8) (cryptoKatTurn .started) ∧
    ((let s := snimaOn.setBox 3 { mailbox0 with busy := some ⟨ask0 0x0702 3, none, 5, 0⟩ }; Running s ∧ s.snimaUp = true ∧
    (s.box 3).busy = some ⟨ask0 0x0702 3, none, 5, 0⟩ ∧ msgCmd (ask0 0x0702 3) = 0x0702 ∧ (s.box 3).respWait = none) ∧
    (let p := snimaOn.pass 5; Running p ∧ p.snimaUp = true ∧ p.snima.kats.find? (fun k => k.2.2 = none) = none ∧
    ((List.range 45).map (fun i => (p.snima.nextBgKat + i) % 45)).find? (fun i => !p.unitOut (bgUnit i).1 (bgUnit i).2) = some 0 ∧
    p.snima.kats.any (fun k => k.1 = (bgUnit 0).1) = false ∧ p.bgKatDue = true ∧
    p.granted (State.follows { p with snima := { p.snima with
      kats := p.snima.kats ++ [((bgUnit 0).1, (bgUnit 0).2, none)], nextBgKat := (0 + 1) % 45, lastBgKat := some p.clock } }) = true) ∧
    (let p := ({ snimaOn with snima := { up.snima with kats := [(1, 3, none)] } }).pass 5; Running p ∧ p.snimaUp = true ∧
    p.snima.kats.find? (fun k => k.2.2 = none) = some (1, 3, none) ∧ (p.unitUser 1 3).isSome = false ∧
    p.granted (p.katEnds 1 3 true).follows = true)) :=
  ⟨taken_all _ (by decide +kernel), taken_all _ (by decide +kernel), taken 0x0606 0 _ 24 (by decide +kernel),
    takenGranted 0x0608 1 _ _ 24 (by decide +kernel), takenGranted 0x0703 1 _ _ 8 (by decide +kernel), by decide +kernel⟩

end Sys2Proof.Tests
end

section
/-! PROOFS. The scope's obligations (00_scope.md): numbers in memory, register reads, and the plain registers' writes. -/

namespace Sys2Proof

/-! ### Little-endian bytes (R4) -/

@[simp] theorem length_natLe (n v : Nat) : (natLe n v).length = n := by
  induction n generalizing v with
  | zero => rfl
  | succ n ih => simp [natLe, ih]

/-- The bytes of a number give back its low `8n` bits. -/
theorem leNat_natLe (n v : Nat) : leNat (natLe n v) = v % 2 ^ (8 * n) := by
  induction n generalizing v with
  | zero => simp [natLe, leNat, Nat.mod_one]
  | succ n ih =>
    calc leNat (natLe (n + 1) v) = v % 256 + 256 * (v / 256 % 2 ^ (8 * n)) := by simp [natLe, leNat, ih]
      _ = v % (256 * 2 ^ (8 * n)) := Nat.mod_mul.symm
      _ = v % 2 ^ (8 * (n + 1)) := by rw [Nat.mul_succ, Nat.add_comm, Nat.pow_add]

theorem getElem?_natLe {n i : Nat} (v : Nat) (h : i < n) : (natLe n v)[i]? = some (BitVec.ofNat 8 (v / 2 ^ (8 * i))) := by
  induction i generalizing n v with
  | zero => obtain ⟨n, rfl⟩ := Nat.exists_eq_add_of_lt h; simp [natLe]
  | succ i ih =>
    cases n with
    | zero => omega
    | succ n =>
      have shift : v / 256 / 2 ^ (8 * i) = v / 2 ^ (8 * (i + 1)) := by
        rw [Nat.div_div_eq_div_mul, Nat.mul_succ, Nat.add_comm, Nat.pow_add]
      simp [natLe, ih (v / 256) (Nat.lt_of_succ_lt_succ h), shift]

theorem leNat_lt (b : List Byte) : leNat b < 2 ^ (8 * b.length) := by
  induction b with
  | nil => decide
  | cons x b ih =>
    have := x.isLt
    rw [leNat, List.length_cons, Nat.mul_succ, Nat.pow_add]
    omega

theorem natLe_leNat (b : List Byte) : natLe b.length (leNat b) = b := by
  induction b with
  | nil => rfl
  | cons x b ih =>
    have hx := x.isLt
    have high : (x.toNat + 256 * leNat b) / 256 = leNat b := by omega
    have low : BitVec.ofNat 8 (x.toNat + 256 * leNat b) = x := BitVec.eq_of_toNat_eq (by simp; omega)
    rw [leNat, List.length_cons, natLe, high, ih, low]

/-- Settles O38: a number's bytes and the number that bytes give are inverse to each other, by induction over the bytes. -/
theorem numbersAreLittleEndian : Obligations.NumbersAreLittleEndian :=
  ⟨fun n v => ⟨length_natLe n v, leNat_natLe n v⟩, fun _ v _ h => getElem?_natLe v h,
    fun b => ⟨natLe_leNat b, leNat_lt b⟩⟩

end Sys2Proof

namespace Sys2Proof.Machine

variable {s : State}

/-! ### Reads of a register (R6, R54, R58) -/

/-- The registers whose read is more than their view and the bits that it clears: Time's snapshot (R36), locks (R58) and posts (R67). -/
def RegKind.readsApart : RegKind → Bool
  | .timeNowLo | .timeNowHi | .lckSem | .mbxInPost | .mbxOutPost => true
  | _ => false

/-- A read of any other register answers its view and clears the RC bits that the access covers. -/
theorem State.regRead_plain {r : Reg} (h : r.kind.readsApart = false) (s : State) (m : BitVec 8) (acc : Acc) :
    s.regRead m r acc = (s.afterRead r (r.kind.info.rc &&& accMask acc)).reply (accBytes acc (s.view r)) := by
  have read : s.readReg m.toNat r acc = (s.view r, s.afterRead r (r.kind.info.rc &&& accMask acc)) := by
    unfold State.readReg
    dsimp only
    split
    case h_6 => rfl
    all_goals simp_all [RegKind.readsApart]
  rw [State.regRead, read]

/-- A register's read in a part that runs has its effect. -/
theorem live_regRead {r : Reg} {m : BitVec 8} {acc : Acc} {t : State} (run : Running s) (e : s.regRead m r acc = t) :
    live s (·.regRead m r acc) = .next (noRewind s t) := by
  rw [live_running run, e]

/-- A read of a free lock takes it for the master that reads, and answers 0. -/
theorem State.regRead_lock_free {n : Nat} {acc : Acc} (m : BitVec 8) (lo : acc ≠ .hi) (free : s.bit .lckSem 8 n = false) :
    s.regRead m ⟨.lckSem, n, 0⟩ acc = (s.setRg .lckSem (0x100 + m.toNat) n).reply (accBytes acc 0) := by
  have hm : m.toNat % 256 = m.toNat := Nat.mod_eq_of_lt m.isLt
  simp [State.regRead, State.readReg, lo, free, hm]

/-- A read of a lock that is held answers who holds it. -/
theorem State.regRead_lock_held {n : Nat} {acc : Acc} (m : BitVec 8) (lo : acc ≠ .hi) (held : s.bit .lckSem 8 n = true) :
    s.regRead m ⟨.lckSem, n, 0⟩ acc = s.reply (accBytes acc (0x100 + s.fld .lckSem 7 0 n)) := by
  simp [State.regRead, State.readReg, lo, held]

/-- A read of a lock's bits [63:32] alone answers 0 and takes nothing. -/
theorem State.regRead_lock_hi (s : State) (m : BitVec 8) (n : Nat) : s.regRead m ⟨.lckSem, n, 0⟩ .hi = s.reply (natLe 4 0) := by
  simp [State.regRead, State.readReg, accBytes]

/-- Settles O3: every row but the lock's is the read of a register that reads plainly; a lock's read has the three cases of R58. -/
theorem registerReadsComplete : Obligations.RegisterReadsComplete := by
  refine ⟨?logLost, ?carMergeCnt, ?fltErrLost, ?fltStale, ?fltTmoCnt, ?arbTether, ?ircDamp, ?fnzPort, ?lnkEvt, ?anaPace,
    ?lockFree, ?lockHeld, ?lockHigh⟩
  case logLost | carMergeCnt | fltErrLost | fltStale | fltTmoCnt =>
    exact fun s m acc run => live_regRead run (State.regRead_plain rfl s m acc)
  case arbTether | ircDamp | fnzPort | lnkEvt | anaPace =>
    exact fun s m n acc run => live_regRead run (State.regRead_plain rfl s m acc)
  case lockFree => exact fun s m n acc run lo free => live_regRead run (State.regRead_lock_free m lo free)
  case lockHeld => exact fun s m n acc run lo held => live_regRead run (State.regRead_lock_held m lo held)
  case lockHigh => exact fun s m n run => live_regRead run (State.regRead_lock_hi s m n)

/-! ### Writes of plain registers (R6, R55) -/

/-- A command's end leaves the Time since which PPS_OUT looks for a crossing. -/
@[simp] theorem noRewind_ppsMark (s t : State) : (noRewind s t).time.ppsMark = t.time.ppsMark := by
  obtain ⟨i, a, w, h⟩ := t.afterwards_eq
  unfold noRewind aside
  rw [h]
  dsimp only
  split <;> rfl

/-- A part that runs, out of Lockdown, 1 unit of Time after PPS_OUT began to look for a crossing. -/
def ppsWatching : State :=
  { State.reset with power := { State.reset.power with coldReset := false }, time := { State.reset.time with now := 1 } }

/-- A write of TIME_PPS moves the mark from 0 to the present Time. -/
theorem timePpsWrite_moves_ppsMark :
    ∃ t, exec (.registerWrite 0 (Reg.offset ⟨.timePps, 0, 0⟩) .full 0) ppsWatching = .next t ∧ t.time.ppsMark = 1 :=
  ⟨_, rfl, by decide +kernel⟩

/-- Refutes O47: TIME_PPS acts through more than its bits. A write of it sets `ppsMark`, the Time since which PPS_OUT looks for a crossing
of OFS (R35), to the present Time, so the time core does not stay: here it goes from 0 to 1. -/
theorem not_plainRegistersTakeTheBitsWritten : ¬ Obligations.PlainRegistersTakeTheBitsWritten := by
  unfold Obligations.PlainRegistersTakeTheBitsWritten
  intro h
  obtain ⟨t, next, -, -, stays, -⟩ := h ppsWatching 0 ⟨.timePps, 0, 0⟩ .full 0 (by decide +kernel) rfl (by decide) (by decide +kernel)
  obtain ⟨u, next', mark⟩ := timePpsWrite_moves_ppsMark
  obtain rfl : t = u := Host.Outcome.next.inj (next.symm.trans next')
  have kept : t.time.ppsMark = 0 := by rw [stays, noRewind_ppsMark]; rfl
  omega

end Sys2Proof.Machine
end

section
/-! PROOFS. The address map's obligations (03_address_map.md): zone 0, the register map, locks and mailboxes, accesses by offset, and inbound
writes of the Central Store. -/

namespace Sys2Proof.Machine

variable {s : State}

/-! ### Zone 0 (R47) -/

theorem placeOf_eq_store {a : Nat} : placeOf a = .store ↔ a ≤ 0x3FFFFFFF := by
  unfold placeOf
  split_ifs <;> simp <;> omega

theorem placeOf_eq_regs {a off : Nat} : placeOf a = .regs off ↔ a = 0x1000000000 + off ∧ off < 64 * 2 ^ 20 := by
  unfold placeOf
  split_ifs <;> simp <;> omega

theorem placeOf_eq_chime {a off : Nat} : placeOf a = .chime off ↔ a = 0x1004000000 + off ∧ off < 16 * 2 ^ 20 := by
  unfold placeOf
  split_ifs <;> simp <;> omega

theorem placeOf_eq_outside {a : Nat} : placeOf a = .outside ↔
    ¬ a ≤ 0x3FFFFFFF ∧ ¬ (0x1000000000 ≤ a ∧ a ≤ 0x1003FFFFFF) ∧ ¬ (0x1004000000 ≤ a ∧ a ≤ 0x1004FFFFFF) := by
  unfold placeOf
  split_ifs <;> simp <;> omega

/-- The registers of Chime page `q` are those of queue `q`. -/
theorem chimeAt?_page {q o p : Nat} {cq : Bool} (ho : o < 0x1000) (h : chimeAt? (q * 0x1000 + o) = some (p, cq)) : p = q := by
  have page : (q * 0x1000 + o) / 0x1000 = q := by omega
  unfold chimeAt? at h
  rw [page] at h
  split_ifs at h
  all_goals
    obtain ⟨rfl, -⟩ := Prod.mk.inj (Option.some.inj h)
    rfl

/-- Settles O45: each range of R47 is one branch of `placeOf`, and a Chime page's offset lies in the window. -/
theorem zone0Map : Obligations.Zone0Map :=
  ⟨fun _ => placeOf_eq_store, fun _ _ => placeOf_eq_regs, fun _ _ => placeOf_eq_chime, fun _ => placeOf_eq_outside,
    fun q o _ _ hq ho => ⟨placeOf_eq_chime.2 ⟨by omega, by omega⟩, chimeAt?_page ho⟩⟩

/-! ### The register map (R52, R53, R362) -/

/-- Windows of one length that start at every stride from a base on: where the registers of one name lie. -/
structure Strip where
  base : Nat
  n : Nat
  stride : Nat
  len : Nat

def Strip.Holds (a : Strip) (off : Nat) : Prop := ∃ i < a.n, ∃ x < a.len, off = a.base + i * a.stride + x

/-- The windows of one strip end before those of another begin. -/
def Strip.before (a b : Strip) : Bool := a.base + (a.n - 1) * a.stride + a.len ≤ b.base

/-- Two strips of one stride, within which the windows of the first end before those of the second begin. -/
def Strip.within (a b : Strip) : Bool :=
  a.stride = b.stride && a.base % a.stride + a.len ≤ b.base % a.stride && b.base % a.stride + b.len ≤ a.stride

def Strip.apart (a b : Strip) : Bool := a.before b || b.before a || a.within b || b.within a

theorem Strip.Holds.lt_of_before {a b : Strip} {o p : Nat} (h : a.before b = true) (ha : a.Holds o) (hb : b.Holds p) : o < p := by
  obtain ⟨i, hi, x, hx, rfl⟩ := ha
  obtain ⟨j, -, y, -, rfl⟩ := hb
  have last : i * a.stride ≤ (a.n - 1) * a.stride := Nat.mul_le_mul_right _ (by omega)
  simp only [Strip.before, decide_eq_true_eq] at h
  omega

/-- The place within its stride of an offset that a strip holds. -/
theorem Strip.Holds.mod {a : Strip} {o : Nat} (fits : a.base % a.stride + a.len ≤ a.stride) (h : a.Holds o) :
    a.base % a.stride ≤ o % a.stride ∧ o % a.stride < a.base % a.stride + a.len := by
  obtain ⟨i, -, x, hx, rfl⟩ := h
  have place : (a.base + i * a.stride + x) % a.stride = a.base % a.stride + x := by
    rw [Nat.add_right_comm, Nat.add_mul_mod_self_right, Nat.add_mod, Nat.mod_eq_of_lt (by omega : x < a.stride),
      Nat.mod_eq_of_lt (by omega)]
  omega

theorem Strip.Holds.mod_lt_of_within {a b : Strip} {o p : Nat} (h : a.within b = true) (ha : a.Holds o) (hb : b.Holds p) :
    o % a.stride < p % a.stride := by
  simp only [Strip.within, Bool.and_eq_true, decide_eq_true_eq] at h
  obtain ⟨⟨same, ends⟩, fits⟩ := h
  have first := ha.mod (by omega)
  have second := hb.mod (by rwa [← same])
  rw [← same] at second
  omega

/-- Strips that lie apart share no offset. -/
theorem Strip.Holds.ne_of_apart {a b : Strip} {o p : Nat} (h : a.apart b = true) (ha : a.Holds o) (hb : b.Holds p) : o ≠ p := by
  rintro rfl
  simp only [Strip.apart, Bool.or_eq_true] at h
  rcases h with ((h | h) | h) | h
  · exact Nat.lt_irrefl _ (ha.lt_of_before h hb)
  · exact Nat.lt_irrefl _ (hb.lt_of_before h ha)
  · exact Nat.lt_irrefl _ (ha.mod_lt_of_within h hb)
  · exact Nat.lt_irrefl _ (hb.mod_lt_of_within h ha)

/-- Where the registers of a name lie: a link block's in the first pages of the six 1 MiB blocks of R362. -/
def RegKind.strip (k : RegKind) : Strip :=
  if k.isLink then ⟨0x3000000 + k.info.base, 6, 0x100000, 0x10001⟩
  else ⟨k.info.base, k.info.n1, k.info.s1, (k.info.n2 - 1) * k.info.s2 + 1⟩

/-- A name's line of the register map: a link block's register lies in its link's page, any other's groups do not overlap; all are aligned and
within the 64 MiB. -/
def RegKind.mapped (k : RegKind) : Bool :=
  let f := k.info
  f.base % 8 = 0 &&
    if k.isLink then decide (f.base < 0x10000)
    else f.s1 % 8 = 0 && f.s2 % 8 = 0 && 0 < f.s2 && (f.n2 - 1) * f.s2 < f.s1 && f.base + (f.n1 - 1) * f.s1 + (f.n2 - 1) * f.s2 < 64 * 2 ^ 20

/-- Two names whose registers share no offset: two of link blocks by their places in the block, others by their strips. -/
def RegKind.apart (k l : RegKind) : Bool := (k.isLink && l.isLink && k.info.base != l.info.base) || k.strip.apart l.strip

theorem RegKind.mem_all (k : RegKind) : k ∈ RegKind.all := by cases k <;> decide

theorem RegKind.mapped_all : ∀ k ∈ RegKind.all, k.mapped = true := by decide +kernel

theorem RegKind.apart_all : RegKind.all.Pairwise (fun k l => k.apart l = true) := by decide +kernel

theorem RegKind.mapped_link {k : RegKind} (h : k.isLink = true) : k.info.base % 8 = 0 ∧ k.info.base < 0x10000 := by
  simpa [RegKind.mapped, h] using RegKind.mapped_all k k.mem_all

theorem RegKind.mapped_array {k : RegKind} (h : k.isLink = false) :
    (k.info.base % 8 = 0 ∧ k.info.s1 % 8 = 0 ∧ k.info.s2 % 8 = 0) ∧ 0 < k.info.s2 ∧ (k.info.n2 - 1) * k.info.s2 < k.info.s1 ∧
      k.info.base + (k.info.n1 - 1) * k.info.s1 + (k.info.n2 - 1) * k.info.s2 < 64 * 2 ^ 20 := by
  have := RegKind.mapped_all k k.mem_all
  simp [RegKind.mapped, h] at this
  tauto

theorem Reg.valid_link {r : Reg} (h : r.kind.isLink = true) :
    r.valid = true ↔ r.i < 10 ∧ r.j = 0 ∧ (2 ≤ r.i ∨ (r.kind ≠ .bkpWin ∧ r.kind ≠ .bkpIrq)) := by
  simp [Reg.valid, h, and_assoc]

theorem Reg.valid_array {r : Reg} (h : r.kind.isLink = false) : r.valid = true ↔ r.i < r.kind.info.n1 ∧ r.j < r.kind.info.n2 := by
  simp [Reg.valid, h]

theorem Reg.offset_link {r : Reg} (h : r.kind.isLink = true) : r.offset = linkBase r.i + r.kind.info.base := by simp [Reg.offset, h]

theorem Reg.offset_array {r : Reg} (h : r.kind.isLink = false) :
    r.offset = r.kind.info.base + r.i * r.kind.info.s1 + r.j * r.kind.info.s2 := by simp [Reg.offset, h]

/-- A register of an array lies within its group, and the last one bounds every other. -/
theorem Reg.array_bounds {r : Reg} (h : r.kind.isLink = false) (v : r.valid = true) :
    r.i * r.kind.info.s1 ≤ (r.kind.info.n1 - 1) * r.kind.info.s1 ∧ r.j * r.kind.info.s2 ≤ (r.kind.info.n2 - 1) * r.kind.info.s2 := by
  obtain ⟨hi, hj⟩ := (Reg.valid_array h).1 v
  exact ⟨Nat.mul_le_mul_right _ (by omega), Nat.mul_le_mul_right _ (by omega)⟩

/-! ### The page of a link (R362) -/

theorem linkBase_page (k : Nat) : linkBase k % 0x10000 = 0 := by
  unfold linkBase
  split <;> omega

theorem linkOfPage_linkBase : ∀ k < 10, (List.range 10).find? (fun l => linkBase l / 0x10000 = linkBase k / 0x10000) = some k := by decide

theorem linkOfPage_offset {k b : Nat} (hk : k < 10) (hb : b < 0x10000) : linkOfPage (linkBase k + b) = some k := by
  have page : (linkBase k + b) / 0x10000 = linkBase k / 0x10000 := by have := linkBase_page k; omega
  rw [linkOfPage, page, linkOfPage_linkBase k hk]

theorem linkOfPage_lt {off k : Nat} (h : linkOfPage off = some k) : k < 10 := List.mem_range.1 (List.mem_of_find?_eq_some h)

/-- Link blocks start at the first or second page of one of six 1 MiB blocks. -/
theorem linkBase_holds {k b : Nat} (hk : k < 10) : Strip.Holds ⟨0x3000000 + b, 6, 0x100000, 0x10001⟩ (linkBase k + b) := by
  unfold linkBase
  split
  · exact ⟨k, by dsimp only; omega, 0, by dsimp only; omega, by dsimp only; omega⟩
  · exact ⟨2 + (k - 2) / 2, by dsimp only; omega, (k - 2) % 2 * 0x10000, by dsimp only; omega, by dsimp only; omega⟩

/-! ### Where registers lie -/

/-- Registers are aligned and lie in the register space. -/
theorem Reg.offset_aligned {r : Reg} (v : r.valid = true) : r.offset % 8 = 0 ∧ r.offset < 64 * 2 ^ 20 := by
  cases h : r.kind.isLink
  case false =>
    obtain ⟨⟨base, s1, s2⟩, -, -, last⟩ := RegKind.mapped_array h
    obtain ⟨groups, places⟩ := Reg.array_bounds h v
    rw [Reg.offset_array h]
    refine ⟨?_, by omega⟩
    simp [Nat.add_mod, Nat.mul_mod, base, s1, s2]
  case true =>
    obtain ⟨base, small⟩ := RegKind.mapped_link h
    obtain ⟨hi, -, -⟩ := (Reg.valid_link h).1 v
    rw [Reg.offset_link h]
    unfold linkBase
    split <;> omega

/-- A register lies in the strip of its name. -/
theorem Reg.holds_offset {r : Reg} (v : r.valid = true) : r.kind.strip.Holds r.offset := by
  cases h : r.kind.isLink
  case false =>
    have bounds := Reg.array_bounds h v
    rw [Reg.offset_array h, RegKind.strip, h]
    exact ⟨r.i, ((Reg.valid_array h).1 v).1, _, Nat.lt_succ_of_le bounds.2, rfl⟩
  case true =>
    rw [Reg.offset_link h, RegKind.strip, h]
    exact linkBase_holds ((Reg.valid_link h).1 v).1

/-- Registers of two names that lie apart share no offset. -/
theorem Reg.offset_ne_of_apart {r q : Reg} (h : r.kind.apart q.kind = true) (vr : r.valid = true) (vq : q.valid = true) :
    r.offset ≠ q.offset := by
  simp only [RegKind.apart, Bool.or_eq_true, Bool.and_eq_true, bne_iff_ne] at h
  rcases h with ⟨⟨lr, lq⟩, ne⟩ | h
  · rw [Reg.offset_link lr, Reg.offset_link lq]
    have := linkBase_page r.i
    have := linkBase_page q.i
    have := (RegKind.mapped_link lr).2
    have := (RegKind.mapped_link lq).2
    omega
  · exact Strip.Holds.ne_of_apart h (Reg.holds_offset vr) (Reg.holds_offset vq)

/-- No register of one name lies where one of the other does. -/
def RegKind.Parted (k l : RegKind) : Prop :=
  ∀ r q : Reg, r.kind = k → q.kind = l → r.valid = true → q.valid = true → r.offset ≠ q.offset

theorem RegKind.parted_symm : Std.Symm RegKind.Parted := ⟨fun _ _ h r q hr hq vr vq => (h q r hq hr vq vr).symm⟩

/-- One offset has one name. -/
theorem Reg.kind_eq_of_offset {r q : Reg} (vr : r.valid = true) (vq : q.valid = true) (e : r.offset = q.offset) : r.kind = q.kind := by
  have parted : RegKind.all.Pairwise RegKind.Parted :=
    RegKind.apart_all.imp (by rintro _ _ h r q rfl rfl; exact Reg.offset_ne_of_apart h)
  have := RegKind.parted_symm
  by_contra ne
  exact parted.forall r.kind.mem_all q.kind.mem_all ne r q rfl rfl vr vq e

/-! ### Names tried against an offset -/

/-- What a name finds at an offset is a register of that name that lies there. -/
theorem RegKind.at?_some {k : RegKind} {off : Nat} {r : Reg} (h : k.at? off = some r) : r.kind = k ∧ r.valid = true ∧ r.offset = off := by
  unfold RegKind.at? at h
  cases link : k.isLink
  case false =>
    simp only [link, Bool.false_eq_true, if_false] at h
    split at h
    · cases h
    · split at h
      · obtain ⟨hi, aligned, hj⟩ := ‹_ ∧ _›
        cases h
        refine ⟨rfl, (Reg.valid_array link).2 ⟨hi, hj⟩, ?_⟩
        rw [Reg.offset_array link]
        have groups := Nat.div_add_mod' (off - k.info.base) k.info.s1
        have places := Nat.div_mul_cancel (Nat.dvd_of_mod_eq_zero aligned)
        dsimp only at groups places ⊢
        omega
      · cases h
  case true =>
    simp only [link, if_true] at h
    split at h
    · split at h
      · obtain ⟨place, present⟩ := ‹_ ∧ _›
        cases h
        exact ⟨rfl, (Reg.valid_link link).2 ⟨linkOfPage_lt ‹_›, rfl, present⟩, (Reg.offset_link link).trans place⟩
      · cases h
    · cases h

/-- A name finds each of its registers. -/
theorem Reg.at?_offset {r : Reg} (v : r.valid = true) : r.kind.at? r.offset = some r := by
  obtain ⟨k, i, j⟩ := r
  unfold RegKind.at?
  cases link : k.isLink
  case false =>
    obtain ⟨hi, hj⟩ := (Reg.valid_array link).1 v
    obtain ⟨-, places⟩ := Reg.array_bounds link v
    obtain ⟨-, pos, inst, -⟩ := RegKind.mapped_array link
    rw [Reg.offset_array link]
    dsimp only at *
    have small : j * k.info.s2 < k.info.s1 := by omega
    have d : k.info.base + i * k.info.s1 + j * k.info.s2 - k.info.base = j * k.info.s2 + i * k.info.s1 := by omega
    have ge : ¬ k.info.base + i * k.info.s1 + j * k.info.s2 < k.info.base := by omega
    simp [ge, d, Nat.add_mul_div_right _ _ (Nat.zero_lt_of_lt small), Nat.div_eq_of_lt small, Nat.mod_eq_of_lt small,
      hi, hj, Nat.mul_div_cancel _ pos]
  case true =>
    obtain ⟨hi, rfl, present⟩ := (Reg.valid_link link).1 v
    rw [Reg.offset_link link]
    dsimp only at *
    simp [linkOfPage_offset hi (RegKind.mapped_link link).2, present]

/-- What is found at an offset lies there. -/
theorem regAt?_some {off : Nat} {r : Reg} (h : regAt? off = some r) : r.valid = true ∧ r.offset = off := by
  obtain ⟨k, -, e⟩ := List.exists_of_findSome?_eq_some h
  exact (RegKind.at?_some e).2

/-- Every register is found at its offset. -/
theorem regAt?_offset {r : Reg} (v : r.valid = true) : regAt? r.offset = some r := by
  have found : (regAt? r.offset).isSome = true :=
    List.findSome?_isSome_iff.2 ⟨r.kind, r.kind.mem_all, by rw [Reg.at?_offset v]; rfl⟩
  obtain ⟨q, e⟩ := Option.isSome_iff_exists.1 found
  obtain ⟨vq, same⟩ := regAt?_some e
  have finds := Reg.at?_offset vq
  rw [Reg.kind_eq_of_offset vq v same, same, Reg.at?_offset v] at finds
  rw [e, finds]

/-- Settles O46: a register lies in the strip of its name, the strips of the names lie apart, and a name finds each of its own registers. -/
theorem everyRegisterIsFoundAtItsOffset : Obligations.EveryRegisterIsFoundAtItsOffset :=
  ⟨fun _ v => ⟨regAt?_offset v, Reg.offset_aligned v⟩,
    fun _ _ vr vq e => Option.some.inj ((regAt?_offset vr).symm.trans ((congrArg regAt? e).trans (regAt?_offset vq))),
    fun _ _ h => regAt?_some h⟩

/-! ### Writes of registers (R6, R55) -/

/-- Registers behind which no queue, mover or link stands, so that a write of them is never ignored. -/
def RegKind.standsAlone (k : RegKind) : Bool :=
  !(k.isSqCfg || k.isCqCfg || k.isShadow || k.isLink || k = .sqCtl || k = .cqCtl || k = .movCtl || k = .gctlRst)

theorem State.ignoresWrite_standsAlone {r : Reg} (h : r.kind.standsAlone = true) (s : State) : s.ignoresWrite r = false := by
  simp [RegKind.standsAlone] at h
  simp [State.ignoresWrite, h]

theorem State.writeReg_standsAlone {r : Reg} (h : r.kind.standsAlone = true) (s : State) (m : Nat) (acc : Acc) (d : Nat) :
    s.writeReg m r acc d = s.writePlain m r acc d := by
  simp [RegKind.standsAlone] at h
  exact if_neg h.2

/-- A write that covers no RW field and sets no W1C bit acts through the WO fields alone. -/
theorem State.writeReg_wo {r : Reg} {acc : Acc} {d : Nat} (h : r.kind.standsAlone = true) (rw : r.rwMask &&& accMask acc = 0)
    (w1c : r.kind.info.w1c &&& (d &&& accMask acc) = 0) (s : State) (m : Nat) :
    s.writeReg m r acc d = s.woActs m r acc (d &&& accMask acc) s.locked := by
  simp [State.writeReg_standsAlone h, State.writePlain, State.ignoresWrite_standsAlone h, rw, w1c]

/-- A lock takes BUSY and OWNER as written, in Lockdown too (R58, R60). -/
theorem State.writeReg_lock {acc : Acc} (lo : acc ≠ .hi) (s : State) (m n d : Nat) :
    s.writeReg m ⟨.lckSem, n, 0⟩ acc d = s.setRg .lckSem ((s.rg .lckSem n &&& (2 ^ 64 - 1 - 0x1FF)) ||| (d &&& 0x1FF)) n := by
  have rw : 0x1FF &&& accMask acc = 0x1FF := by
    cases acc with
    | hi => exact absurd rfl lo
    | lo => rfl
    | full => rfl
  have data : d &&& accMask acc &&& 0x1FF = d &&& 0x1FF := by rw [Nat.and_assoc, Nat.and_comm (accMask acc), rw]
  rw [State.writeReg_standsAlone rfl, State.writePlain, State.ignoresWrite_standsAlone rfl]
  simp [Reg.rwMask, RegKind.info, rw, data, State.rwActs, State.woActs, RegKind.actsLocked]

/-- Bits [63:32] of a lock hold nothing that is written. -/
theorem State.writeReg_lock_hi (s : State) (m n d : Nat) : s.writeReg m ⟨.lckSem, n, 0⟩ .hi d = s := by
  rw [State.writeReg_wo rfl (by simp [Reg.rwMask, RegKind.info, accMask]) (Nat.zero_and _)]
  exact ite_self _

/-- A POP of 1 takes the oldest message. -/
theorem State.writeReg_pop (s : State) (m c : Nat) (out : Bool) :
    s.writeReg m ⟨if out then .mbxOutPop else .mbxInPop, c, 0⟩ .lo 1 = s.popMsg c out := by
  cases out <;> exact State.writeReg_wo rfl (Nat.zero_and _) (Nat.zero_and _) s m

/-- A write of 1 to STALE clears it (R73). -/
theorem State.writeReg_stale (s : State) (m c : Nat) : s.writeReg m ⟨.mbxStat, c, 0⟩ .hi (2 ^ 48) = s.clearStale c := by
  rw [State.writeReg_standsAlone rfl, State.writePlain, State.ignoresWrite_standsAlone rfl]
  simp [Reg.rwMask, RegKind.info, accMask, State.woActs]

/-- Outside Lockdown a write of MBX_RTO sets the time-out (R73). -/
theorem State.writeReg_rto {acc : Acc} (lo : acc ≠ .hi) (free : s.locked = false) (m c d : Nat) :
    s.writeReg m ⟨.mbxRto, c, 0⟩ acc d = s.newRto c (d % 2 ^ 24) := by
  have data : fieldOf 23 0 (d &&& accMask acc) = d % 2 ^ 24 := by
    cases acc with
    | hi => exact absurd rfl lo
    | lo => rw [fieldOf, accMask, Nat.and_two_pow_sub_one_eq_mod]; omega
    | full => rw [fieldOf, accMask, Nat.and_two_pow_sub_one_eq_mod]; omega
  have rw : 0xFFFFFF &&& accMask acc ≠ 0 := by
    cases acc with
    | hi => exact absurd rfl lo
    | lo => decide
    | full => decide
  rw [State.writeReg_standsAlone rfl, State.writePlain, State.ignoresWrite_standsAlone rfl]
  simp [Reg.rwMask, RegKind.info, State.woActs, lo, free, data, rw]

/-- A write of a register whose RW fields only hold what is written, and that has no W1C bit: in Lockdown its RW fields are stored apart
(R342), and out of it no other register changes; then its WO fields act. -/
theorem State.writeReg_held {r : Reg} (alone : r.kind.standsAlone = true) (w1c : r.kind.info.w1c = 0)
    (held : r.kind ≠ .msixTable ∧ r.kind ≠ .mbxRto) (acts : ∀ (t : State) old, t.rwActs r old = t) (s : State) (m : Nat) (acc : Acc)
    (d : Nat) : ∃ t : State, t.mbx = s.mbx ∧ (∀ k i j, Reg.offset ⟨k, i, j⟩ ≠ r.offset → t.rg k i j = s.rg k i j) ∧
      s.writeReg m r acc d = t.woActs m r acc (d &&& accMask acc) s.locked := by
  have apart := alone
  simp [RegKind.standsAlone] at apart
  rw [State.writeReg_standsAlone alone, State.writePlain, State.ignoresWrite_standsAlone alone]
  simp only [Bool.false_eq_true, if_false, w1c, Nat.zero_and, if_true, held, apart, acts]
  split
  · exact ⟨s, rfl, fun _ _ _ _ => rfl, rfl⟩
  · split
    · refine ⟨_, ?_, ?_, rfl⟩
      exacts [rfl, fun _ _ _ _ => rfl]
    · refine ⟨_, ?_, ?_, rfl⟩
      exacts [rfl, fun _ _ _ ne => State.rg_setRg_ne _ _ _ _ _ _ _ _ ne]

/-- The values that MBX_CTL is written with: PORT as it stands, and one of the four WO bits. -/
theorem testBit_mbxCtlWord : ∀ port < 4, ∀ b ∈ [0, 1, 8, 9], ∀ k ∈ [0, 1, 8, 9],
    (putField 11 10 port (2 ^ b) &&& accMask .lo).testBit k = decide (k = b) := by decide

/-- One WO bit of MBX_CTL acts (R68, R72). -/
theorem State.woActs_mbxCtl (t : State) (m c : Nat) {d b : Nat} (lock : Bool) (hb : b ∈ [0, 1, 8, 9])
    (bits : ∀ k ∈ [0, 1, 8, 9], d.testBit k = decide (k = b)) :
    t.woActs m ⟨.mbxCtl, c, 0⟩ .lo d lock = if b = 0 then t.flushMsgs c false else if b = 1 then t.flushMsgs c true
        else if b = 8 then t.bumpEpoch c false else t.bumpEpoch c true := by
  simp only [State.woActs, bits 0 (by decide), bits 1 (by decide), bits 8 (by decide), bits 9 (by decide)]
  simp only [List.mem_cons, List.not_mem_nil, or_false] at hb
  rcases hb with rfl | rfl | rfl | rfl <;> simp

/-- A write of one WO bit of MBX_CTL: PORT is stored as it stands, and the bit acts. -/
theorem State.mbxCtlBit_eq (s : State) (m : BitVec 8) (c b : Nat) (hb : b ∈ [0, 1, 8, 9]) :
    ∃ t : State, t.mbx = s.mbx ∧ (∀ k i j, Reg.offset ⟨k, i, j⟩ ≠ Reg.offset ⟨.mbxCtl, c, 0⟩ → t.rg k i j = s.rg k i j) ∧
      s.mbxCtlBit m c b = if b = 0 then t.flushMsgs c false else if b = 1 then t.flushMsgs c true
        else if b = 8 then t.bumpEpoch c false else t.bumpEpoch c true := by
  have port : fieldOf 11 10 (s.view ⟨.mbxCtl, c, 0⟩) < 4 := Nat.mod_lt _ (by decide)
  obtain ⟨t, mbx, regs, e⟩ := State.writeReg_held (r := ⟨.mbxCtl, c, 0⟩) rfl rfl ⟨nofun, nofun⟩ (fun _ _ => rfl) s m.toNat .lo
    (putField 11 10 (fieldOf 11 10 (s.view ⟨.mbxCtl, c, 0⟩)) (2 ^ b))
  exact ⟨t, mbx, regs, e.trans (State.woActs_mbxCtl t _ c _ hb (testBit_mbxCtlWord _ port b hb))⟩

/-! ### Locks (R58) -/

/-- A register's write in a part that runs has its effect. -/
theorem live_writeReg {r : Reg} {m d : Nat} {acc : Acc} {t : State} (run : Running s) (e : s.writeReg m r acc d = t) :
    live s (·.writeReg m r acc d) = .next (noRewind s t) := by
  rw [live_running run, e]

/-- After a command registers read as it left them. -/
@[simp] theorem noRewind_rg (s t : State) (k : RegKind) (i j : Nat) : (noRewind s t).rg k i j = t.rg k i j :=
  State.rg_congr noRewind_regs k i j

@[simp] theorem noRewind_fld (s t : State) (k : RegKind) (hi lo i j : Nat) : (noRewind s t).fld k hi lo i j = t.fld k hi lo i j :=
  State.fld_congr noRewind_regs k hi lo i j

@[simp] theorem State.reply_rg (s : State) (d : List Byte) (k : RegKind) (i j : Nat) : (s.reply d).rg k i j = s.rg k i j :=
  State.rg_congr rfl k i j

@[simp] theorem noRewind_box (s t : State) (c : Nat) : (noRewind s t).box c = t.box c := by simp [State.box]

/-- The nine bits of a lock take those written. -/
theorem lock_written (old d : Nat) : (((old &&& (2 ^ 64 - 1 - 0x1FF)) ||| (d &&& 0x1FF)) % 2 ^ 64) % 2 ^ 9 = d % 2 ^ 9 := by
  rw [Nat.mod_mod_of_dvd _ (by decide), Nat.or_mod_two_pow, Nat.and_mod_two_pow, Nat.and_two_pow_sub_one_eq_mod d 9]
  simp

/-- Settles O40: each clause is one case of a lock's read or write. -/
theorem locksAreTakenByReading : Obligations.LocksAreTakenByReading := by
  intro s m n run
  refine ⟨fun acc lo free => ?takes, fun acc lo held => ?held, ?readHigh, fun acc d lo => ?written, fun d => ?writeHigh⟩
  case takes =>
    refine ⟨_, live_regRead run (State.regRead_lock_free m lo free), by simp [State.reply], ?_, fun k i j ne => ?_⟩
    · have := m.isLt
      simp
      omega
    · simp [State.rg_setRg_ne _ _ _ _ _ _ _ _ ne]
  case held => exact live_regRead run (State.regRead_lock_held m lo held)
  case readHigh =>
    have high : live s (·.regRead m ⟨.lckSem, n, 0⟩ .hi) = .next (noRewind s (s.reply (natLe 4 0))) :=
      live_regRead run (State.regRead_lock_hi s m n)
    exact high
  case written =>
    refine ⟨_, live_writeReg run (State.writeReg_lock lo s m.toNat n d.toNat), ?_, fun k i j ne => ?_⟩
    · simp only [State.fld, noRewind_rg, State.rg_setRg, fieldOf, Nat.pow_zero, Nat.div_one]
      exact lock_written _ _
    · rw [noRewind_rg, State.rg_setRg_ne _ _ _ _ _ _ _ _ ne]
  case writeHigh => exact live_writeReg run (State.writeReg_lock_hi s m.toNat n d.toNat)

/-! ### Mailboxes (R66 to R73) -/

/-- A read of bits [63:32] of a post's register posts nothing. -/
theorem State.regRead_post_hi (s : State) (m : BitVec 8) (c : Nat) (out : Bool) :
    s.regRead m ⟨if out then .mbxOutPost else .mbxInPost, c, 0⟩ .hi = s.reply (natLe 4 0) := by
  cases out <;> simp [State.regRead, State.readReg, accBytes]

/-- A post that R67 lets through appends the message and answers 0 with the count. -/
theorem State.regRead_post_taken {c : Nat} {out : Bool} {acc : Acc} (m : BitVec 8) (lo : acc ≠ .hi)
    (ok : s.postRes c out (s.staged c out) = 0) :
    s.regRead m ⟨if out then .mbxOutPost else .mbxInPost, c, 0⟩ acc =
      (s.enqueue c out (s.staged c out)).reply
        (accBytes acc ((((s.enqueue c out (s.staged c out)).box c).fifo out).length * 2 ^ 16)) := by
  cases out <;> simp [State.regRead, State.readReg, State.post, lo, ok]

/-- A post that R67 refuses changes nothing and answers why, with the count. -/
theorem State.regRead_post_refused {c : Nat} {out : Bool} {acc : Acc} (m : BitVec 8) (lo : acc ≠ .hi)
    (bad : s.postRes c out (s.staged c out) ≠ 0) :
    s.regRead m ⟨if out then .mbxOutPost else .mbxInPost, c, 0⟩ acc =
      s.reply (accBytes acc (s.postRes c out (s.staged c out) + ((s.box c).fifo out).length * 2 ^ 16)) := by
  cases out <;> simp [State.regRead, State.readReg, State.post, lo, bad]

/-- A pop of a FIFO that holds messages: MBX_DEQ is stamped and the oldest message leaves (R70). -/
theorem State.popMsg_cons {t : State} {c : Nat} {out : Bool} {x : Stamp} {h : Msg} {r : List Msg} (fifo : (s.box c).fifo out = h :: r)
    (e : s.stamp 0x64 (h.enq + 1) = (x, t)) :
    s.popMsg c out = (t.logClass 6 ⟨x, 0x08, b2n out, c, msgArg h.bytes, 0⟩).setBox c
      (if out then { (s.box c).setFifo out r with timer := (t.logClass 6 ⟨x, 0x08, b2n out, c, msgArg h.bytes, 0⟩).timerFrom c r }
        else { (s.box c).setFifo out r with relayed := (s.box c).relayed.map (fun (y : Relayed) => { y with ahead := y.ahead - 1 }) }) := by
  simp [State.popMsg, fifo, e]

/-- Putting a field leaves the bits above it alone. -/
theorem putField_high (hi lo v w : Nat) (h : lo ≤ hi) : putField hi lo v w / 2 ^ (hi + 1) = w / 2 ^ (hi + 1) := by
  have split : 2 ^ (hi + 1) = 2 ^ lo * 2 ^ (hi + 1 - lo) := by rw [← Nat.pow_add]; congr 1; omega
  have below : w % 2 ^ lo + v % 2 ^ (hi + 1 - lo) * 2 ^ lo < 2 ^ (hi + 1) := by
    have low := Nat.mod_lt w (Nat.two_pow_pos lo)
    have field := Nat.mod_lt v (Nat.two_pow_pos (hi + 1 - lo))
    calc w % 2 ^ lo + v % 2 ^ (hi + 1 - lo) * 2 ^ lo < (v % 2 ^ (hi + 1 - lo) + 1) * 2 ^ lo := by rw [Nat.add_mul]; omega
      _ ≤ 2 ^ (hi + 1 - lo) * 2 ^ lo := Nat.mul_le_mul_right _ field
      _ = 2 ^ (hi + 1) := by rw [split, Nat.mul_comm]
  rw [putField, Nat.add_mul_div_right _ _ (Nat.two_pow_pos _), Nat.div_eq_of_lt below, Nat.zero_add]

theorem putField_lt {hi lo v w : Nat} (h : lo ≤ hi) (fits : hi < 64) (hw : w < 2 ^ 64) : putField hi lo v w < 2 ^ 64 := by
  have split : 2 ^ 64 = 2 ^ (hi + 1) * 2 ^ (63 - hi) := by rw [← Nat.pow_add]; congr 1; omega
  refine (Nat.div_eq_zero_iff_lt (Nat.two_pow_pos 64)).1 ?_
  rw [split, ← Nat.div_div_eq_div_mul, putField_high _ _ _ _ h, Nat.div_div_eq_div_mul, ← split, Nat.div_eq_of_lt hw]

/-- A field above the one that is put stays. -/
theorem fieldOf_putField_above {hi lo hi' lo' : Nat} (v w : Nat) (h : lo ≤ hi) (above : hi < lo') :
    fieldOf hi' lo' (putField hi lo v w) = fieldOf hi' lo' w := by
  have split : 2 ^ lo' = 2 ^ (hi + 1) * 2 ^ (lo' - (hi + 1)) := by rw [← Nat.pow_add]; congr 1; omega
  rw [fieldOf, fieldOf, split, ← Nat.div_div_eq_div_mul, putField_high _ _ _ _ h, Nat.div_div_eq_div_mul]

/-- A field is decided by the bits up to its highest. -/
theorem fieldOf_eq_mod_div {hi lo : Nat} (w : Nat) (h : lo ≤ hi) : fieldOf hi lo w = w % 2 ^ (hi + 1) / 2 ^ lo := by
  have split : 2 ^ (hi + 1) = 2 ^ lo * 2 ^ (hi + 1 - lo) := by rw [← Nat.pow_add]; congr 1; omega
  rw [split, Nat.mod_mul_right_div_self, fieldOf]

/-- A field below the one that is put stays. -/
theorem fieldOf_putField_below {hi lo hi' lo' : Nat} (v w : Nat) (h : lo ≤ hi) (h' : lo' ≤ hi') (below : hi' < lo) :
    fieldOf hi' lo' (putField hi lo v w) = fieldOf hi' lo' w := by
  have low : putField hi lo v w % 2 ^ (hi' + 1) = w % 2 ^ (hi' + 1) := by
    have d : 2 ^ (hi' + 1) ∣ 2 ^ lo := Nat.pow_dvd_pow 2 below
    rw [← Nat.mod_mod_of_dvd _ d, putField_low _ _ _ _ h, Nat.mod_mod_of_dvd _ d]
  rw [fieldOf_eq_mod_div _ h', fieldOf_eq_mod_div _ h', low]

/-! ### Fields that are put -/

section

variable (k : RegKind) (v i j : Nat) {hi lo hi' lo' : Nat} (h : lo ≤ hi) (fits : hi < 64)
include h fits

/-- A register reads with the field that was put. -/
theorem State.rg_setFld : (s.setFld k hi lo v i j).rg k i j = putField hi lo v (s.rg k i j) := by
  rw [State.setFld, State.rg_setRg, Nat.mod_eq_of_lt (putField_lt h fits (s.rg_lt k i j))]

/-- A field that was put reads back. -/
theorem State.fld_setFld : (s.setFld k hi lo v i j).fld k hi lo i j = v % 2 ^ (hi + 1 - lo) := by
  rw [State.fld, State.rg_setFld k v i j h fits, fieldOf_putField _ _ _ _ h]

/-- Fields above and below one that was put read as before. -/
theorem State.fld_setFld_above (above : hi < lo') : (s.setFld k hi lo v i j).fld k hi' lo' i j = s.fld k hi' lo' i j := by
  rw [State.fld, State.rg_setFld k v i j h fits, fieldOf_putField_above _ _ h above, State.fld]

theorem State.fld_setFld_below (h' : lo' ≤ hi') (below : hi' < lo) : (s.setFld k hi lo v i j).fld k hi' lo' i j = s.fld k hi' lo' i j := by
  rw [State.fld, State.rg_setFld k v i j h fits, fieldOf_putField_below _ _ h h' below, State.fld]

end

@[simp] theorem State.setBox_fld (s : State) (c : Nat) (x : Mailbox) (k : RegKind) (hi lo i j : Nat) :
    (s.setBox c x).fld k hi lo i j = s.fld k hi lo i j := State.fld_congr rfl k hi lo i j

@[simp] theorem State.setBox_epoch (s : State) (c e : Nat) (x : Mailbox) (out : Bool) : (s.setBox c x).epoch e out = s.epoch e out := by
  simp [State.epoch]

@[simp] theorem noRewind_epoch (s t : State) (c : Nat) (out : Bool) : (noRewind s t).epoch c out = t.epoch c out := by
  simp [State.epoch]

/-- A flush empties one FIFO, shows how many messages went, and keeps the other FIFO (R72). -/
theorem State.flushMsgs_spec (t : State) (c : Nat) (out : Bool) :
    ((t.flushMsgs c out).box c).fifo out = [] ∧ ((t.flushMsgs c out).box c).fifo (!out) = (t.box c).fifo (!out) ∧
      (if out then (t.flushMsgs c out).fld .mbxStat 38 32 c else (t.flushMsgs c out).fld .mbxStat 22 16 c) =
        ((t.box c).fifo out).length % 128 := by
  cases out <;> simp [State.flushMsgs, Mailbox.fifo, Mailbox.setFifo, State.fld_setFld]

/-- A bump raises the epoch of one FIFO, keeps that of the other, and drops the channel's key (R68, R88). -/
theorem State.bumpEpoch_spec (t : State) (c : Nat) (out : Bool) :
    (t.bumpEpoch c out).epoch c out = (t.epoch c out + 1) % 2 ^ 32 ∧ (t.bumpEpoch c out).epoch c (!out) = t.epoch c (!out) ∧
      ((t.bumpEpoch c out).box c).key = none := by
  have raised : (t.bump c out).epoch c out = (t.epoch c out + 1) % 2 ^ 32 ∧ (t.bump c out).epoch c (!out) = t.epoch c (!out) := by
    cases out <;> simp [State.bump, State.epoch, State.fld_setFld, State.fld_setFld_above, State.fld_setFld_below]
  simp [State.bumpEpoch, State.dropKey, raised]

/-- The epochs are those of MBX_EPOCH. -/
theorem State.epoch_of_rg {s t : State} {c : Nat} (h : t.rg .mbxEpoch c = s.rg .mbxEpoch c) (out : Bool) : t.epoch c out = s.epoch c out := by
  simp [State.epoch, State.fld, h]

theorem State.box_congr {s t : State} (h : t.mbx = s.mbx) (c : Nat) : t.box c = s.box c := by simp [State.box, h]

/-- A write of one WO bit of MBX_CTL in a part that runs. -/
theorem live_mbxCtlBit {m : BitVec 8} {c b : Nat} {t : State} (run : Running s) (e : s.mbxCtlBit m c b = t) :
    live s (·.mbxCtlBit m c b) = .next (noRewind s t) := by
  rw [live_running run, e]

/-- FLUSH_IN and FLUSH_OUT empty their FIFO and no other. -/
theorem exec_flush (run : Running s) (m : BitVec 8) (c : Fin 32) (out : Bool) :
    ∃ t, exec (if out then .flushOut m c else .flushIn m c) s = .next t ∧ (t.box c).fifo out = [] ∧
      (t.box c).fifo (!out) = (s.box c).fifo (!out) ∧
      (if out then t.fld .mbxStat 38 32 c else t.fld .mbxStat 22 16 c) = ((s.box c).fifo out).length % 128 := by
  obtain ⟨t, mbx, -, e⟩ := s.mbxCtlBit_eq m c (b2n out) (by cases out <;> decide)
  have acts : exec (if out then .flushOut m c else .flushIn m c) s = .next (noRewind s (t.flushMsgs c out)) := by
    cases out <;> exact live_mbxCtlBit run e
  exact ⟨_, acts, by simpa [State.box_congr mbx] using t.flushMsgs_spec c out⟩

/-- BUMP_IN and BUMP_OUT advance their epoch and no other. -/
theorem exec_bump (run : Running s) (m : BitVec 8) (c : Fin 32) (out : Bool) :
    ∃ t, exec (if out then .bumpOut m c else .bumpIn m c) s = .next t ∧ t.epoch c out = (s.epoch c out + 1) % 2 ^ 32 ∧
      t.epoch c (!out) = s.epoch c (!out) ∧ (t.box c).key = none := by
  obtain ⟨t, -, rg, e⟩ := s.mbxCtlBit_eq m c (8 + b2n out) (by cases out <;> decide)
  have acts : exec (if out then .bumpOut m c else .bumpIn m c) s = .next (noRewind s (t.bumpEpoch c out)) := by
    cases out <;> exact live_mbxCtlBit run e
  have kept : ∀ b, t.epoch c b = s.epoch c b := State.epoch_of_rg (rg _ _ _ (by simp [Reg.offset, RegKind.isLink, RegKind.info]))
  exact ⟨_, acts, by simpa [kept] using t.bumpEpoch_spec c out⟩

/-- Settles O4: a post is a read of its register and a pop a write of its own; a flush or a bump is one WO bit of MBX_CTL, and the others are
the write or the time-out of their register. -/
theorem mailboxCommandsComplete : Obligations.MailboxCommandsComplete := by
  refine ⟨?inTaken, ?inRefused, ?inHigh, ?outTaken, ?outRefused, ?outHigh, ?inPop, ?outPop, ?flushIn, ?flushOut, ?bumpIn, ?bumpOut,
    ?stale, ?staleDue, ?rto, ?timeout, ?lock⟩
  case inTaken =>
    rintro s _ m c acc run lo ok rfl
    exact live_regRead run (State.regRead_post_taken (out := false) m lo ok)
  case outTaken =>
    rintro s _ m c acc run lo ok rfl
    exact live_regRead run (State.regRead_post_taken (out := true) m lo ok)
  case inRefused =>
    rintro s m c acc _ run lo rfl bad
    exact live_regRead run (State.regRead_post_refused (out := false) m lo bad)
  case outRefused =>
    rintro s m c acc _ run lo rfl bad
    exact live_regRead run (State.regRead_post_refused (out := true) m lo bad)
  case inHigh => exact fun s m c run => live_regRead run (State.regRead_post_hi s m c false)
  case outHigh => exact fun s m c run => live_regRead run (State.regRead_post_hi s m c true)
  case inPop =>
    intro s t m c x h r run fifo e
    exact live_writeReg run ((State.writeReg_pop s m.toNat c false).trans (State.popMsg_cons (out := false) fifo e))
  case outPop =>
    rintro s t _ m c x h r run fifo e rfl
    exact live_writeReg run ((State.writeReg_pop s m.toNat c true).trans (State.popMsg_cons (out := true) fifo e))
  case lock => exact fun s m n acc d run lo => live_writeReg run (State.writeReg_lock lo s m.toNat n d.toNat)
  case stale | staleDue =>
    intro s m c run set due
    exact live_writeReg run ((State.writeReg_stale s m.toNat c).trans (by simp [State.clearStale, set, due]))
  case rto => exact fun s m c acc d free lo => live_writeReg free.1 (State.writeReg_rto lo free.2 m.toNat c d.toNat)
  case timeout =>
    rintro s _ c now t0 rfl run timer rto passed
    have fires : (s.pass now).readTimeout c = ((s.pass now).setBit .mbxStat 48 true c).setBox c { (s.pass now).box c with timer := none } := by
      simp [State.readTimeout, timer, rto, passed]
    exact (liveAt_running run now (·.readTimeout c)).trans (by rw [fires])
  case flushIn => exact fun s m c run => exec_flush run m c false
  case flushOut => exact fun s m c run => exec_flush run m c true
  case bumpIn => exact fun s m c run => exec_bump run m c false
  case bumpOut => exact fun s m c run => exec_bump run m c true

/-! ### Accesses of the register space by offset (R47, R48, R54 to R56, R369) -/

/-- A command of movers and channels in a part that runs, whose accesses are granted at once, has its effect `u` and what follows it. -/
theorem liveC_eq {f : State → State} {u z : State} (run : Running s) (e : f s = u) (hz : z = u.follows) (g : s.granted z = true) :
    liveC s f = .next (noRewind s z) := by
  subst e hz
  exact liveC_granted run g

/-- The effect of a write at an offset of the register space (R55, R56). -/
def State.offsetWrite (s : State) (m off : Nat) (acc : Acc) (d : Nat) : State :=
  if acc = .hi ∧ off % 4 = 0 then s.spaceWrite m (0x1000000000 + off / 8 * 8 + 4) acc d
  else if off % 8 = 0 then s.spaceWrite m (0x1000000000 + off) acc d
  else s.unmapped m (0x1000000000 + off) true

theorem exec_registerWrite {m : BitVec 8} {off : Nat} {acc : Acc} {d : BitVec 64} {u z : State} (run : Running s)
    (e : s.offsetWrite m.toNat off acc d.toNat = u) (hz : z = u.follows) (g : s.granted z = true) :
    exec (.registerWrite m off acc d) s = .next (noRewind s z) :=
  liveC_eq (f := (·.offsetWrite m.toNat off acc d.toNat)) run e hz g

theorem State.spaceWrite_reg {a off : Nat} {r : Reg} (place : placeOf (a / 8 * 8) = .regs off) (found : regAt? off = some r)
    (s : State) (m : Nat) (acc : Acc) (v : Nat) : s.spaceWrite m a acc v = s.writeReg m r acc v := by
  simp [State.spaceWrite, place, found]

theorem State.spaceWrite_hole {a off : Nat} (place : placeOf (a / 8 * 8) = .regs off) (hole : regAt? off = none) (s : State) (m : Nat)
    (acc : Acc) (v : Nat) : s.spaceWrite m a acc v = s.unmapped m a true := by
  simp [State.spaceWrite, place, hole]

theorem placeOf_word {off : Nat} (h : off < 0x4000000) (aligned : off % 8 = 0) : placeOf ((0x1000000000 + off) / 8 * 8) = .regs off :=
  placeOf_eq_regs.2 ⟨by omega, by omega⟩

theorem placeOf_highHalf {off : Nat} (h : off < 0x4000000) : placeOf ((0x1000000000 + off / 8 * 8 + 4) / 8 * 8) = .regs (off / 8 * 8) :=
  placeOf_eq_regs.2 ⟨by omega, by omega⟩

/-- An aligned write reaches the register at its offset, a high half by either half's offset (R55). -/
theorem State.offsetWrite_reg {off : Nat} {acc : Acc} {r : Reg} (h : off < 0x4000000) (aligned : off % 8 = 0 ∨ (acc = .hi ∧ off % 4 = 0))
    (found : regAt? (off / 8 * 8) = some r) (s : State) (m d : Nat) : s.offsetWrite m off acc d = s.writeReg m r acc d := by
  unfold State.offsetWrite
  split
  · exact State.spaceWrite_reg (placeOf_highHalf h) found s m acc d
  · have low : off % 8 = 0 := by tauto
    rw [if_pos low]
    rw [show off / 8 * 8 = off by omega] at found
    exact State.spaceWrite_reg (placeOf_word h low) found s m acc d

/-- A write of a high half that reaches no register is recorded at that half's address (R56). -/
theorem State.offsetWrite_hole_hi {off : Nat} (h : off < 0x4000000) (aligned : off % 4 = 0) (hole : regAt? (off / 8 * 8) = none)
    (s : State) (m d : Nat) : s.offsetWrite m off .hi d = s.unmapped m (0x1000000000 + off / 8 * 8 + 4) true := by
  rw [State.offsetWrite, if_pos ⟨rfl, aligned⟩, State.spaceWrite_hole (placeOf_highHalf h) hole]

/-- Any other write that reaches no register, or is not aligned, is recorded at its own address (R54, R56). -/
theorem State.offsetWrite_hole {off : Nat} {acc : Acc} (h : off < 0x4000000) (low : ¬ (acc = .hi ∧ off % 4 = 0))
    (hole : off % 8 = 0 → regAt? off = none) (s : State) (m d : Nat) :
    s.offsetWrite m off acc d = s.unmapped m (0x1000000000 + off) true := by
  rw [State.offsetWrite, if_neg low]
  split
  · exact State.spaceWrite_hole (placeOf_word h ‹_›) (hole ‹_›) s m acc d
  · rfl

/-- The effect of an access that nothing answers (R56). -/
def State.unanswered (s : State) (m a len : Nat) (write : Bool) : State :=
  if refusedAt a len then
    if engineMaster m then { (s.engineRefused m a write) with bus := ⟨[], false, some 5⟩ }
    else (s.unmapped m a write).reply (if write then [] else ones len)
  else if unmappedAt a then (s.unmapped m a write).reply (if write then [] else ones len)
  else s

theorem exec_unmappedAccess {m : BitVec 8} {addr : BitVec 64} {len : Nat} {write : Bool} {u z : State} (run : Running s)
    (e : s.unanswered m.toNat addr.toNat len write = u) (hz : z = u.follows) (g : s.granted z = true) :
    exec (.unmappedAccess m addr len write) s = .next (noRewind s z) :=
  liveC_eq (f := (·.unanswered m.toNat addr.toNat len write)) run e hz g

/-- What R54 or R47 refuses to a master that is neither mover nor channel processor is recorded and read as all-ones. -/
theorem State.unanswered_refused {m a len : Nat} (refused : refusedAt a len = true) (other : engineMaster m = false) (s : State)
    (write : Bool) : s.unanswered m a len write = (s.unmapped m a write).reply (if write then [] else ones len) := by
  rw [State.unanswered, if_pos refused, other]
  rfl

theorem exec_inbound {m : BitVec 8} {req : MemRequest} {u z : State} (run : Running s) (e : s.inbound m.toNat req = u)
    (hz : z = u.follows) (g : s.granted z = true) : exec (.inboundMemoryRequest m req) s = .next (noRewind s z) :=
  liveC_eq (f := (·.inbound m.toNat req)) run e hz g

section

variable {m : Nat} {tg : MemTarget} (reach : mayReach m tg = true)
include reach

/-- Requests of the store are read and written block by block, those of the register space and the Chime window whole (R54, R288). -/
theorem State.inbound_read_store (store : placeOf (targetAddr tg) = .store) (s : State) (n : Nat) (be : List Bool) :
    s.inbound m (.read tg n be) = { (s.inRead m (targetAddr tg) n (n + 1)).2.2 with
      bus := ⟨(s.inRead m (targetAddr tg) n (n + 1)).1, (s.inRead m (targetAddr tg) n (n + 1)).2.1, none⟩ } := by
  simp [State.inbound, reach, store]

theorem State.inbound_write_store (store : placeOf (targetAddr tg) = .store) (s : State) (d : List Byte) (be : List Bool)
    (poisoned : Bool) : s.inbound m (.write tg d be poisoned) = s.inWrite m (targetAddr tg) d be poisoned (d.length + 1) := by
  simp [State.inbound, reach, store]

variable (space : placeOf (targetAddr tg) ≠ .store)
include space

theorem State.inbound_read_space (s : State) (n : Nat) (be : List Bool) :
    s.inbound m (.read tg n be) = if be.any (!·) then (s.unmapped m (targetAddr tg) false).reply (ones n)
      else { (s.otherRead m 71 (targetAddr tg) n).2.2 with
        bus := ⟨(s.otherRead m 71 (targetAddr tg) n).1, (s.otherRead m 71 (targetAddr tg) n).2.1, none⟩ } := by
  simp only [State.inbound, reach, Bool.not_true, Bool.false_eq_true, if_false]

theorem State.inbound_write_space (s : State) (d : List Byte) (be : List Bool) (poisoned : Bool) :
    s.inbound m (.write tg d be poisoned) =
      if poisoned || be.any (!·) then s.unmapped m (targetAddr tg) true else s.otherWrite m 71 (targetAddr tg) d := by
  simp only [State.inbound, reach, Bool.not_true, Bool.false_eq_true, if_false]

end

/-- Settles O21: a write at an offset, an access that nothing answers and an inbound request each have one case for each clause. -/
theorem registerSpaceCommandsComplete : Obligations.RegisterSpaceCommandsComplete := by
  refine ⟨?reg, ?holeHigh, ?hole, ?misaligned, ?refusedRead, ?refusedWrite, ?unmappedRead, ?engine, ?storeRead, ?storeWrite, ?partRead,
    ?unsupported, ?spaceRead, ?spaceWrite, ?partWrite⟩
  case reg => exact fun s m off acc d r run h aligned found _ => exec_registerWrite run (State.offsetWrite_reg h aligned found s _ _)
  case holeHigh => exact fun s m off d run h aligned hole _ => exec_registerWrite run (State.offsetWrite_hole_hi h aligned hole s _ _)
  case hole =>
    exact fun s m off acc d run h aligned lo hole _ =>
      exec_registerWrite run (State.offsetWrite_hole h (fun x => lo x.1) (fun _ => hole) s _ _)
  case misaligned =>
    exact fun s m off acc d run h odd low _ =>
      exec_registerWrite run (State.offsetWrite_hole h (fun x => low x.symm) (fun x => absurd x odd) s _ _)
  case refusedRead => exact fun s m addr len run refused other _ => exec_unmappedAccess run (State.unanswered_refused refused other s false)
  case refusedWrite => exact fun s m addr len run refused other _ => exec_unmappedAccess run (State.unanswered_refused refused other s true)
  case unmappedRead =>
    exact fun s m addr len run refused hole _ => exec_unmappedAccess run (by rw [State.unanswered, refused, hole]; rfl)
  case engine =>
    exact fun s m addr len write run refused engine _ =>
      exec_unmappedAccess run (by rw [State.unanswered, if_pos refused, if_pos engine])
  case storeRead =>
    exact fun s t m tg n be d p run reach store e _ => exec_inbound run (by rw [State.inbound_read_store reach store, e])
  case storeWrite => exact fun s m tg d be p run reach store _ => exec_inbound run (State.inbound_write_store reach store s d be p)
  case partRead =>
    exact fun s m tg n be run reach space part _ => exec_inbound run ((State.inbound_read_space reach space s n be).trans (if_pos part))
  case unsupported =>
    refine fun s m req run h _ => exec_inbound run ?_
    cases req with
    | unsupported => rfl
    | read tg n be => exact if_pos h
    | write tg d be poisoned => exact if_pos h
  case spaceRead =>
    exact fun s t m tg n be d p run reach space whole e _ =>
      exec_inbound run (by rw [State.inbound_read_space reach space, whole, e]; rfl)
  case spaceWrite =>
    exact fun s m tg d be run reach space whole _ => exec_inbound run (by rw [State.inbound_write_space reach space, whole]; rfl)
  case partWrite =>
    exact fun s m tg d be p run reach space part _ =>
      exec_inbound run ((State.inbound_write_space reach space s d be p).trans (if_pos (by simpa using part)))

/-- A chain of steps each of which changes no more than a relation allows changes no more than it allows. -/
theorem foldl_changes {α : Type} {R : State → State → Prop} (refl : ∀ s, R s s) (trans : ∀ {s t u}, R s t → R t u → R s u)
    {f : State → α → State} (h : ∀ t a, R t (f t a)) (l : List α) (s : State) : R s (l.foldl f s) := by
  induction l generalizing s with
  | nil => exact refl s
  | cons a l ih => exact trans (h s a) (ih (f s a))

/-! ### What records leave of the Central Store -/

/-- What records change: the DOMAINs' SEQ and last TIME, the log unit, the error FIFO, the events that wait, and registers other than the
segments'. -/
def Recorded (s t : State) : Prop :=
  ∃ r a b g q v, t = { s with regs := r, time := { s.time with seqs := a, lastTime := b }, log := g, errFifo := q, events := v } ∧
    ∀ n < 64, t.rg .cstSeg n = s.rg .cstSeg n

theorem Recorded.refl (s : State) : Recorded s s := ⟨_, _, _, _, _, _, rfl, fun _ _ => rfl⟩

theorem Recorded.trans {s t u : State} (h : Recorded s t) (k : Recorded t u) : Recorded s u := by
  obtain ⟨_, _, _, _, _, _, rfl, e⟩ := h
  obtain ⟨_, _, _, _, _, _, rfl, e'⟩ := k
  exact ⟨_, _, _, _, _, _, rfl, fun n hn => (e' n hn).trans (e n hn)⟩

theorem Recorded.log (s : State) (g : LogUnit) : Recorded s { s with log := g } := ⟨_, _, _, _, _, _, rfl, fun _ _ => rfl⟩

theorem State.stamp_recorded (d after : Nat) : Recorded s (s.stamp d after).2 := ⟨_, _, _, _, _, _, rfl, fun _ _ => rfl⟩

theorem State.emit_recorded (src time hop : Nat) : Recorded s (s.emit src time hop) := by
  obtain ⟨v, e⟩ := State.emit_eq (s := s) src time hop
  rw [e]
  exact ⟨_, _, _, _, _, _, rfl, fun _ _ => rfl⟩

/-- A field of a register that is no segment's. -/
theorem State.addFld_recorded (k : RegKind) (hi lo n : Nat) (apart : ∀ g < 64, Reg.offset ⟨.cstSeg, g, 0⟩ ≠ Reg.offset ⟨k, 0, 0⟩) :
    Recorded s (s.addFld k hi lo n) :=
  ⟨_, _, _, _, _, _, rfl, fun g hg => State.rg_setRg_ne _ _ _ _ _ _ _ _ (apart g hg)⟩

theorem State.logPush_recorded (r : LogRecord) : Recorded s (s.logPush r) := by
  unfold State.logPush
  dsimp only
  split
  · exact (Recorded.log s _).trans ((Recorded.log _ _).trans (State.emit_recorded _ _ _))
  · exact Recorded.log s _

theorem State.logLost_recorded : Recorded s s.logLost := by
  unfold State.logLost
  split
  · exact Recorded.refl s
  · exact (State.stamp_recorded 0 0).trans ((Recorded.log _ _).trans (State.logPush_recorded _))

theorem State.logAlways_recorded (r : LogRecord) : Recorded s (s.logAlways r) := by
  unfold State.logAlways
  dsimp only
  split
  · exact State.logLost_recorded.trans (Recorded.log _ _)
  · exact State.logLost_recorded.trans (State.logPush_recorded r)

theorem State.errPush_recorded (r : LogRecord) : Recorded s (s.errPush r) := by
  unfold State.errPush
  split
  · exact State.addFld_recorded .fltErrLost 31 0 1 (by decide)
  · exact ⟨_, _, _, _, _, _, rfl, fun _ _ => rfl⟩

theorem State.fault_recorded (d sub unit a b after hop : Nat) : Recorded s (s.fault d sub unit a b after hop) := by
  unfold State.fault
  dsimp only
  refine (State.logLost_recorded.trans (State.stamp_recorded d after)).trans ?_
  split
  · exact (State.errPush_recorded _).trans (State.logAlways_recorded _)
  · exact (Recorded.log _ _).trans ((State.errPush_recorded _).trans (State.logAlways_recorded _))

/-- What stays where the Central Store is written: where its pages lie, Time and the clock, whether a warm reset is due, and which segments are
under self-test. -/
structure Steady (s t : State) : Prop where
  remap : t.store.remap = s.store.remap
  now : t.time.now = s.time.now
  clock : t.clock = s.clock
  due : t.power.warmDue = s.power.warmDue
  test : ∀ n < 64, t.fld .cstSeg 1 0 n = s.fld .cstSeg 1 0 n

theorem Steady.refl (s : State) : Steady s s := ⟨rfl, rfl, rfl, rfl, fun _ _ => rfl⟩

theorem Steady.trans {s t u : State} (h : Steady s t) (k : Steady t u) : Steady s u :=
  ⟨k.remap.trans h.remap, k.now.trans h.now, k.clock.trans h.clock, k.due.trans h.due, fun n hn => (k.test n hn).trans (h.test n hn)⟩

/-- What notes of the store's words change: neither its bytes nor its words' states. -/
structure Noted (s t : State) : Prop extends Steady s t where
  mem : t.store.mem = s.store.mem
  words : t.store.words = s.store.words

theorem Noted.refl (s : State) : Noted s s := ⟨Steady.refl s, rfl, rfl⟩

theorem Noted.trans {s t u : State} (h : Noted s t) (k : Noted t u) : Noted s u :=
  ⟨h.toSteady.trans k.toSteady, k.mem.trans h.mem, k.words.trans h.words⟩

theorem Recorded.noted {s t : State} (h : Recorded s t) : Noted s t := by
  obtain ⟨r, a, b, g, q, v, rfl, e⟩ := h
  exact ⟨⟨rfl, rfl, rfl, rfl, fun n hn => congrArg (fieldOf 1 0) (e n hn)⟩, rfl, rfl⟩

/-- The store's windows and lists of pages. -/
theorem Noted.pages (s : State) (i : List PageWindow) (l u : List Nat) :
    Noted s { s with store := { s.store with windows := i, lasting := l, unret := u } } :=
  ⟨⟨rfl, rfl, rfl, rfl, fun _ _ => rfl⟩, rfl, rfl⟩

theorem State.stayInPlace_noted : Noted s s.stayInPlace := by
  unfold State.stayInPlace
  split
  · exact Noted.refl s
  · exact foldl_changes Noted.refl Noted.trans (fun t p =>
      (Noted.pages t t.store.windows t.store.lasting _).trans (State.fault_recorded _ _ _ _ _ _ _).noted) _ s

theorem State.pageLasting_noted (p : Nat) : Noted s (s.pageLasting p) := by
  unfold State.pageLasting
  split
  · exact Noted.refl s
  · exact (Noted.pages s s.store.windows _ s.store.unret).trans State.stayInPlace_noted

/-! ### The words that a write meets (R280) -/

/-- What an operation does to the arbiters alone. -/
def ArbOnly (s t : State) : Prop := ∃ a l, t = { s with arb := a, acting := l }

theorem ArbOnly.refl (s : State) : ArbOnly s s := ⟨_, _, rfl⟩

theorem ArbOnly.trans {s t u : State} (h : ArbOnly s t) (k : ArbOnly t u) : ArbOnly s u := by
  obtain ⟨_, _, rfl⟩ := h
  obtain ⟨_, _, rfl⟩ := k
  exact ⟨_, _, rfl⟩

theorem ArbOnly.noted {s t : State} (h : ArbOnly s t) : Noted s t := by
  obtain ⟨a, l, rfl⟩ := h
  exact ⟨⟨rfl, rfl, rfl, rfl, fun _ _ => rfl⟩, rfl, rfl⟩

theorem State.giveCredits_arbOnly (needs : List (Nat × Nat)) : ArbOnly s (s.giveCredits needs) :=
  foldl_changes ArbOnly.refl ArbOnly.trans (fun _ _ => ⟨_, _, rfl⟩) needs s

theorem ArbOnly.arb (s : State) (a : Arbiters) : ArbOnly s { s with arb := a } := ⟨_, _, rfl⟩

theorem State.giveUpRow_arbOnly (g : Nat) : ArbOnly s (s.giveUpRow g) := by
  unfold State.giveUpRow
  split
  · split
    · exact (ArbOnly.arb s _).trans (State.giveCredits_arbOnly _)
    · exact ArbOnly.refl s
  · exact ArbOnly.refl s

theorem State.rowGranted_arbOnly (r : ArbReq) (p : Nat) : ArbOnly s (s.rowGranted r p) := by
  unfold State.rowGranted
  dsimp only
  split
  · exact (State.giveCredits_arbOnly _).trans ⟨_, _, rfl⟩
  · exact ⟨_, _, rfl⟩

theorem State.rowEnds_arbOnly (r : ArbReq) : ArbOnly s (s.rowEnds r) := (ArbOnly.arb s _).trans (State.giveCredits_arbOnly _)

/-- A claim is granted, or it blocks the command's accesses: both are the arbiters' own. -/
theorem State.claim_arbOnly (r : ArbReq) : ArbOnly s (s.claim r) := by
  unfold State.claim
  extract_lets _ block arrived _ v
  have blocks : ∀ w, ArbOnly s (block w) := fun _ => ⟨_, _, rfl⟩
  have arrives : ∀ (t : State) l, ArbOnly s t → ArbOnly s (arrived { t with acting := l }) := fun _ _ h => h.trans ⟨_, _, rfl⟩
  split
  · exact ArbOnly.refl s
  split
  · exact ArbOnly.arb s _
  split
  · exact arrives _ _ (State.rowEnds_arbOnly r)
  split
  · exact blocks _
  have freed : ArbOnly s v := State.giveUpRow_arbOnly r.seg
  split
  · exact blocks _
  split
  · exact blocks _
  split
  · exact blocks _
  split
  · split
    · exact arrives _ _ (freed.trans (State.rowGranted_arbOnly r _))
    · exact blocks _
  · exact blocks _

theorem State.claims_noted (who : Nat) (l : List ArbReq) : Noted s (s.claims who l) := by
  unfold State.claims
  split
  · exact (foldl_changes ArbOnly.refl ArbOnly.trans (fun _ r => State.claim_arbOnly r) l s).noted
  · exact Noted.refl s

def State.setWord (s : State) (w : Nat) (v : WordState) : State :=
  { s with store := { s.store with words := tabSet .sound s.store.words w v } }

theorem State.setWord_steady (w : Nat) (v : WordState) : Steady s (s.setWord w v) := ⟨rfl, rfl, rfl, rfl, fun _ _ => rfl⟩

theorem Noted.regs {r : Tab Word} (h : ∀ n < 64, ({ s with regs := r } : State).fld .cstSeg 1 0 n = s.fld .cstSeg 1 0 n) :
    Noted s { s with regs := r } := ⟨⟨rfl, rfl, rfl, rfl, h⟩, rfl, rfl⟩

theorem offset_cstSeg_inj {g n : Nat} (h : g ≠ n) : Reg.offset ⟨.cstSeg, g, 0⟩ ≠ Reg.offset ⟨.cstSeg, n, 0⟩ := by
  simp [Reg.offset, RegKind.isLink, RegKind.info]
  omega

/-- A segment's count of corrected events. -/
theorem State.segCount_noted (n g : Nat) : Noted s (s.addFld .cstSeg 47 32 n g) := by
  refine Noted.regs fun i _ => ?_
  by_cases h : i = g
  · subst h
    exact State.fld_setFld_below .cstSeg _ i 0 (by decide) (by decide) (by decide) (by decide)
  · exact congrArg (fieldOf 1 0) (State.rg_setRg_ne _ _ _ _ _ _ _ _ (offset_cstSeg_inj h))

theorem State.setRg_noted (k : RegKind) (v : Nat) (apart : ∀ g < 64, Reg.offset ⟨.cstSeg, g, 0⟩ ≠ Reg.offset ⟨k, 0, 0⟩) :
    Noted s (s.setRg k v) :=
  Noted.regs fun g hg => congrArg (fieldOf 1 0) (State.rg_setRg_ne _ _ _ _ _ _ _ _ (apart g hg))

/-- A corrected event makes the word sound, and notes it. -/
theorem State.corrected_noted (who w : Nat) : Noted (s.setWord w .sound) (s.corrected who w) := by
  unfold State.corrected
  dsimp only
  generalize windowStep _ _ _ _ = x
  have first : Noted (s.setWord w .sound) ({ s with store := { s.store with windows := x.1, words := tabSet .sound s.store.words w .sound } }) :=
    Noted.pages (s.setWord w .sound) x.1 s.store.lasting s.store.unret
  have counted := ((first.trans (State.addFld_recorded .cstStat 31 0 1 (by decide)).noted).trans
    (State.segCount_noted 1 (segOf (w * 8)))).trans (State.setRg_noted .cstLast (w * 8) (by decide))
  have told := counted.trans
    (State.fault_recorded 0x61 0x06 (segOf (w * 8)) (who + min x.2 255 * 2 ^ 16) (w * 8) 0 0).noted
  split
  · exact told.trans (State.pageLasting_noted _)
  · exact told

/-! ### A word after a write of some of its bytes (R280) -/

/-- The state of a word after a write of its bytes at the places `mine`. -/
def WordState.merged (mine : List Nat) (v : WordState) : WordState :=
  if 8 ≤ mine.length then .sound
  else match v with
  | .poisoned known => .poisoned (mine.foldl (fun k p => k ||| 2 ^ (p % 8)) known)
  | _ => .sound

/-- What a byte reads as that holds `b`, at place `p` of a word in a state, at a Time. -/
def WordState.shows (v : WordState) (b : Byte) (p clock : Nat) : Byte :=
  match v with
  | .poisoned known => if known.testBit (p % 8) then b else Config.upsetByte p clock
  | _ => b

theorem State.storeByte_eq (s : State) (a : Nat) : s.storeByte a =
    (tabGet .sound s.store.words (s.phys a / 8)).shows (memGet s.store.mem (s.phys a)) (s.phys a) s.clock := by
  unfold State.storeByte WordState.shows
  rfl

theorem testBit_known (mine : List Nat) (known b : Nat) :
    (mine.foldl (fun k p => k ||| 2 ^ (p % 8)) known).testBit b = (known.testBit b || mine.any (fun p => p % 8 = b)) := by
  induction mine generalizing known with
  | nil => simp
  | cons p l ih => simp [ih, Nat.testBit_or, Nat.testBit_two_pow, Bool.or_assoc]

/-- A byte that the write stored reads as it lies in memory. -/
theorem WordState.merged_shows_mem {mine : List Nat} {p : Nat} (h : p ∈ mine) (v : WordState) (b : Byte) (clock : Nat) :
    (v.merged mine).shows b p clock = b := by
  unfold WordState.merged
  split
  · rfl
  · cases v with
    | poisoned known =>
      have stored : mine.any (fun q => q % 8 = p % 8) = true := List.any_eq_true.2 ⟨p, h, by simp⟩
      simp [WordState.shows, testBit_known, stored]
    | _ => rfl

/-- A write that leaves out a byte of a word stores fewer than eight of it. -/
theorem length_lt_of_not_mem {mine : List Nat} {p : Nat} (nodup : mine.Nodup) (word : ∀ q ∈ mine, q / 8 = p / 8) (h : p ∉ mine) :
    mine.length < 8 := by
  have inside : p :: mine ⊆ List.range' (p / 8 * 8) 8 := by
    intro q hq
    have : q / 8 = p / 8 := by
      rcases List.mem_cons.1 hq with rfl | hq
      exacts [rfl, word q hq]
    exact List.mem_range'_1.2 (by omega)
  simpa using (List.nodup_cons.2 ⟨h, nodup⟩).subperm inside |>.length_le

/-- A byte of a word that the write did not store reads as before. -/
theorem WordState.merged_shows_not_mem {mine : List Nat} {p : Nat} (nodup : mine.Nodup) (word : ∀ q ∈ mine, q / 8 = p / 8) (h : p ∉ mine)
    (v : WordState) (b : Byte) (clock : Nat) : (v.merged mine).shows b p clock = v.shows b p clock := by
  have others : mine.any (fun q => q % 8 = p % 8) = false := by
    refine List.any_eq_false.2 fun q hq same => h ?_
    have := word q hq
    rwa [show p = q by simp at same; omega]
  unfold WordState.merged
  rw [if_neg (Nat.not_le.2 (length_lt_of_not_mem nodup word h))]
  cases v with
  | poisoned known => simp [WordState.shows, testBit_known, others]
  | _ => rfl

/-! ### A write of the store, word by word -/

theorem nodup_eraseDups : (l : List Nat) → l.eraseDups.Nodup
  | [] => by simp
  | a :: l => by
    rw [List.eraseDups_cons]
    exact List.nodup_cons.2 ⟨by simp, nodup_eraseDups _⟩
termination_by l => l.length
decreasing_by exact Nat.lt_succ_of_le (List.length_filter_le _ _)

/-- The places among some that lie in a word, each once. -/
def placesIn (places : List Nat) (x : Nat) : List Nat := (places.filter (· / 8 = x)).eraseDups

theorem mem_placesIn {places : List Nat} {x p : Nat} : p ∈ placesIn places x ↔ p ∈ places ∧ p / 8 = x := by
  simp [placesIn]

theorem mem_wordsOf {places : List Nat} {x : Nat} : x ∈ wordsOf places ↔ ∃ p ∈ places, p / 8 = x := by
  simp [wordsOf]

/-- What a write does to the state of one word. -/
def State.mergeWord (s : State) (name : Nat) (places : List Nat) (x : Nat) : State :=
  if 8 ≤ (placesIn places x).length then s.setWord x .sound
  else match tabGet .sound s.store.words x with
    | .single => s.corrected name x
    | .poisoned known => s.setWord x (.poisoned ((placesIn places x).foldl (fun k p => k ||| 2 ^ (p % 8)) known))
    | .sound => s

theorem State.storeWrite_eq (s : State) (who : Nat) (w : List (Nat × Byte)) (name : Nat) :
    s.storeWrite who w name =
      (fun (t : State) => { t with store := { t.store with mem := memWriteAll t.store.mem (w.map (fun e => (s.phys e.1, e.2))) } })
        ((wordsOf (w.map (fun e => s.phys e.1))).foldl (fun t x => t.mergeWord name (w.map (fun e => s.phys e.1)) x)
          (s.claims who (s.writeReqs who (w.map (·.1))))) := by
  rfl

/-- A word's state after a write, and what stays. -/
theorem State.mergeWord_spec (s : State) (name : Nat) (places : List Nat) (x : Nat) :
    Steady s (s.mergeWord name places x) ∧ (s.mergeWord name places x).store.mem = s.store.mem ∧
      ∀ y, tabGet .sound (s.mergeWord name places x).store.words y =
        if y = x then (tabGet .sound s.store.words x).merged (placesIn places x) else tabGet .sound s.store.words y := by
  have set : ∀ v y, tabGet .sound (s.setWord x v).store.words y = if y = x then v else tabGet .sound s.store.words y := by
    intro v y
    split
    · subst y; exact tabGet_tabSet_same _ _ _ _
    · exact tabGet_tabSet_ne _ _ _ _ ‹_›
  unfold State.mergeWord WordState.merged
  split
  · exact ⟨State.setWord_steady x _, rfl, set _⟩
  · cases word : tabGet .sound s.store.words x with
    | single =>
      have noted := State.corrected_noted (s := s) name x
      exact ⟨(State.setWord_steady x _).trans noted.toSteady, noted.mem, fun y => by rw [noted.words, set]⟩
    | poisoned known => exact ⟨State.setWord_steady x _, rfl, set _⟩
    | sound =>
      refine ⟨Steady.refl s, rfl, fun y => ?_⟩
      by_cases same : y = x
      · rw [if_pos same, same, word]
      · rw [if_neg same]

/-- The states of all the words after a write, and what stays. -/
theorem State.mergeWords_spec (name : Nat) (places : List Nat) (l : List Nat) (nodup : l.Nodup) (s : State) :
    Steady s (l.foldl (fun t x => t.mergeWord name places x) s) ∧
      (l.foldl (fun t x => t.mergeWord name places x) s).store.mem = s.store.mem ∧
      ∀ y, tabGet .sound (l.foldl (fun t x => t.mergeWord name places x) s).store.words y =
        if y ∈ l then (tabGet .sound s.store.words y).merged (placesIn places y) else tabGet .sound s.store.words y := by
  induction l generalizing s with
  | nil => exact ⟨Steady.refl s, rfl, fun y => by simp⟩
  | cons x l ih =>
    obtain ⟨new, nodup⟩ := List.nodup_cons.1 nodup
    obtain ⟨steady, mem, words⟩ := s.mergeWord_spec name places x
    obtain ⟨steady', mem', words'⟩ := ih nodup (s.mergeWord name places x)
    refine ⟨steady.trans steady', mem'.trans mem, fun y => (words' y).trans ?_⟩
    rw [words y]
    by_cases h : y = x
    · subst h; simp [new]
    · simp [h]

/-- A write of the store: what stays, the bytes it writes, and the states of the words it meets. -/
theorem State.storeWrite_spec (s : State) (who : Nat) (w : List (Nat × Byte)) (name : Nat) :
    Steady s (s.storeWrite who w name) ∧
      (s.storeWrite who w name).store.mem = memWriteAll s.store.mem (w.map (fun e => (s.phys e.1, e.2))) ∧
      ∀ y, tabGet .sound (s.storeWrite who w name).store.words y =
        if y ∈ wordsOf (w.map (fun e => s.phys e.1)) then
          (tabGet .sound s.store.words y).merged (placesIn (w.map (fun e => s.phys e.1)) y)
        else tabGet .sound s.store.words y := by
  have claimed := State.claims_noted (s := s) who (s.writeReqs who (w.map (·.1)))
  obtain ⟨steady, mem, words⟩ := State.mergeWords_spec name (w.map (fun e => s.phys e.1)) _ (nodup_eraseDups _)
    (s.claims who (s.writeReqs who (w.map (·.1))))
  have kept := claimed.toSteady.trans steady
  rw [claimed.words] at words
  rw [State.storeWrite_eq]
  exact ⟨⟨kept.remap, kept.now, kept.clock, kept.due, kept.test⟩, congrArg (memWriteAll · _) (mem.trans claimed.mem), words⟩

theorem State.phys_congr {s t : State} (h : t.store.remap = s.store.remap) (a : Nat) : t.phys a = s.phys a := by
  simp [State.phys, State.pageOf, h]

theorem Steady.phys {s t : State} (h : Steady s t) (a : Nat) : t.phys a = s.phys a := State.phys_congr h.remap a

/-- Of bytes written at distinct places each is what was written. -/
theorem memGet_memWriteAll_of_mem (m : List Host.Cell) {w : List (Nat × Byte)} {c : Nat} {b : Byte} (nodup : (w.map (·.1)).Nodup)
    (h : (c, b) ∈ w) : memGet (memWriteAll m w) c = b := by
  induction w generalizing m with
  | nil => cases h
  | cons e w ih =>
    obtain ⟨new, nodup⟩ := List.nodup_cons.1 nodup
    rcases List.mem_cons.1 h with rfl | h
    · rw [memWriteAll, memGet_memWriteAll_outside _ _ _ (fun x hx same => new (List.mem_map.2 ⟨x, hx, same⟩)), memGet_memSet_same]
    · exact ih _ nodup h

/-- A byte that is written reads back, in an uncorrectable word too (R280). -/
theorem State.storeWrite_own (s : State) (who name : Nat) {w : List (Nat × Byte)} {a : Nat} {b : Byte}
    (nodup : (w.map (fun e => s.phys e.1)).Nodup) (h : (a, b) ∈ w) : (s.storeWrite who w name).storeByte a = b := by
  obtain ⟨steady, mem, words⟩ := s.storeWrite_spec who w name
  have place : s.phys a ∈ w.map (fun e => s.phys e.1) := List.mem_map.2 ⟨_, h, rfl⟩
  have stored : (s.phys a, b) ∈ w.map (fun e => (s.phys e.1, e.2)) := List.mem_map.2 ⟨_, h, rfl⟩
  rw [State.storeByte_eq, steady.phys, words, if_pos (mem_wordsOf.2 ⟨_, place, rfl⟩),
    WordState.merged_shows_mem (mem_placesIn.2 ⟨place, rfl⟩), mem]
  exact memGet_memWriteAll_of_mem _ (by simpa [Function.comp_def] using nodup) stored

/-- A byte at a place that is not written reads as before. -/
theorem State.storeWrite_other (s : State) (who name : Nat) {w : List (Nat × Byte)} {b : Nat} (h : ∀ e ∈ w, s.phys e.1 ≠ s.phys b) :
    (s.storeWrite who w name).storeByte b = s.storeByte b := by
  obtain ⟨steady, mem, words⟩ := s.storeWrite_spec who w name
  have kept : memGet (s.storeWrite who w name).store.mem (s.phys b) = memGet s.store.mem (s.phys b) := by
    rw [mem]
    exact memGet_memWriteAll_outside _ _ _ (List.forall_mem_map.2 h)
  rw [State.storeByte_eq, State.storeByte_eq, steady.phys, steady.clock, kept, words]
  split
  · refine WordState.merged_shows_not_mem (nodup_eraseDups _) (fun q hq => (mem_placesIn.1 hq).2) (fun hq => ?_) _ _ _
    obtain ⟨e, he, same⟩ := List.mem_map.1 (mem_placesIn.1 hq).1
    exact h e he same
  · rfl

/-! ### Inbound writes of the store (R48, R102, R288, R369) -/

/-- The bytes of a block's write whose enables are set, with their addresses. -/
def enabled (a k : Nat) (d : List Byte) (be : List Bool) : List (Nat × Byte) :=
  ((List.range k).filter (fun i => (be[i]?).getD true)).map (fun i => (a + i, (d[i]?).getD 0))

theorem mem_enabled {a k : Nat} {d : List Byte} {be : List Bool} {e : Nat × Byte} :
    e ∈ enabled a k d be ↔ ∃ i < k, (be[i]?).getD true = true ∧ e = (a + i, (d[i]?).getD 0) := by
  simp only [enabled, List.mem_map, List.mem_filter, List.mem_range]
  exact ⟨fun ⟨i, ⟨hi, on⟩, same⟩ => ⟨i, hi, on, same.symm⟩, fun ⟨i, hi, on, same⟩ => ⟨i, ⟨hi, on⟩, same.symm⟩⟩

theorem nodup_enabled {a k : Nat} {d : List Byte} {be : List Bool} {place : Nat → Nat}
    (apart : ∀ i < k, ∀ j < k, place (a + i) = place (a + j) → i = j) : ((enabled a k d be).map (fun e => place e.1)).Nodup := by
  rw [enabled, List.map_map]
  refine (List.nodup_range.filter _).map_on fun i hi j hj same => apart i ?_ j ?_ same
  · exact List.mem_range.1 (List.mem_filter.1 hi).1
  · exact List.mem_range.1 (List.mem_filter.1 hj).1

theorem Steady.underTest {s t : State} (h : Steady s t) (a : Nat) : t.underTest a = s.underTest a := by
  rw [State.underTest, State.underTest, h.phys, h.test (segOf _) (Nat.mod_lt _ (by decide))]

/-- Addresses of one block lie in one segment. -/
theorem State.underTest_block (s : State) {a i : Nat} (h : i < blockLeft a) : s.underTest (a + i) = s.underTest a := by
  have page : (a + i) / 4096 = a / 4096 := by unfold blockLeft at h; omega
  have seg : segOf (s.phys (a + i)) = segOf (s.phys a) := by
    simp only [segOf, State.phys, page]
    omega
  rw [State.underTest, State.underTest, seg]

/-- A write of a block leaves every byte whose place it does not write, and what is `Steady`. -/
theorem State.inBlock_other (s : State) (m a : Nat) (w : List (Nat × Byte)) :
    Steady s (s.inBlock m a w false) ∧
      ∀ b, (∀ e ∈ w, s.phys e.1 ≠ s.phys b) → (s.inBlock m a w false).storeByte b = s.storeByte b := by
  have noted : ∀ t, Noted s t → Steady s t ∧ ∀ b, (∀ e ∈ w, s.phys e.1 ≠ s.phys b) → t.storeByte b = s.storeByte b := fun t h =>
    ⟨h.toSteady, fun b _ => by rw [State.storeByte_eq, State.storeByte_eq, h.phys, h.clock, h.mem, h.words]⟩
  unfold State.inBlock
  split
  · split
    · exact noted s (Noted.refl s)
    · exact ⟨(s.storeWrite_spec 71 w m).1, fun b h => s.storeWrite_other 71 m h⟩
  · exact noted _ (State.fault_recorded _ _ _ _ _ _ _).noted

/-- A block's write of the store outside self-test. -/
theorem State.inBlock_own (s : State) (m : Nat) {a : Nat} {w : List (Nat × Byte)} (store : placeOf a = .store)
    (tested : s.underTest a = false) {e : Nat × Byte} (nodup : (w.map (fun e => s.phys e.1)).Nodup) (h : e ∈ w) :
    (s.inBlock m a w false).storeByte e.1 = e.2 := by
  have writes : s.inBlock m a w false = s.storeWrite 71 w m := by simp [State.inBlock, store, tested]
  rw [writes]
  exact s.storeWrite_own 71 m nodup h

/-- One block of a write, and the rest. -/
theorem State.inWrite_succ {d : List Byte} (h : d ≠ []) (s : State) (m a : Nat) (be : List Bool) (fuel : Nat) :
    s.inWrite m a d be false (fuel + 1) =
      (s.inBlock m a (enabled a (min d.length (blockLeft a)) d be) false).inWrite m (a + min d.length (blockLeft a))
        (d.drop (min d.length (blockLeft a))) (be.drop (min d.length (blockLeft a))) false fuel := by
  rw [State.inWrite, if_neg h]
  rfl

theorem getElem?_drop_sub {α : Type} (l : List α) {k i : Nat} (h : k ≤ i) : (l.drop k)[i - k]? = l[i]? := by
  rw [List.getElem?_drop, Nat.add_sub_cancel' h]

/-- A write leaves every byte whose place it does not write. -/
theorem State.inWrite_other (m : Nat) (fuel : Nat) (s : State) (a : Nat) (d : List Byte) (be : List Bool) :
    Steady s (s.inWrite m a d be false fuel) ∧ ∀ b, (∀ i < d.length, (be[i]?).getD true = true → s.phys (a + i) ≠ s.phys b) →
      (s.inWrite m a d be false fuel).storeByte b = s.storeByte b := by
  induction fuel generalizing s a d be with
  | zero => exact ⟨Steady.refl s, fun _ _ => rfl⟩
  | succ fuel ih =>
    by_cases empty : d = []
    · subst empty
      exact ⟨Steady.refl s, fun _ _ => rfl⟩
    · rw [State.inWrite_succ empty]
      generalize hk : min d.length (blockLeft a) = k
      have fits : k ≤ d.length := by omega
      obtain ⟨steady, block⟩ := s.inBlock_other m a (enabled a k d be)
      obtain ⟨steady', rest⟩ := ih (s.inBlock m a (enabled a k d be) false) (a + k) (d.drop k) (be.drop k)
      refine ⟨steady.trans steady', fun b h => (rest b fun i hi on => ?_).trans (block b fun e he => ?_)⟩
      · rw [List.length_drop] at hi
        rw [List.getElem?_drop] at on
        rw [steady.phys, steady.phys, Nat.add_assoc]
        exact h (k + i) (by omega) on
      · obtain ⟨i, hi, on, rfl⟩ := mem_enabled.1 he
        exact h i (by omega) on

/-- Of a write whose addresses share no place, each byte enabled reads back where its segment is not under self-test. -/
theorem State.inWrite_own (m : Nat) (fuel : Nat) (s : State) (a : Nat) (d : List Byte) (be : List Bool) (enough : d.length ≤ fuel)
    (apart : ∀ i < d.length, ∀ j < d.length, s.phys (a + i) = s.phys (a + j) → i = j) {i : Nat} {x : Byte} (hx : d[i]? = some x)
    (on : (be[i]?).getD true = true) (store : placeOf (a + i) = .store) (tested : s.underTest (a + i) = false) :
    (s.inWrite m a d be false fuel).storeByte (a + i) = x := by
  induction fuel generalizing s a d be i with
  | zero => simp [List.length_eq_zero_iff.1 (Nat.le_zero.1 enough)] at hx
  | succ fuel ih =>
    obtain ⟨hi, -⟩ := List.getElem?_eq_some_iff.1 hx
    rw [State.inWrite_succ (by rintro rfl; simp at hx)]
    generalize hk : min d.length (blockLeft a) = k
    have pos : 0 < k := by unfold blockLeft at hk; omega
    obtain ⟨steady, -⟩ := s.inBlock_other m a (enabled a k d be)
    by_cases first : i < k
    · have written : (s.inBlock m a (enabled a k d be) false).storeByte (a + i) = x := by
        have start : placeOf a = .store := by rw [placeOf_eq_store] at store ⊢; omega
        have free : s.underTest a = false := by rwa [s.underTest_block (by omega)] at tested
        refine s.inBlock_own m start free (e := (a + i, x)) ?_ (mem_enabled.2 ⟨i, first, on, by rw [hx]; rfl⟩)
        exact nodup_enabled fun p hp q hq => apart p (by omega) q (by omega)
      rw [(State.inWrite_other m fuel _ (a + k) (d.drop k) (be.drop k)).2 _ fun j hj _ same => ?_, written]
      rw [List.length_drop] at hj
      rw [steady.phys, steady.phys, Nat.add_assoc] at same
      have := apart (k + j) (by omega) i hi same
      omega
    · have there : a + k + (i - k) = a + i := by omega
      rw [← there]
      refine ih _ (a + k) (d.drop k) (be.drop k) (by rw [List.length_drop]; omega) (fun p hp q hq same => ?_) ?_ ?_ ?_ ?_
      · rw [List.length_drop] at hp hq
        rw [steady.phys, steady.phys, Nat.add_assoc, Nat.add_assoc] at same
        have := apart (k + p) (by omega) (k + q) (by omega) same
        omega
      · rwa [getElem?_drop_sub _ (by omega)]
      · rwa [getElem?_drop_sub _ (by omega)]
      · rwa [there]
      · rwa [there, steady.underTest]

/-! ### What follows a write -/

/-- What an operation does to the channels alone. -/
def ChansOnly (s t : State) : Prop := ∃ l, t = { s with chans := l }

theorem ChansOnly.refl (s : State) : ChansOnly s s := ⟨_, rfl⟩

theorem ChansOnly.trans {s t u : State} (h : ChansOnly s t) (k : ChansOnly t u) : ChansOnly s u := by
  obtain ⟨_, rfl⟩ := h
  obtain ⟨_, rfl⟩ := k
  exact ⟨_, rfl⟩

/-- The reads of a channel processor that go out take their tags. -/
theorem State.issueRead_chansOnly (s : State) (c : Nat) : ChansOnly s (s.issueRead c) := by
  refine foldl_changes ChansOnly.refl ChansOnly.trans (fun t k => ?_) _ s
  split
  · exact ⟨_, rfl⟩
  · exact ChansOnly.refl t

/-- Where no warm reset is due, what follows a command changes the channels alone. -/
theorem State.follows_chansOnly (due : s.power.warmDue = false) : ChansOnly s s.follows := by
  have calm : s.warmFires = s := by simp [State.warmFires, due]
  have issued : ChansOnly s s.issueReads := foldl_changes ChansOnly.refl ChansOnly.trans State.issueRead_chansOnly _ s
  obtain ⟨l, e, -⟩ := s.issueReads.retrySync_eq
  rw [State.follows, calm]
  exact issued.trans ⟨l, e⟩

/-- The end of a command that leaves Time alone leaves the clock too. -/
theorem noRewind_clock {s t : State} (now : t.time.now = s.time.now) : (noRewind s t).clock = t.clock := by
  obtain ⟨i, a, w, e⟩ := t.afterwards_eq
  rw [noRewind_of_le (Nat.le_of_eq now.symm), e]
  rfl

theorem State.storeByte_congr {s t : State} (store : t.store = s.store) (clock : t.clock = s.clock) (a : Nat) :
    t.storeByte a = s.storeByte a := by
  rw [State.storeByte_eq, State.storeByte_eq, State.phys_congr (congrArg Store.remap store), store, clock]

/-- Settles O50: the write is its effect on the store, block by block, and what follows it and ends the command leaves the store. -/
theorem inboundWriteStoresItsBytesAlone : Obligations.InboundWriteStoresItsBytesAlone := by
  intro s m tg d be run reach store due g
  obtain ⟨steady, other⟩ := State.inWrite_other m.toNat (d.length + 1) s (targetAddr tg) d be
  have own := State.inWrite_own m.toNat (d.length + 1) s (targetAddr tg) d be (Nat.le_succ _)
  have acts := exec_inbound run (State.inbound_write_store reach store s d be false) rfl g
  obtain ⟨l, follows⟩ := State.follows_chansOnly (steady.due.trans due)
  generalize s.inWrite m.toNat (targetAddr tg) d be false (d.length + 1) = t at *
  have bytes : ∀ a, (noRewind s t.follows).storeByte a = t.storeByte a :=
    State.storeByte_congr (by rw [noRewind_store, follows]) (by rw [noRewind_clock (by rw [follows]; exact steady.now), follows]; rfl)
  refine ⟨_, acts, by rw [noRewind_store, follows]; exact steady.remap, fun nodup i x hx on place tested => ?_, fun b h => ?_⟩
  · have apart : ∀ i < d.length, ∀ j < d.length, s.phys (targetAddr tg + i) = s.phys (targetAddr tg + j) → i = j := fun i hi j hj same =>
      List.inj_on_of_nodup_map nodup (List.mem_range.2 hi) (List.mem_range.2 hj) same
    rw [bytes, own apart hx on place tested]
  · rw [bytes, other b h]

end Sys2Proof.Machine
end

section
/-! PROOFS. The mailboxes' obligations (04_mailboxes.md): posts, pops, flushes and epochs, and Snima's commands about the device, its
operator and its layout. -/

namespace Sys2Proof.Machine

variable {s t : State}

/-! ### What mailbox commands leave alone -/

/-- A command whose effect leaves Time alone leaves all of the time core as its effect does. -/
theorem noRewind_time (now : s.time.now ≤ t.time.now) : (noRewind s t).time = t.time := by
  obtain ⟨i, a, w, e⟩ := t.afterwards_eq
  rw [noRewind_of_le now, e]
  rfl

@[simp] theorem noRewind_staged (s t : State) (c : Nat) (out : Bool) : (noRewind s t).staged c out = t.staged c out := by
  simp [State.staged]

@[simp] theorem State.reply_staged (s : State) (d : List Byte) (c : Nat) (out : Bool) : (s.reply d).staged c out = s.staged c out := by
  simp [State.staged]

@[simp] theorem State.reply_bus (s : State) (d : List Byte) : (s.reply d).bus = ⟨d, false, none⟩ := rfl

@[simp] theorem State.reply_box (s : State) (d : List Byte) (c : Nat) : (s.reply d).box c = s.box c := rfl

/-- A staging buffer holds what its 32 words hold. -/
theorem State.staged_of_rg {c : Nat} {out : Bool}
    (h : ∀ j < 32, t.rg (if out then .mbxOutStg else .mbxInStg) c j = s.rg (if out then .mbxOutStg else .mbxInStg) c j) :
    t.staged c out = s.staged c out :=
  List.flatMap_congr fun j hj => congrArg (natLe 8) (h j (List.mem_range.1 hj))

/-- The words of a channel's staging buffers lie apart from its other registers and from LOG_LOST (R63). -/
theorem offset_mbxStg_ne {c j : Nat} (hc : c < 32) (hj : j < 32) (out : Bool) :
    Reg.offset ⟨if out then .mbxOutStg else .mbxInStg, c, j⟩ ≠ Reg.offset ⟨.mbxCtl, c, 0⟩ ∧
      Reg.offset ⟨if out then .mbxOutStg else .mbxInStg, c, j⟩ ≠ Reg.offset ⟨.mbxStat, c, 0⟩ ∧
      Reg.offset ⟨if out then .mbxOutStg else .mbxInStg, c, j⟩ ≠ Reg.offset ⟨.logLost, 0, 0⟩ := by
  cases out <;> simp [Reg.offset, RegKind.isLink, RegKind.info] <;> omega

theorem offset_mbxEpoch_ne (c : Nat) : Reg.offset ⟨.mbxEpoch, c, 0⟩ ≠ Reg.offset ⟨.mbxCtl, c, 0⟩ ∧
    Reg.offset ⟨.mbxEpoch, c, 0⟩ ≠ Reg.offset ⟨.mbxStat, c, 0⟩ := by
  simp [Reg.offset, RegKind.isLink, RegKind.info]

/-! ### Records leave every register but LOG_LOST -/

@[simp] theorem State.emit_regs (s : State) (src time hop : Nat) : (s.emit src time hop).regs = s.regs := by
  obtain ⟨v, e⟩ := State.emit_eq (s := s) src time hop
  rw [e]

@[simp] theorem State.emit_box (s : State) (src time hop c : Nat) : (s.emit src time hop).box c = s.box c := by
  obtain ⟨v, e⟩ := State.emit_eq (s := s) src time hop
  rw [e]
  rfl

theorem State.logPush_regs (s : State) (r : LogRecord) : (s.logPush r).regs = s.regs := by
  unfold State.logPush
  dsimp only
  split
  · rw [State.emit_regs]
  · rfl

theorem State.logLost_regs (s : State) : s.logLost.regs = s.regs := by
  unfold State.logLost
  split
  · rfl
  · exact State.logPush_regs _ _

theorem State.logEnter_regs (s : State) : s.logEnter.regs = s.regs := by
  unfold State.logEnter
  dsimp only
  split
  · split
    · exact (State.logPush_regs _ _).trans s.logLost_regs
    · exact s.logLost_regs
  · exact s.logLost_regs

theorem State.logTurn_regs (s : State) (d : Nat) : (s.logTurn d).regs = s.regs := by
  unfold State.logTurn
  split
  · exact foldl_changes (R := fun a b => b.regs = a.regs) (fun _ => rfl) (fun h k => k.trans h) (fun a _ => a.logEnter_regs) _ s
  · rfl

theorem State.addFld_rg_ne (s : State) (k : RegKind) (hi lo n i j : Nat) {k' : RegKind} {i' j' : Nat}
    (h : Reg.offset ⟨k', i', j'⟩ ≠ Reg.offset ⟨k, i, j⟩) : (s.addFld k hi lo n i j).rg k' i' j' = s.rg k' i' j' :=
  State.rg_setRg_ne _ _ _ _ _ _ _ _ h

section

variable (s : State) (b : Nat) (r : LogRecord) {k : RegKind} {i j : Nat} (h : Reg.offset ⟨k, i, j⟩ ≠ Reg.offset ⟨.logLost, 0, 0⟩)
include h

/-- A record that is kept, or counts in LOG_LOST, changes no other register (R43). -/
theorem State.logKept_rg : (s.logKept r).rg k i j = s.rg k i j := by
  have logged : ∀ (u : State) (g : LogUnit), ({ u with log := g } : State).rg k i j = u.rg k i j := fun _ _ => rfl
  unfold State.logKept
  dsimp only
  rw [← State.rg_congr ((State.logTurn_regs _ r.stamp.domain).trans s.logLost_regs)]
  generalize s.logLost.logTurn r.stamp.domain = t
  split
  · rw [logged]
    exact t.addFld_rg_ne .logLost 31 0 1 0 0 h
  · exact State.rg_congr (t.logPush_regs r) k i j

theorem State.logClass_rg : (s.logClass b r).rg k i j = s.rg k i j := by
  unfold State.logClass
  split
  · exact s.logKept_rg r h
  · rfl

end

@[simp] theorem State.logClass_box (s : State) (b : Nat) (r : LogRecord) (c : Nat) : (s.logClass b r).box c = s.box c := by
  obtain ⟨_, _, _, _, _, e, -⟩ := State.logClass_logged (s := s) b r
  rw [e]
  rfl

@[simp] theorem State.stamp_box (s : State) (d after c : Nat) : (s.stamp d after).2.box c = s.box c := rfl

/-! ### FIFOs -/

@[simp] theorem Mailbox.fifo_setFifo (b : Mailbox) (out : Bool) (l : List Msg) : (b.setFifo out l).fifo out = l := by cases out <;> rfl

@[simp] theorem Mailbox.fifo_setFifo_not (b : Mailbox) (out : Bool) (l : List Msg) : (b.setFifo out l).fifo (!out) = b.fifo (!out) := by
  cases out <;> rfl

@[simp] theorem Mailbox.fifo_timer (b : Mailbox) (out : Bool) (x : Option Nat) :
    ({ b with timer := x } : Mailbox).fifo out = b.fifo out := rfl

@[simp] theorem Mailbox.fifo_relayed (b : Mailbox) (out : Bool) (l : List Relayed) :
    ({ b with relayed := l } : Mailbox).fifo out = b.fifo out := rfl

/-! ### Posts (R67) -/

/-- The second condition of R67, as the limits that a length keeps. -/
theorem msgLen_refused (c : Nat) (q : List Byte) :
    (240 < msgLen q ∨ (secure c ∧ msgLen q < 32)) ↔ ¬ (msgLen q ≤ 240 ∧ (16 ≤ c → 32 ≤ msgLen q)) := by
  simp only [secure, decide_eq_true_eq]
  omega

/-- Which code a post answers: the first of R67's conditions that fails, under those before it. -/
theorem State.postRes_spec (s : State) (c : Nat) (out : Bool) (q : List Byte) :
    (s.postRes c out q = 1 ↔ 64 ≤ ((s.box c).fifo out).length) ∧
    (s.postRes c out q = 2 ↔ ((s.box c).fifo out).length < 64 ∧ ¬ (msgLen q ≤ 240 ∧ (16 ≤ c → 32 ≤ msgLen q))) ∧
    (s.postRes c out q = 3 ↔ ((s.box c).fifo out).length < 64 ∧ (msgLen q ≤ 240 ∧ (16 ≤ c → 32 ≤ msgLen q)) ∧ msgChn q ≠ c) ∧
    (s.postRes c out q = 4 ↔ ((s.box c).fifo out).length < 64 ∧ (msgLen q ≤ 240 ∧ (16 ≤ c → 32 ≤ msgLen q)) ∧ msgChn q = c ∧
      msgRsvd q ≠ 0) ∧
    (s.postRes c out q = 5 ↔ ((s.box c).fifo out).length < 64 ∧ (msgLen q ≤ 240 ∧ (16 ≤ c → 32 ≤ msgLen q)) ∧ msgChn q = c ∧
      msgRsvd q = 0 ∧ msgEpoch q ≠ s.epoch c out) ∧
    (s.postRes c out q = 0 ↔ ((s.box c).fifo out).length < 64 ∧ (msgLen q ≤ 240 ∧ (16 ≤ c → 32 ≤ msgLen q)) ∧ msgChn q = c ∧
      msgRsvd q = 0 ∧ msgEpoch q = s.epoch c out) ∧
    s.postRes c out q ≤ 5 := by
  unfold State.postRes
  simp only [msgLen_refused, ← Nat.not_le (a := 64)]
  -- one branch for each code: its own clause holds there, and the others contradict the branch's conditions
  split_ifs with full len chan rsvd epoch
  all_goals
    generalize (msgLen q ≤ 240 ∧ (16 ≤ c → 32 ≤ msgLen q)) = fits at *
    simp_all

/-- A message that enters its FIFO is the last there; the other FIFO stays. -/
theorem State.enqueue_fifos (s : State) (c : Nat) (out : Bool) (q : List Byte) :
    (((s.enqueue c out q).box c).fifo out).map (·.bytes) = ((s.box c).fifo out).map (·.bytes) ++ [q.take (16 + msgLen q)] ∧
      ((s.enqueue c out q).box c).fifo (!out) = (s.box c).fifo (!out) := by
  unfold State.enqueue
  dsimp only
  rw [State.emit_box, State.box_setBox]
  split_ifs <;> simp

/-- A message that enters its FIFO leaves the staging buffer (R67). -/
theorem State.enqueue_staged (s : State) {c : Nat} (hc : c < 32) (out : Bool) (q : List Byte) :
    (s.enqueue c out q).staged c out = s.staged c out := by
  refine State.staged_of_rg fun j hj => ?_
  unfold State.enqueue
  dsimp only
  obtain ⟨-, -, apart⟩ := offset_mbxStg_ne hc hj out
  rw [State.rg_congr (State.emit_regs _ _ _ _), State.rg_congr (State.setBox_regs _ _ _), State.logClass_rg _ _ _ apart]
  rfl

/-! ### HEAD windows (R70) -/

theorem fitBytes_eq_append {n : Nat} {b : List Byte} (h : b.length ≤ n) : fitBytes n b = b ++ List.replicate (n - b.length) 0 := by
  induction n, b using fitBytes.induct with
  | case1 b => simp [List.length_eq_zero_iff.1 (Nat.le_zero.1 h), fitBytes]
  | case2 n ih => simp [fitBytes, ih, List.replicate_succ]
  | case3 n x b ih => simp [fitBytes, ih (Nat.le_of_succ_le_succ h)]

/-- A list in pieces of `k`. -/
theorem flatMap_pieces {α : Type} (l : List α) (k n : Nat) :
    (List.range n).flatMap (fun i => (l.drop (k * i)).take k) = l.take (k * n) := by
  induction n with
  | zero => simp
  | succ n ih => simp [List.range_succ, ih, Nat.mul_succ, List.take_add]

/-- The words of a list of bytes give them back. -/
theorem flatMap_words {n : Nat} {l : List Byte} (h : l.length = 8 * n) :
    (List.range n).flatMap (fun i => natLe 8 (leNat ((l.drop (8 * i)).take 8))) = l := by
  have word : ∀ i ∈ List.range n, natLe 8 (leNat ((l.drop (8 * i)).take 8)) = (l.drop (8 * i)).take 8 := by
    intro i hi
    have eight : ((l.drop (8 * i)).take 8).length = 8 := by
      have := List.mem_range.1 hi
      simp
      omega
    have bytes := natLe_leNat ((l.drop (8 * i)).take 8)
    rwa [eight] at bytes
  rw [List.flatMap_congr word, flatMap_pieces, List.take_of_length_le (Nat.le_of_eq h)]

theorem State.viewHead_nil {c : Nat} {out : Bool} (fifo : (s.box c).fifo out = []) (i : Nat) : s.viewHead c out i = 0 := by
  simp [State.viewHead, fifo]

/-- The 32 words of a HEAD window show the oldest message, with zeros behind it. -/
theorem State.viewHead_cons {c : Nat} {out : Bool} {h : Msg} {r : List Msg} (fifo : (s.box c).fifo out = h :: r)
    (fits : h.bytes.length ≤ 256) :
    (List.range 32).flatMap (fun i => natLe 8 (s.viewHead c out i)) = h.bytes ++ List.replicate (256 - h.bytes.length) 0 := by
  have window := fitBytes_eq_append fits
  simp only [State.viewHead, fifo]
  rw [flatMap_words (by rw [window]; simp; omega), window]

theorem State.readReg_head (s : State) (m c j : Nat) (out : Bool) (acc : Acc) :
    s.readReg m ⟨if out then .mbxOutHead else .mbxInHead, c, j⟩ acc = (s.view ⟨if out then .mbxOutHead else .mbxInHead, c, j⟩, s) := by
  cases out <;> simp [State.readReg, RegKind.info]

/-! ### Pops (R70) -/

theorem State.popMsg_nil {c : Nat} {out : Bool} (fifo : (s.box c).fifo out = []) : s.popMsg c out = s := by simp [State.popMsg, fifo]

/-- A pop takes the oldest message of one FIFO and leaves the other, and every other channel's. -/
theorem State.popMsg_boxes {c : Nat} {out : Bool} {h : Msg} {r : List Msg} (fifo : (s.box c).fifo out = h :: r) :
    ((s.popMsg c out).box c).fifo out = r ∧ ((s.popMsg c out).box c).fifo (!out) = (s.box c).fifo (!out) ∧
      ∀ d, d ≠ c → (s.popMsg c out).box d = s.box d := by
  obtain ⟨x, t, e⟩ : ∃ x t, s.stamp 0x64 (h.enq + 1) = (x, t) := ⟨_, _, rfl⟩
  have stamped : ∀ d, t.box d = s.box d := fun d => by rw [← s.stamp_box 0x64 (h.enq + 1), e]
  rw [State.popMsg_cons fifo e]
  refine ⟨?_, ?_, fun d ne => by rw [State.box_setBox_ne _ _ ne, State.logClass_box, stamped]⟩
  all_goals
    rw [State.box_setBox]
    split_ifs <;> simp

/-- A pop in a part that runs has its effect. -/
theorem exec_pop (run : Running s) (m : BitVec 8) (c : Fin 32) (out : Bool) :
    exec (if out then .mbxOutPop m c else .mbxInPop m c) s = .next (noRewind s (s.popMsg c out)) := by
  have acts := live_writeReg run (State.writeReg_pop s m.toNat c out)
  cases out <;> exact acts

/-- Settles O43: a pop of a FIFO is its case of `popMsg`, and a HEAD window is made of the words of its oldest message. -/
theorem popTakesTheOldest : Obligations.PopTakesTheOldest := by
  intro s m c out run
  refine ⟨fun empty => ⟨?_, State.viewHead_nil empty⟩, fun h r fifo => ⟨⟨_, exec_pop run m c out, ?_⟩, State.viewHead_cons fifo⟩,
    fun j acc => ⟨_, s.readReg_head m.toNat c j out acc⟩⟩
  · rw [exec_pop run, State.popMsg_nil empty]
  · simpa using State.popMsg_boxes fifo

/-! ### Flushes and epochs (R68, R72) -/

/-- What a write of MBX_CTL leaves as it stores PORT, in the register or apart in Lockdown (R342). -/
structure PortStored (c : Nat) (s t : State) : Prop where
  mbx : t.mbx = s.mbx
  log : t.log = s.log
  errFifo : t.errFifo = s.errFifo
  time : t.time = s.time
  rg : ∀ k i j, Reg.offset ⟨k, i, j⟩ ≠ Reg.offset ⟨.mbxCtl, c, 0⟩ → t.rg k i j = s.rg k i j

theorem State.writeReg_mbxCtl (s : State) (m c d : Nat) : ∃ t, PortStored c s t ∧
    s.writeReg m ⟨.mbxCtl, c, 0⟩ .lo d = t.woActs m ⟨.mbxCtl, c, 0⟩ .lo (d &&& accMask .lo) s.locked := by
  have stored : ¬ 0xC00 &&& accMask .lo = 0 := by decide
  rw [State.writeReg_standsAlone rfl, State.writePlain, State.ignoresWrite_standsAlone rfl]
  simp only [Bool.false_eq_true, if_false, Reg.rwMask, RegKind.info, Nat.zero_and, if_true, stored, reduceCtorEq, State.rwActs]
  split
  · refine ⟨_, ?_, rfl⟩
    exact ⟨rfl, rfl, rfl, rfl, fun _ _ _ _ => rfl⟩
  · refine ⟨_, ?_, rfl⟩
    exact ⟨rfl, rfl, rfl, rfl, fun _ _ _ ne => State.rg_setRg_ne _ _ _ _ _ _ _ _ ne⟩

/-- A write of one WO bit of MBX_CTL stores PORT, and the bit acts. -/
theorem State.mbxCtlBit_stored (s : State) (m : BitVec 8) (c b : Nat) (hb : b ∈ [0, 1, 8, 9]) :
    ∃ t, PortStored c s t ∧ s.mbxCtlBit m c b = if b = 0 then t.flushMsgs c false else if b = 1 then t.flushMsgs c true
        else if b = 8 then t.bumpEpoch c false else t.bumpEpoch c true := by
  have port : fieldOf 11 10 (s.view ⟨.mbxCtl, c, 0⟩) < 4 := Nat.mod_lt _ (by decide)
  obtain ⟨t, stored, e⟩ := s.writeReg_mbxCtl m.toNat c (putField 11 10 (fieldOf 11 10 (s.view ⟨.mbxCtl, c, 0⟩)) (2 ^ b))
  exact ⟨t, stored, e.trans (State.woActs_mbxCtl t _ c _ hb (testBit_mbxCtlWord _ port b hb))⟩

theorem State.setFld_rg_ne (s : State) (k : RegKind) (hi lo v i j : Nat) {k' : RegKind} {i' j' : Nat}
    (h : Reg.offset ⟨k', i', j'⟩ ≠ Reg.offset ⟨k, i, j⟩) : (s.setFld k hi lo v i j).rg k' i' j' = s.rg k' i' j' :=
  State.rg_setRg_ne _ _ _ _ _ _ _ _ h

@[simp] theorem State.setBox_rg (s : State) (c : Nat) (x : Mailbox) (k : RegKind) (i j : Nat) : (s.setBox c x).rg k i j = s.rg k i j :=
  State.rg_congr rfl k i j

@[simp] theorem State.setFld_box (s : State) (k : RegKind) (hi lo v i j c : Nat) : (s.setFld k hi lo v i j).box c = s.box c := rfl

theorem State.flushMsgs_eq (t : State) (c : Nat) (out : Bool) :
    ∃ hi lo n x, t.flushMsgs c out = (t.setFld .mbxStat hi lo n c).setBox c x := by
  cases out <;> exact ⟨_, _, _, _, rfl⟩

theorem State.bumpEpoch_eq (t : State) (c : Nat) (out : Bool) :
    ∃ hi lo v, t.bumpEpoch c out = (t.setFld .mbxEpoch hi lo v c).dropKey c := by
  cases out <;> exact ⟨_, _, _, rfl⟩

/-- A flush makes no record, and leaves the other channels and every register but MBX_STAT. -/
theorem State.flushMsgs_kept (t : State) (c : Nat) (out : Bool) :
    (t.flushMsgs c out).log = t.log ∧ (t.flushMsgs c out).errFifo = t.errFifo ∧ (t.flushMsgs c out).time = t.time ∧
      (∀ d, d ≠ c → (t.flushMsgs c out).box d = t.box d) ∧
      ∀ k i j, Reg.offset ⟨k, i, j⟩ ≠ Reg.offset ⟨.mbxStat, c, 0⟩ → (t.flushMsgs c out).rg k i j = t.rg k i j := by
  obtain ⟨hi, lo, n, x, e⟩ := t.flushMsgs_eq c out
  simp +contextual [e, State.box_setBox_ne, State.setFld_rg_ne]

/-- A bump makes no record, and leaves the channel's FIFOs, the other channels and every register but MBX_EPOCH. -/
theorem State.bumpEpoch_kept (t : State) (c : Nat) (out : Bool) :
    (t.bumpEpoch c out).log = t.log ∧ (∀ b, ((t.bumpEpoch c out).box c).fifo b = (t.box c).fifo b) ∧
      (∀ d, d ≠ c → (t.bumpEpoch c out).box d = t.box d) ∧
      ∀ k i j, Reg.offset ⟨k, i, j⟩ ≠ Reg.offset ⟨.mbxEpoch, c, 0⟩ → (t.bumpEpoch c out).rg k i j = t.rg k i j := by
  obtain ⟨hi, lo, v, e⟩ := t.bumpEpoch_eq c out
  simp +contextual [e, State.dropKey, State.box_setBox_ne, State.setFld_rg_ne, Mailbox.fifo]

/-- Settles O44: PORT is stored as it stands, which changes MBX_CTL alone, and the flush empties its FIFO and changes MBX_STAT alone. -/
theorem flushEmptiesOneFifo : Obligations.FlushEmptiesOneFifo := by
  intro s m c out run
  obtain ⟨t, port, e⟩ := s.mbxCtlBit_stored m c (b2n out) (by cases out <;> decide)
  have acts : exec (if out then .flushOut m c else .flushIn m c) s = .next (noRewind s (t.flushMsgs c out)) := by
    cases out <;> exact live_mbxCtlBit run e
  have flushed := t.flushMsgs_spec c out
  obtain ⟨log, errors, time, boxes, regs⟩ := t.flushMsgs_kept c out
  rw [State.box_congr port.mbx] at flushed
  obtain ⟨empty, other, shown⟩ := flushed
  refine ⟨_, acts, ?_⟩
  simp only [noRewind_box, noRewind_fld, noRewind_epoch, noRewind_staged, noRewind_log, noRewind_errFifo]
  refine ⟨empty, other, shown, fun b => ⟨?_, State.staged_of_rg fun j hj => ?_⟩, log.trans port.log, errors.trans port.errFifo, ?_,
    fun d ne => (boxes d ne).trans (State.box_congr port.mbx d)⟩
  · obtain ⟨ctl, stat⟩ := offset_mbxEpoch_ne c
    exact State.epoch_of_rg ((regs _ _ _ stat).trans (port.rg _ _ _ ctl)) b
  · obtain ⟨ctl, stat, -⟩ := offset_mbxStg_ne c.isLt hj b
    exact (regs _ _ _ stat).trans (port.rg _ _ _ ctl)
  · have still := time.trans port.time
    rw [noRewind_time (Nat.le_of_eq (by rw [still])), still]

/-- Settles O42: PORT is stored as it stands, and the bump changes MBX_EPOCH and the channel's key. -/
theorem epochsAdvance : Obligations.EpochsAdvance := by
  intro s m c out run
  obtain ⟨t, port, e⟩ := s.mbxCtlBit_stored m c (8 + b2n out) (by cases out <;> decide)
  have acts : exec (if out then .bumpOut m c else .bumpIn m c) s = .next (noRewind s (t.bumpEpoch c out)) := by
    cases out <;> exact live_mbxCtlBit run e
  have epochs := State.epoch_of_rg (port.rg _ _ _ (offset_mbxEpoch_ne c).1)
  obtain ⟨raised, other, key⟩ := t.bumpEpoch_spec c out
  obtain ⟨log, fifos, boxes, regs⟩ := t.bumpEpoch_kept c out
  rw [State.box_congr port.mbx] at fifos
  refine ⟨_, acts, ?_⟩
  simp only [noRewind_box, noRewind_epoch, noRewind_rg, noRewind_log]
  exact ⟨by rw [raised, epochs], by rw [other, epochs], fifos false, fifos true, key,
    fun d ne => (boxes d ne).trans (State.box_congr port.mbx d), fun k i j epoch ctl => (regs k i j epoch).trans (port.rg k i j ctl),
    log.trans port.log⟩

/-- A read of a post's register in a part that runs has its effect. -/
theorem exec_post {acc : Acc} {m : BitVec 8} {c : Fin 32} {out : Bool} {t : State} (run : Running s)
    (e : s.regRead m ⟨if out then .mbxOutPost else .mbxInPost, c, 0⟩ acc = t) :
    exec (if out then .mbxOutPost m c acc else .mbxInPost m c acc) s = .next (noRewind s t) := by
  have acts := live_regRead run e
  cases out <;> exact acts

/-- Settles O41: `postRes` is R67's table, a post that it lets through enters its FIFO, and any other leaves the mailboxes. -/
theorem postChecksInOrder : Obligations.PostChecksInOrder := by
  rintro s m c out _ _ run rfl rfl
  refine ⟨fun acc lo => ?_, exec_post run (s.regRead_post_hi m c out)⟩
  obtain ⟨full, len, chan, rsvd, epoch, good, bound⟩ := s.postRes_spec c out (s.staged c out)
  by_cases ok : s.postRes c out (s.staged c out) = 0
  · refine ⟨_, _, exec_post run (State.regRead_post_taken m lo ok), ?_, full, len, chan, rsvd, epoch, good, bound, fun _ => ?_,
      fun bad => absurd ok bad, ?_⟩
    · simp [ok]
    · simpa using s.enqueue_fifos c out (s.staged c out)
    · simp [s.enqueue_staged c.isLt]
  · refine ⟨_, _, exec_post run (State.regRead_post_refused m lo ok), ?_, full, len, chan, rsvd, epoch, good, bound,
      fun ok' => absurd ok' ok, fun _ => ?_, ?_⟩ <;> simp

/-! ### Snima's device, operator and layout commands (R78 to R94, R105 to R107) -/

/-- Of the commands only OPER_OPEN spends the nonce (R89). -/
theorem State.nonceSpent_other {cmd : Nat} (other : cmd ≠ 3) (s : State) (c : Nat) : s.nonceSpent c cmd = s := if_neg other

section

variable {u : State} {c : Fin 32} {cmd cls : Nat} {ln : List Byte → Bool} {h : Handler} {q : Pending} {drop : Bool} {turn : Turn}

/-- A command other than OPER_OPEN that Snima takes and lets through. -/
theorem snimaAct_passes (other : cmd ≠ 3) (takes : s.snimaTakes c cmd cls ln q t drop) (acts : h c (bodyOf c q.msg) none t = (turn, u)) :
    s.snimaAct c cmd cls ln h = u.endTurn c q true drop turn := by
  rw [snimaAct_takes takes acts, State.nonceSpent_other other]

theorem live_snimaAct (run : Running s) (other : cmd ≠ 3) (takes : s.snimaTakes c cmd cls ln q t drop)
    (acts : h c (bodyOf c q.msg) none t = (turn, u)) :
    live s (·.snimaAct c cmd cls ln h) = .next (noRewind s (u.endTurn c q true drop turn)) := by
  rw [live_running run, snimaAct_passes other takes acts]

theorem liveM_eq {f : State → State} {z : State} (run : Running s) (e : f s = z) (g : s.granted z = true) :
    liveM s f = .next (noRewind s z) := by
  subst e
  exact liveM_granted run g

end

/-- An answer that waited goes out where its FIFO has room (R83). -/
theorem State.responsePosted_room {c : Nat} {p : Posting} {q : Pending} (waits : (s.box c).respWait = some p)
    (busy : (s.box c).busy = some q) (up : s.snimaUp = true) (room : (s.box c).outFifo.length < 64) :
    s.responsePosted c = s.sendAnswer c q.msg none p := by
  simp [State.responsePosted, waits, busy, up, room]

/-- A command that Snima does not know is answered (R82). -/
theorem State.undefinedCmd_answers {u : State} {c rc field : Nat} {q : Pending} {mac drop : Bool} (up : s.snimaUp = true)
    (takes : s.takeMsg c (fun n => !cmdKnown n) = some (q, t)) (current : msgEpoch q.msg = t.epoch c false)
    (shut : t.gate c 0 false (fun _ => true) q.msg = (.shut rc field mac drop, u)) :
    s.undefinedCmd c = u.answer c q ⟨⟨rc, field, []⟩, mac, drop, .nothing⟩ := by
  simp [State.undefinedCmd, up, takes, current, shut]

/-- The image of a slot is read, or could not be: it starts, or the next source is tried (R105, R107). -/
theorem State.imageLoaded_cons {b ok : Bool} {rest : List Bool} {r : Nat} (free : s.locked = false) (loading : s.fld .gctlBoot 2 0 = 1)
    (slots : s.snima.bootSlots = b :: rest) (code : (if ok then s.imageCheck (s.slotImage b) else 5) = r)
    (next : t = (if b then s.setFld .gctlBoot 19 16 r else s.setFld .gctlBoot 23 20 r).setFld .gctlBoot 2 0 (if rest = [] then 3 else 1)) :
    s.imageLoaded ok = if r = 0 then s.snimaStarts (s.slotImage b) (if b then 2 else 1)
      else { t with snima := { t.snima with bootSlots := rest, loadAt := t.clock } } := by
  unfold State.imageLoaded
  simp only [free, loading, slots, code, Bool.false_eq_true, ne_eq, not_true_eq_false, or_self, if_false]
  rw [next]
  rfl

/-- BOOT_STAGED in WAIT_MBX, where the ROM lets it through (R106). -/
theorem State.bootStaged_passes {u v : State} {q : Pending} {drop : Bool} {turn : Turn} (free : s.locked = false)
    (waits : s.fld .gctlBoot 2 0 = 3) (takes : s.takeMsg 0 (fun n => n = 0x05FF) = some (q, t))
    (current : msgEpoch q.msg = t.epoch 0 false) (pass : t.gate 0 0 true (lenIs 16) q.msg = (.pass drop, u))
    (acts : u.bootStagedTurn (bodyOf 0 q.msg) = (turn, v)) : s.bootStaged = v.endTurn 0 q true drop turn := by
  simp [State.bootStaged, free, waits, takes, current, pass, acts]

/-- Settles O22: a command that Snima lets through runs its handler, and each other row is its own case. -/
theorem snimaDeviceCommandsComplete : Obligations.SnimaDeviceCommandsComplete := by
  refine ⟨?devInfo, ?devHealth, ?operNonce, ?operOpen, ?devRestart, ?layoutGet, ?layoutSet, ?operClose, ?posted, ?undefined, ?image,
    ?noImage, ?staged⟩
  case devInfo | devHealth | operNonce | devRestart | layoutGet =>
    intro s t u c q drop turn run takes acts
    exact live_snimaAct run (by decide) takes acts
  case operOpen =>
    intro s t u c q drop turn run takes acts
    have opens := live_running run (·.snimaAct c 0x0003 2 (lenIs 203) operOpenTurn)
    rwa [snimaAct_takes takes acts] at opens
  case layoutSet =>
    rintro s t u c q drop turn run takes acts _ rfl g
    exact liveM_eq (f := (·.snimaAct c 0x0101 1 (lenIs 8) layoutSetTurn)) run (snimaAct_passes (by decide) takes acts) g
  case operClose =>
    intro s t c q drop run takes
    exact live_snimaAct run (by decide) takes rfl
  case posted =>
    intro s c p q run waits busy up room
    have posts := live_running run (·.responsePosted c)
    rwa [State.responsePosted_room waits busy up room] at posts
  case undefined =>
    intro s t u c q rc field mac drop run up takes current shut
    have answers := live_running run (·.undefinedCmd c)
    rwa [State.undefinedCmd_answers up takes current shut] at answers
  case image =>
    intro s t b rest r run free loading slots code next
    have loads := live_running run (·.imageLoaded true)
    rwa [State.imageLoaded_cons free loading slots ((if_pos rfl).trans code.symm) next] at loads
  case noImage =>
    intro s t rest run free loading slots next
    have loads := live_running run (·.imageLoaded false)
    rwa [State.imageLoaded_cons free loading slots (if_neg Bool.false_ne_true) next, if_neg (by decide)] at loads
  case staged =>
    rintro s t u v q drop turn run free waits takes current pass acts _ rfl g
    exact liveM_eq (f := (·.bootStaged)) run (State.bootStaged_passes free waits takes current pass acts) g

end Sys2Proof.Machine
end

section
/-! PROOFS. The Snima protocol's obligations (05_snima_protocol.md): the Central Store's upkeep, and Snima's commands about queues,
drives, the fleet, segments, self-tests, calibration and tamper. -/

namespace Sys2Proof.Machine

variable {s t : State}

/-! ### Commands that say what Time it is, and access the store -/

theorem liveMAt_eq {p z : State} {now : Nat} {f : State → State} (hp : p = s.pass now) (run : Running s) (e : f p = z)
    (g : p.granted z = true) : liveMAt s now f = .next (noRewind s z) := by
  subst hp e
  exact liveMAt_granted run g

theorem liveCAt_eq {p u z : State} {now : Nat} {f : State → State} (hp : p = s.pass now) (run : Running s) (e : f p = u)
    (hz : z = u.follows) (g : p.granted z = true) : liveCAt s now f = .next (noRewind s z) := by
  subst hp e hz
  exact liveCAt_granted run g

/-! ### The Central Store's upkeep (R282 to R286) -/

/-- A lasting page goes into the free spare page of index `j`, word by word, with its record, its remap entry and the vault's. -/
theorem State.moveOut_spare {w u v : State} {p j : Nat} (on : w.bit .cstCtl 1 = true) (lasting : p ∈ w.store.lasting)
    (spare : w.freeSpare = some j) (recorded : t = w.fault 0x61 0x08 (segOf (p * 4096)) (p + j * 2 ^ 18) (sparePage j * 4096))
    (copied : u = (List.range 512).foldl (fun t i => t.copyWord (p * 512 + i) (sparePage j * 512 + i)) t)
    (remapped : v = ({ u with store := { u.store with
        remap := remapMoved u.store.remap p j, lasting := u.store.lasting.filter (fun q => q ≠ p)
        unret := u.store.unret.filter (fun q => q ≠ p) } }).vaultPut [vaultRetired + j / 2]
          (fun x => { x with retired := remapMoved u.store.remap p j })) : w.moveOut p = v := by
  rw [State.moveOut, if_pos ⟨on, lasting⟩, spare, remapped, copied, recorded]

/-- Where no burst to a page holds a grant and the page moves, what waited for its old place is presented anew (R285). -/
theorem State.retirePage_moves {w v : State} {p : Nat} (freed : w = (s.arb.holder.map (·.1)).foldl (fun t g => t.giveUpRow g) s)
    (idle : w.arb.holder.any (fun e => e.2.any (fun r => r.page = some p)) = false) (moved : w.moveOut p = v)
    (gone : p ∉ v.store.lasting) :
    s.retirePage p = ((w.arb.presented.filter (fun r => !r.row && r.page = some p)).foldl (fun t r => t.presentAgain r)
      (v.rowsMove p)).stayInPlace := by
  subst freed moved
  simp only [State.retirePage, idle, gone, Bool.false_eq_true, if_false]

/-- Settles O12: each row is the one case of its effect that its hypotheses leave. -/
theorem storeUpkeepCommandsComplete : Obligations.StoreUpkeepCommandsComplete := by
  refine ⟨?retired, ?read, ?catchUp, ?zeroed⟩
  case retired =>
    intro s w t u v page j run freed on lasting spare idle recorded copied remapped gone z hz g
    have moved := State.moveOut_spare on lasting spare recorded copied remapped
    exact liveC_eq (f := (·.retirePage page)) run (State.retirePage_moves freed idle moved gone) hz g
  case read =>
    rintro s _ seg words u run rfl on unrequested ungranted
    change execScrubRead seg words u s = _
    simp only [execScrubRead, live_running run, on, unrequested, ungranted, Bool.not_false, Bool.and_self, if_true]
  case catchUp =>
    rintro s _ seg now u run rfl on behind
    change execScrubCatchUp seg now u s = _
    simp only [execScrubCatchUp, liveAt_running run, on, behind, Bool.and_self, if_true]
  case zeroed =>
    intro s run zeroing
    change execStoreZeroComplete s = _
    rw [execStoreZeroComplete, live_running run, if_pos zeroing]

/-! ### Commands that Snima takes, and commands that it acts on already -/

section

variable {u z : State} {c : Fin 32} {cmd cls : Nat} {ln : List Byte → Bool} {h : Handler} {q : Pending} {drop : Bool} {turn : Turn}

theorem liveM_snimaAct (run : Running s) (other : cmd ≠ 3) (takes : s.snimaTakes c cmd cls ln q t drop)
    (acts : h c (bodyOf c q.msg) none t = (turn, u)) (hz : z = u.endTurn c q true drop turn) (g : s.granted z = true) :
    liveM s (·.snimaAct c cmd cls ln h) = .next (noRewind s z) :=
  liveM_eq run ((snimaAct_passes other takes acts).trans hz.symm) g

theorem liveC_snimaAct (run : Running s) (other : cmd ≠ 3) (takes : s.snimaTakes c cmd cls ln q t drop)
    (acts : h c (bodyOf c q.msg) none t = (turn, u)) (hz : z = (u.endTurn c q true drop turn).follows) (g : s.granted z = true) :
    liveC s (·.snimaAct c cmd cls ln h) = .next (noRewind s z) :=
  liveC_eq run (snimaAct_passes other takes acts) hz g

/-- A command that draws nothing goes on with the message that its mailbox is busy with (R83). -/
theorem snimaAct_goesOn (up : s.snimaUp = true) (draws : drawsRandom cmd = false) (busy : (s.box c).busy = some q)
    (same : msgCmd q.msg = cmd) (unanswered : (s.box c).respWait = none) (acts : h c (bodyOf c q.msg) (some q) s = (turn, t)) :
    s.snimaAct c cmd cls ln h = t.endTurn c q true (lastSeq c q.msg) turn := by
  simp [State.snimaAct, up, draws, busy, same, unanswered, acts]

end

theorem State.running_busy {c : Nat} {q : Pending} (busy : (s.box c).busy = some q) (unanswered : (s.box c).respWait = none) :
    s.running c = some (msgCmd q.msg) := by
  simp [State.running, busy, unanswered]

/-! ### Snima's queue and drive commands (R95 to R101) -/

section

variable {c : Nat} {q : Pending} (up : s.snimaUp = true) (busy : (s.box c).busy = some q) (late : q.deadline ≤ s.clock)
include up busy late

/-- An attach that has run past its deadline gives its drive up (R100). -/
theorem State.drvExpires_attach (runs : s.running c = some 0x0801) :
    s.drvExpires c 0x0801 = (s.setDrive (bytesAt (bodyOf c q.msg) 0 1 % 8) drive0).finish c (ansErr snHwFault) := by
  simp [State.drvExpires, up, busy, late, runs]

/-- An admin command that has run past its deadline is aborted (R101). -/
theorem State.drvExpires_admin {d : Nat} (runs : s.running c = some 0x0803) (hd : d = bytesAt (bodyOf c q.msg) 0 1 % 8)
    (attached : (s.drive d).attached = true) :
    s.drvExpires c 0x0803 = ((s.putEntry d 0 (natLe 1 8 ++ natLe 39 0 ++ natLe 2 0 ++ natLe 2 q.tag ++ natLe 20 0)).adminFree d
      q.tag).finish c (ansErr snHwFault) := by
  subst hd
  simp only [State.drvExpires, up, busy, late, runs, attached, and_self, if_true]

end

/-- Settles O23: a command that Snima lets through runs its handler, and a drive's command that is late expires. -/
theorem snimaQueueAndDriveCommandsComplete : Obligations.SnimaQueueAndDriveCommandsComplete := by
  refine ⟨?cqCreate, ?sqCreate, ?sqDelete, ?cqDelete, ?qQuery, ?drvList, ?attach, ?detach, ?admin, ?notReady, ?adminLate⟩
  case cqCreate | sqCreate | sqDelete | cqDelete | qQuery | drvList =>
    intro s t u c q drop turn run takes acts
    exact live_snimaAct run (by decide) takes acts
  case attach | admin =>
    intro s t u c ans q drop turn run takes acts z hz g
    exact liveM_snimaAct run (by decide) takes acts hz g
  case detach =>
    intro s t u c q drop turn run takes acts z hz g
    exact liveM_snimaAct run (by decide) takes acts hz g
  case notReady =>
    intro s p c now q hp run up busy runs late z hz g
    exact liveMAt_eq (f := (·.drvExpires c 0x0801)) hp run ((State.drvExpires_attach up busy late runs).trans hz.symm) g
  case adminLate =>
    intro s p c now q d hp run up busy runs late hd attached z hz g
    exact liveMAt_eq (f := (·.drvExpires c 0x0803)) hp run ((State.drvExpires_admin up busy late runs hd attached).trans hz.symm) g

/-! ### Snima's fleet, segment, self-test, calibration and tamper commands (R102, R103, R354 to R361, R401, R407) -/

/-- The next background test of the cycle starts where it is due, no other runs and none of its unit's class does (R401). -/
theorem State.bgKat_starts {n : Nat} (up : s.snimaUp = true) (idle : s.snima.kats.find? (fun k => k.2.2 = none) = none)
    (next : ((List.range 45).map (fun i => (s.snima.nextBgKat + i) % 45)).find?
      (fun i => !s.unitOut (bgUnit i).1 (bgUnit i).2) = some n)
    (untested : s.snima.kats.any (fun k => k.1 = (bgUnit n).1) = false) (due : s.bgKatDue = true) :
    s.bgKat .started = { s with snima := { s.snima with
      kats := s.snima.kats ++ [((bgUnit n).1, (bgUnit n).2, none)], nextBgKat := (n + 1) % 45, lastBgKat := some s.clock } } := by
  simp only [State.bgKat, up, idle, next, untested, due, Bool.not_true, Bool.or_self, Bool.false_eq_true, if_false]

/-- A background test ends once its unit serves no channel (R276, R401). -/
theorem State.bgKat_ends {k : Nat × Nat × Option Nat} (pass : Bool) (up : s.snimaUp = true)
    (runs : s.snima.kats.find? (fun k => k.2.2 = none) = some k) (unused : (s.unitUser k.1 k.2.1).isSome = false) :
    s.bgKat (.done pass) = s.katEnds k.1 k.2.1 pass := by
  simp only [State.bgKat, up, runs, unused, Bool.not_true, Bool.false_eq_true, if_false]

/-- Settles O26: a command that Snima lets through runs its handler, and the ends of the self-tests are each one case of their own. -/
theorem snimaFleetAndStoreCommandsComplete : Obligations.SnimaFleetAndStoreCommandsComplete := by
  refine ⟨?status, ?create, ?admitNode, ?join, ?leave, ?timeSet, ?relay, ?attest, ?recSend, ?release, ?giveBack, ?kat, ?cal, ?arm, ?bist,
    ?bistDone, ?bgStarts, ?bgEnds⟩
  case status | create | admitNode | join | leave | timeSet | relay | attest | release | giveBack | cal | arm | bist =>
    intro s t u c q drop turn run takes acts
    exact live_snimaAct run (by decide) takes acts
  case recSend =>
    intro s t u c q drop turn run takes acts z hz g
    exact liveM_snimaAct run (by decide) takes acts hz g
  case kat =>
    intro s t u c ans q drop turn run takes acts z hz g
    exact liveC_snimaAct run (by decide) takes acts hz g
  case bistDone =>
    intro s c pass ce fp q run up busy bist unanswered
    have runs := State.running_busy busy unanswered
    have answers := snimaAct_goesOn (cls := 1) (ln := lenIs 8) (h := storeBistTurn (.done pass ce fp)) up (by decide) busy bist
      unanswered rfl
    change execStoreBist c (.done pass ce fp) s = _
    simp only [execStoreBist, live_running run, up, runs, bist, answers, decide_true, Bool.and_self, if_true]
  case bgStarts =>
    intro s p now n hp run up idle next untested due z hz g
    exact liveCAt_eq (f := (·.bgKat .started)) hp run (State.bgKat_starts up idle next untested due) hz g
  case bgEnds =>
    intro s p now pass k hp run up runs unused z hz g
    exact liveCAt_eq (f := (·.bgKat (.done pass))) hp run (State.bgKat_ends pass up runs unused) hz g

end Sys2Proof.Machine
end

section
/-! PROOFS. The obligations of sessions, keys and attestation (06_sessions_keys_attestation.md): the crypto units, the key cache and
the random generators, and Snima's commands about sessions, operators, attestation and firmware. -/

namespace Sys2Proof.Machine

variable {s t : State}

/-! ### Commands of the data plane -/

/-- A command of the data plane that is free to run, and whose accesses are granted at once, has its effect `u` and what follows it. -/
theorem freeC_eq {f : State → State} {u z : State} (free : Free s) (e : f s = u) (hz : z = u.follows) (g : s.granted z = true) :
    freeC s f = .next (noRewind s z) := by
  subst e hz
  exact freeC_granted free g

/-- A command of the data plane that accesses no store has its effect where it is free to run. -/
theorem live_unlocked_eq {f : State → State} (free : Free s) (e : f s = t) : live s (unlocked f) = .next (noRewind s t) := by
  rw [live_running free.1, unlocked_free free.2, e]

/-! ### A free unit goes to the channel that has waited longest (R257) -/

section

variable {c n : Nat} {rest : List Nat}

theorem State.takeUnit_aes (waits : s.crypto.aesWait = c :: rest) (free : s.freeUnit 0 32 s.crypto.aes s.crypto.aesOut = some n)
    (taken : t = { s with crypto := { s.crypto with aesWait := rest, aes := tabSet none s.crypto.aes n (some c) } }) :
    s.takeUnit .aes = (t.progressed c).streamBegin c := by
  simp only [State.takeUnit, waits, free, taken]

theorem State.takeUnit_sha {m : Nat} (waits : s.crypto.shaWait = c :: rest)
    (free : s.freeUnit 1 8 s.crypto.sha s.crypto.shaOut = some n)
    (taken : t = ({ s with crypto := { s.crypto with shaWait := rest, sha := tabSet none s.crypto.sha n (some c) } }).progressed c)
    (mover : t.moverOf c = some m) : s.takeUnit .sha = (t.loadMember m c 0).run m := by
  simp only [State.takeUnit, waits, free, ← taken, mover]

theorem State.takeUnit_p521 (waits : s.crypto.p521Wait = c :: rest)
    (free : s.freeUnit 2 4 s.crypto.p521 s.crypto.p521Out = some n)
    (taken : t = { s with crypto := { s.crypto with p521Wait := rest, p521 := tabSet none s.crypto.p521 n (some c) } }) :
    s.takeUnit .p521 = (t.progressed c).p521Begin c n := by
  simp only [State.takeUnit, waits, free, taken]

end

/-! ### A P-521 operation ends (R207, R208, R256) -/

section

variable {n c m : Nat} {x : Transfer} {y : List Byte} (holds : tabGet none s.crypto.p521 n = some c) (mover : s.moverActive c = some m)
  (moves : (s.mover m).active = some x) (active : (s.chan c).phase = .active) (runs : (s.chan c).stage = .p521Run)
include holds mover moves active runs

/-- SIGN with a half of its signature 0 draws its secret again. -/
theorem State.p521Complete_redraws (sign : (s.chan c).head.cmd.opc = 6)
    (signature : y = Algo.ecdsaSign (s.keyOf c) (s.chan c).stream.result (s.chan c).stream.iv)
    (zero : Algo.sigOutOfRange (y.take 66) = true ∨ Algo.sigOutOfRange (y.drop 66) = true) :
    s.p521Complete n = s.p521Begin c n := by
  subst signature
  simp [State.p521Complete, holds, mover, moves, active, runs, sign, zero]

/-- SIGN has its signature. -/
theorem State.p521Complete_signs (sign : (s.chan c).head.cmd.opc = 6)
    (signature : y = Algo.ecdsaSign (s.keyOf c) (s.chan c).stream.result (s.chan c).stream.iv)
    (low : Algo.sigOutOfRange (y.take 66) = false) (high : Algo.sigOutOfRange (y.drop 66) = false) :
    s.p521Complete n = ((s.setChan c { s.chan c with
      stage := .moving, stream := { (s.chan c).stream with result := y, formed := true } }).emitOut m c x x.bursts [] []).run m := by
  subst signature
  simp [State.p521Complete, holds, mover, moves, active, runs, sign, low, high]

/-- VERIFY has its verdict. -/
theorem State.p521Complete_judges {v : Option Nat} (verify : (s.chan c).head.cmd.opc ≠ 6)
    (verdict : v = (if Algo.sigOutOfRange ((s.chan c).stream.other.take 66) || Algo.sigOutOfRange ((s.chan c).stream.other.drop 66)
      then some 1
      else if Algo.ecdsaHolds (s.keyOf c) (s.chan c).stream.result (s.chan c).stream.other then none else some 2)) :
    s.p521Complete n = ((s.setChan c { s.chan c with
      stage := .moving, stream := { (s.chan c).stream with result := [], formed := true, diff := v } }).emitOut m c x x.bursts []
      []).run m := by
  subst verdict
  simp [State.p521Complete, holds, mover, moves, active, runs, verify]

end

/-! ### The key cache (R115, R116, R268, R269) -/

theorem State.evictDue_wanted (wanted : s.placeWanted = true) : s.evictDue = s.evict := if_pos wanted

theorem State.evictDue_unwanted (unwanted : s.placeWanted = false) : s.evictDue = s := by simp [State.evictDue, unwanted]

/-- The first fill that waits takes the lowest free engine where the cache has a place for its key. -/
theorem State.fillStart_place {f : Fill} {n : Nat} (waits : s.crypto.fills.find? (fun f => f.engine.isNone) = some f)
    (engine : (List.range 4).find? (fun n => s.crypto.fills.all (fun f => f.engine ≠ some n)) = some n)
    (place : s.crypto.cache.length + s.fillsRunning < 65536) :
    s.fillStart = { s with crypto := { s.crypto with fills := s.crypto.fills.map (fun g =>
      if g.sess = f.sess ∧ g.epoch = f.epoch ∧ g.engine = none then { g with engine := some n } else g) } } := by
  simp only [State.fillStart, waits, engine, place, if_true]

section

variable {n : Nat} {f : Fill} (fills : s.crypto.fills.find? (fun f => f.engine = some n) = some f)
  (ended : t = { s with crypto := { s.crypto with fills := s.crypto.fills.erase f } })
include fills ended

/-- A fill whose wrap or key fails ends SESSION_INVALID every command that waits on it. -/
theorem State.fillComplete_invalid (invalid : unwrapCtx t.dkek f.sess f.ctx = none) :
    s.fillComplete n = (byChan f.waiters).foldl (fun t w => (t.progressed w.1).sessionInvalid w.1) t := by
  subst ended
  simp only [State.fillComplete, fills, invalid]

/-- A fill that was not revoked meanwhile and on which no command waits puts its key into the cache. -/
theorem State.fillComplete_unawaited {k : List Byte} (key : unwrapCtx t.dkek f.sess f.ctx = some k) (kept : f.revoked = false)
    (unawaited : f.waiters = []) :
    s.fillComplete n = { t with crypto := { t.crypto with cache := t.crypto.cache ++
      [(⟨f.sess, f.epoch, bindingOf f.sess f.ctx, ctxKtype f.ctx, k, 0, true, true, []⟩ : CacheEntry)] } } := by
  subst ended
  simp [State.fillComplete, fills, key, kept, unawaited, byChan]

end

/-- The oldest count-only entry moves to the write-back list where that has a place. -/
theorem State.listCountOnly_place {e : CacheEntry} (oldest : s.crypto.cache.find? (fun e => !e.keyed) = some e)
    (place : s.crypto.listed.length < 256) :
    s.listCountOnly = { s with crypto := { s.crypto with
      cache := s.crypto.cache.erase e, listed := s.crypto.listed ++ [⟨e.sess, e.epoch, e.count⟩] } } := by
  simp only [State.listCountOnly, oldest, place, if_true]

/-! ### The random generators (R271, R272, R404) -/

/-- A generator whose reseed is due is seeded anew from entropy that passes its tests, and commands that waited for it go on. -/
theorem liveCAt_drbgReseed {p z : State} {inst : Fin 6} {now : Nat} {d : Drbg} (hp : p = s.pass now) (run : Running s)
    (hd : d = tabGet drbg0 p.crypto.drbg inst) (sound : p.bit .anaCal 4 = true)
    (due : d.seeded = false ∨ 2 ^ 16 ≤ d.requests ∨ usPassed d.seedTime p.clock 1000000 = true)
    (hz : z = (p.reseed inst).drbgResume.follows) (g : p.granted z = true) : execDrbgReseed inst now s = .next (noRewind s z) := by
  have reseeds : (p.bit .anaCal 4 && (!d.seeded || 2 ^ 16 ≤ d.requests || usPassed d.seedTime p.clock 1000000)) = true := by
    simpa [sound, or_assoc] using due
  unfold execDrbgReseed
  refine liveCAt_eq hp run ?_ hz g
  rw [← hd, if_pos reseeds]

/-- Where the start-up test runs, its pass gives ENT_OK back and reseeds every generator. -/
theorem State.entropyPasses_startup (startup : s.ana.startupRuns = true)
    (reseeded : t = (List.range 6).foldl (fun t i => t.reseed i)
      { s.setBit .anaCal 4 true with ana := { (s.setBit .anaCal 4 true).ana with startupRuns := false } }) :
    s.entropyPasses = t.redraw := by
  rw [State.entropyPasses, if_pos startup, reseeded]

/-- Settles O10: each row is the one case of its effect that its hypotheses leave. -/
theorem cryptoCommandsComplete : Obligations.CryptoCommandsComplete := by
  refine ⟨?aes, ?sha, ?p521, ?signs, ?redraws, ?judges, ?evicts, ?fillStarts, ?invalid, ?fillEnds, ?listed, ?reseeds, ?health, ?startup⟩
  case aes =>
    intro s t c n rest free waits unit taken z hz g
    exact freeC_eq (f := (·.takeUnit .aes)) free (State.takeUnit_aes waits unit taken) hz g
  case sha =>
    intro s t c n m rest free waits unit taken mover z hz g
    exact freeC_eq (f := (·.takeUnit .sha)) free (State.takeUnit_sha waits unit taken mover) hz g
  case p521 =>
    intro s t c n rest free waits unit taken z hz g
    exact freeC_eq (f := (·.takeUnit .p521)) free (State.takeUnit_p521 waits unit taken) hz g
  case signs =>
    rintro s n c m x _ free holds mover moves active runs sign rfl low high z hz g
    exact freeC_eq (f := (·.p521Complete n)) free (State.p521Complete_signs holds mover moves active runs sign rfl low high) hz g
  case redraws =>
    intro s n c m x y free holds mover moves active runs sign signature zero z hz g
    exact freeC_eq (f := (·.p521Complete n)) free (State.p521Complete_redraws holds mover moves active runs sign signature zero) hz g
  case judges =>
    rintro s n c m x _ v free holds mover moves active runs verify rfl verdict z hz g
    exact freeC_eq (f := (·.p521Complete n)) free (State.p521Complete_judges holds mover moves active runs verify verdict) hz g
  case evicts => exact fun s free wanted => live_unlocked_eq (f := (·.evictDue)) free (State.evictDue_wanted wanted)
  case fillStarts =>
    intro s f n free unwanted waits engine place
    refine live_unlocked_eq (f := (·.evictDue.fillStart)) free ?_
    rw [State.evictDue_unwanted unwanted, State.fillStart_place waits engine place]
  case invalid =>
    intro s t n f free fills ended invalid z hz g
    exact freeC_eq (f := (·.fillComplete n)) free (State.fillComplete_invalid fills ended invalid) hz g
  case fillEnds =>
    intro s t n f r free fills ended unwrapped kept unawaited z hz g
    refine freeC_eq (f := (·.fillComplete n)) free ?_ hz g
    cases r with
    | none => rw [State.fillComplete_invalid fills ended unwrapped.symm, unawaited]; rfl
    | some k => exact State.fillComplete_unawaited fills ended unwrapped.symm kept unawaited
  case listed =>
    intro s e free oldest place
    exact live_unlocked_eq (f := (·.listCountOnly)) free (State.listCountOnly_place oldest place)
  case reseeds =>
    intro s p inst now d hp run hd sound due z hz g
    exact liveCAt_drbgReseed hp run hd sound due hz g
  case health =>
    rintro s raw _ run rfl - -
    exact live_running run (fun s => s.entropyFails (s.testFailed raw))
  case startup =>
    intro s t run startup reseeded z hz g
    exact liveC_eq (f := (·.entropyPasses.drbgResume)) run (congrArg State.drbgResume (State.entropyPasses_startup startup reseeded))
      hz g

/-! ### Snima's session commands (R112 to R125) -/

/-- The first listed count whose session no command holds is folded into its context, and into what fills of that session have read. -/
theorem State.usedFold_folds {u v : State} {e : ListedCount} {x : List Byte} (up : s.snimaUp = true)
    (first : s.crypto.listed.find? (fun e => !s.held 32 [.session e.sess]) = some e)
    (unlisted : t = { s with crypto := { s.crypto with listed := s.crypto.listed.erase e } })
    (within : e.sess < 2 ^ t.snima.layout.sessLog2) (read : t.mcRead (sessAddr e.sess) 128 = (some x, u)) (same : ctxEpoch x = e.epoch)
    (filled : v = { u with crypto := { u.crypto with fills := u.crypto.fills.map (fun f =>
      if f.sess = e.sess ∧ f.epoch = e.epoch then f.withTaken e.count else f) } }) :
    s.usedFold = v.mcWrite (sessAddr e.sess) (ctxAddUsed x e.count) := by
  subst unlisted filled
  simp only [State.usedFold, up, first, Nat.not_le.2 within, read, same, Bool.not_true, Bool.false_eq_true, if_false, if_true]

/-- Settles O24: a command that Snima lets through runs its handler, and a count that waits is folded. -/
theorem snimaSessionCommandsComplete : Obligations.SnimaSessionCommandsComplete := by
  refine ⟨?sessImport, ?sessGenerate, ?sessExport, ?sessPolicy, ?sessDestroy, ?sessQuery, ?sessMigrateOut, ?sessAdopt, ?usedFold⟩
  case sessImport | sessGenerate | sessExport | sessPolicy | sessDestroy | sessQuery | sessMigrateOut | sessAdopt =>
    intro s t u c q drop turn run takes acts z hz g
    exact liveM_snimaAct run (by decide) takes acts hz g
  case usedFold =>
    intro s t u v e x run up first unlisted within read same filled z hz g
    exact liveM_eq (f := (·.usedFold)) run ((State.usedFold_folds up first unlisted within read same filled).trans hz.symm) g

/-! ### Snima's operator, attestation and firmware commands (R119, R122 to R128) -/

/-- Settles O25: a command that Snima lets through runs its handler. -/
theorem snimaOperatorAndFirmwareCommandsComplete : Obligations.SnimaOperatorAndFirmwareCommandsComplete := by
  refine ⟨?claim, ?enroll, ?revoke, ?list, ?report, ?cert, ?stage, ?activate, ?commit, ?rollback, ?status⟩
  case claim | enroll | revoke | list | activate | commit | rollback | status =>
    intro s t u c q drop turn run takes acts
    exact live_snimaAct run (by decide) takes acts
  case report | cert =>
    intro s t u c q drop turn run takes acts z hz g
    exact liveM_snimaAct run (by decide) takes acts hz g
  case stage =>
    intro s t u c flashOk q drop turn run takes acts z hz g
    exact liveM_snimaAct run (by decide) takes acts hz g

end Sys2Proof.Machine
end

section
/-! PROOFS. The obligations of queues and rings (07_queues_and_rings.md): the commands of the queue engine, and the entries of its
submission queues. -/

namespace Sys2Proof.Machine

variable {s t : State}

/-! ### Commands of the data plane that access the store or say what Time it is -/

/-- A command of the data plane that is free to run, and whose accesses are granted at once, has its effect. -/
theorem freeM_eq {f : State → State} {z : State} (free : Free s) (e : f s = z) (g : s.granted z = true) :
    freeM s f = .next (noRewind s z) := by
  subst e
  exact freeM_granted free g

/-- The same at the Time that the command says, with what follows it. -/
theorem freeCAt_eq {p u z : State} {now : Nat} {f : State → State} (hp : p = s.pass now) (free : Free s) (e : f p = u)
    (hz : z = u.follows) (g : p.granted z = true) : freeCAt s now f = .next (noRewind s z) := by
  subst hp e hz
  exact freeCAt_granted free g

/-- A command of the data plane that accesses no store, at the Time that it says. -/
theorem liveAt_unlocked_eq {p : State} {now : Nat} {f : State → State} (hp : p = s.pass now) (free : Free s) (e : f p = t) :
    liveAt s now (unlocked f) = .next (noRewind s t) := by
  subst hp
  rw [liveAt_running free.1, unlocked_free (free.pass now).2, e]

/-! ### Chimes (R138, R139, R145) -/

section

variable {q : Nat} {acc : Acc}

/-- Outside Lockdown a write of CHM_SQ rings the queue. -/
theorem live_chimeSq (free : Free s) (e : s.ringSq q = t) (d : Nat) :
    live s (·.chimeWrite q false acc d) = .next (noRewind s t) := by
  simp [live_running free.1, State.chimeWrite, free.2, e]

/-- Outside Lockdown a write of CHM_CQ rings the queue with what it writes. -/
theorem live_chimeCq {d : Nat} (free : Free s) (e : s.ringCq q acc d = t) :
    live s (·.chimeWrite q true acc d) = .next (noRewind s t) := by
  simp [live_running free.1, State.chimeWrite, free.2, e]

section

variable (there : (s.sq q).exists_ = true) (on : (s.sq q).en = true)
include there on

/-- In index mode a doorbell has the tail word read. -/
theorem State.ringSq_index (index : indexMode (s.sq q).conf.cfg = true) : s.ringSq q = s.setSq q { s.sq q with
    tailReads := (s.sq q).tailReads ++ [s.ringIssue (s.sq q).conf.cfg (s.sq q).conf.taddr], repoll := none
    cause := s.time.now } := by
  simp [State.ringSq, there, on, index]

/-- In phase mode a doorbell sets WAKE, and a window in flight keeps it. -/
theorem State.ringSq_phase (phase : indexMode (s.sq q).conf.cfg = false) : s.ringSq q = s.setSq q { s.sq q with
    wake := true, repoll := none, cause := s.time.now
    window := (s.sq q).window.map (fun w => { w with rung := true }) } := by
  simp [State.ringSq, there, on, phase]

end

section

variable {d : Nat} (there : (s.cq q).exists_ = true) (lo : acc ≠ .hi)
include there lo

/-- In index mode a doorbell has the head word read. -/
theorem State.ringCq_index (index : indexMode (s.cq q).conf.cfg = true) : s.ringCq q acc d = s.setCq q { s.cq q with
    headReads := (s.cq q).headReads ++ [s.ringIssue (s.cq q).conf.cfg (s.cq q).conf.haddr] } := by
  simp [State.ringCq, there, lo, index]

/-- In phase mode the written head and phase are the new ones. -/
theorem State.ringCq_phase (phase : indexMode (s.cq q).conf.cfg = false) :
    s.ringCq q acc d = s.newHead q (d % 2 ^ 16) (d.testBit 16) := by
  simp [State.ringCq, there, lo, phase, fieldOf]

end

end

/-! ### Enables (R153, R156, R157) -/

section

variable {q : Nat}

/-- Outside Lockdown a write of a present queue's SQ_CTL enables or disables it. -/
theorem State.writeReg_sqCtl (free : s.locked = false) (there : (s.sq q).exists_ = true) (m d : Nat) :
    s.writeReg m ⟨.sqCtl, q, 0⟩ .lo d = if d.testBit 0 then s.enableSq q else s.disableSq q := by
  simp [State.writeReg, State.writePlain, State.ignoresWrite, State.woActs, RegKind.isSqCfg, RegKind.isCqCfg, RegKind.isShadow,
    RegKind.isLink, RegKind.actsLocked, Reg.rwMask, RegKind.info, accMask, there, free]

/-- Outside Lockdown a write of a present queue's CQ_CTL sets EN. -/
theorem State.writeReg_cqCtl (free : s.locked = false) (there : (s.cq q).exists_ = true) (m d : Nat) :
    s.writeReg m ⟨.cqCtl, q, 0⟩ .lo d = s.setCq q { s.cq q with en := d.testBit 0 } := by
  simp [State.writeReg, State.writePlain, State.ignoresWrite, State.woActs, RegKind.isSqCfg, RegKind.isCqCfg, RegKind.isShadow,
    RegKind.isLink, RegKind.actsLocked, Reg.rwMask, RegKind.info, accMask, State.setCqEn, there, free]

theorem State.enableSq_off (there : (s.sq q).exists_ = true) (off : (s.sq q).en = false) :
    s.enableSq q = s.setSq q { s.sq q with en := true, wake := true } := by
  simp [State.enableSq, there, off]

theorem State.disableSq_on (there : (s.sq q).exists_ = true) (on : (s.sq q).en = true) :
    s.disableSq q = ((s.setSq q { s.sq q with
      en := false, repoll := none, window := (s.sq q).window.map (fun w => { w with dropped := true })
      }).closeBatches q .engine).2 := by
  simp [State.disableSq, there, on]

end

/-! ### Grants (R140 to R143) -/

section

variable {l : List Nat} {q : Nat} (accepts : s.fetch.accepting = true)
  (room : (s.sqs.filter (fun e => e.2.window.isSome)).length < 256) (eligible : l = (s.sqs.map (·.1)).filter s.sqEligible)
include accepts room eligible

/-- The next urgent queue in rotation gets a window. -/
theorem State.fetchGrant_urgent (urgent : nextAfter s.fetch.lastUrgent (l.filter s.sqUrgent) = some q) :
    s.fetchGrant = ({ s with fetch := { s.fetch with lastUrgent := q } }).issueWindow q (s.windowSlots q) := by
  subst eligible
  simp only [State.fetchGrant, accepts, Nat.not_le.2 room, urgent, Bool.not_true, decide_false, Bool.or_self, Bool.false_eq_true,
    if_false]

/-- Where no urgent queue is eligible, the next weighted one with CREDIT gets a window, in a new round where none had any. -/
theorem State.fetchGrant_weighted (nonempty : l ≠ []) (noUrgent : nextAfter s.fetch.lastUrgent (l.filter s.sqUrgent) = none)
    (round : t = (if l.any (fun q => 0 < (s.sq q).credit) then s else s.newRound))
    (weighted : nextAfter t.fetch.lastWeighted (l.filter (fun q => 0 < (t.sq q).credit)) = some q) :
    s.fetchGrant = ({ t with fetch := { t.fetch with lastWeighted := q } }).issueWindow q
      (min (t.sq q).credit (t.windowSlots q)) := by
  subst eligible
  simp only [State.fetchGrant, accepts, Nat.not_le.2 room, noUrgent, nonempty, ← round, weighted, Bool.not_true, decide_false,
    Bool.or_self, Bool.false_eq_true, if_false]

end

/-! ### Reads of rings and index words return (R137, R139, R144, R156) -/

section

variable {q : Nat} {data b : List Byte} {w : Window} (reads : (s.sq q).window = some w) (here : s.ringHere (w.issued, w.link) = true)
  (bytes : s.windowBytes q w data = (.ok b, t))
include reads here bytes

/-- The entries of a window are accepted where its queue is enabled still. -/
theorem State.windowReturns_accepts (kept : w.dropped = false) (on : (s.sq q).en = true) (accepts : t.fetch.accepting = true) :
    s.windowReturns q data = t.windowData q w.slots b := by
  simp [State.windowReturns, reads, here, bytes, kept, on, accepts]

/-- What a window brings is dropped after EN was cleared, or where the engine accepts no more entries. -/
theorem State.windowReturns_drops (dropped : w.dropped = true ∨ (s.sq q).en = false ∨ t.fetch.accepting = false) :
    s.windowReturns q data = t.setSq q { t.sq q with window := none } := by
  have drops : (w.dropped || !(s.sq q).en || !t.fetch.accepting) = true := by simpa [or_assoc] using dropped
  simp only [State.windowReturns, reads, here, bytes, drops, Bool.not_true, Bool.false_eq_true, if_false, if_true]

end

/-- Outside Lockdown a window's data return to its queue. -/
theorem execWindowDataReturn_eq {q : Fin 4096} {data : List Byte} {z : State} (free : Free s) (e : s.windowReturns q data = z)
    (g : s.granted z = true) : execWindowDataReturn q data s = .next (noRewind s z) := by
  have returns : (if s.locked then s.windowMeets q data else s.windowReturns q data) = z := by simp [free.2, e]
  exact liveM_eq (f := fun s => if s.locked then s.windowMeets q data else s.windowReturns q data) free.1 returns g

section

variable {q v : Nat} {word : Word} {r : Nat × Option Nat} {l : List (Nat × Option Nat)} (here : s.ringHere r = true)
include here

theorem State.tailReturns_ok (reads : (s.sq q).tailReads = r :: l)
    (value : s.indexWord (ringZone (s.sq q).conf.cfg) (s.sq q).conf.taddr r.2 word = (.ok v, t)) :
    s.tailReturns q word =
      t.setSq q { t.sq q with tailReads := (t.sq q).tailReads.tail, tail := v % qSlots (s.sq q).conf.cfg } := by
  simp [State.tailReturns, reads, here, value]

theorem State.headReturns_ok (reads : (s.cq q).headReads = r :: l)
    (value : s.indexWord (ringZone (s.cq q).conf.cfg) (s.cq q).conf.haddr r.2 word = (.ok v, t)) :
    s.headReturns q word = (t.setCq q { t.cq q with headReads := (t.cq q).headReads.tail }).newHead q v false := by
  simp [State.headReturns, reads, here, value]

end

/-! ### Reads that fail (R158, R367) -/

/-- A failure is reported, a timeout only where the endpoint allows it. -/
theorem State.ringReported_fails {q cause : Nat} {kind : RingRead}
    (timely : cause = 3 → s.ctoPassed (s.ringIssued q kind).1 (s.ringIssued q kind).2 = true) :
    s.ringReported q kind cause = s.ringFail q kind cause := by
  refine if_neg fun ⟨timeout, early⟩ => ?_
  exact Bool.false_ne_true (early.symm.trans (timely timeout))

theorem execRingReadFail_eq {q : Fin 4096} {cause : BitVec 8} {kind : RingRead} (free : Free s)
    (timely : cause = 3 → s.ctoPassed (s.ringIssued q kind).1 (s.ringIssued q kind).2 = true)
    (e : s.ringFail q kind cause.toNat = t) : execRingReadFail q kind cause s = .next (noRewind s t) := by
  have timeout : cause.toNat = 3 → cause = 3 := fun h => BitVec.eq_of_toNat_eq h
  exact live_unlocked_eq free ((State.ringReported_fails (timely ∘ timeout)).trans e)

/-! ### The re-poll interval ends (R145, R344) -/

theorem State.repollExpires_due {q t0 : Nat} (timer : (s.sq q).repoll = some t0) (on : (s.sq q).en = true)
    (due : nsPassed t0 s.clock (s.repollNs q) = true) : s.repollExpires q = s.setSq q { s.sq q with repoll := none, wake := true } := by
  simp [State.repollExpires, timer, on, due]

/-! ### Completion entries find their place (R150 to R155) -/

theorem State.cqePost_place {q : Nat} {e : Cqe} {r : List Cqe} (due : (s.cq q).due = e :: r) (place : s.cqePlace q = true) :
    s.cqePost q = (s.setCq q { s.cq q with due := r }).postCqe q e := by
  simp [State.cqePost, due, place]

/-- The oldest entry that is held goes where those that were decided before it have gone. -/
theorem State.heldPost_place {q : Nat} {h : Holder} {e : Cqe} {r : List (Holder × Cqe)} (held : (s.cq q).held = (h, e) :: r)
    (gone : (s.cq q).due = []) (place : s.cqePlace q = true) :
    s.heldPost q = ((s.setCq q { s.cq q with held := r }).postCqe q e).holderFreed h := by
  simp [State.heldPost, held, gone, place]

/-- Settles O5: each row is the one case of its effect that its hypotheses leave. -/
theorem queueCommandsComplete : Obligations.QueueCommandsComplete := by
  refine ⟨?sqIndex, ?sqPhase, ?cqIndex, ?cqPhase, ?sqEnable, ?sqDisable, ?cqEnable, ?cqDisable, ?urgent, ?weighted, ?windowAccepted,
    ?windowDropped, ?tailRead, ?headRead, ?windowFails, ?tailFails, ?headFails, ?repoll, ?posts, ?ballast, ?heldPosts⟩
  case sqIndex => exact fun s m q acc free there on index => live_chimeSq free (State.ringSq_index there on index) 0
  case sqPhase => exact fun s m q acc free there on phase => live_chimeSq free (State.ringSq_phase there on phase) 0
  case cqIndex => exact fun s m q acc data free there lo index => live_chimeCq free (State.ringCq_index there lo index)
  case cqPhase => exact fun s m q acc data free there lo phase => live_chimeCq free (State.ringCq_phase there lo phase)
  case sqEnable =>
    intro s m q free there off
    exact live_writeReg free.1 ((State.writeReg_sqCtl free.2 there m.toNat 1).trans (State.enableSq_off there off))
  case sqDisable =>
    intro s m q free there on
    exact live_writeReg free.1 ((State.writeReg_sqCtl free.2 there m.toNat 0).trans (State.disableSq_on there on))
  case cqEnable => exact fun s m q free there => live_writeReg free.1 (State.writeReg_cqCtl free.2 there m.toNat 1)
  case cqDisable => exact fun s m q free there => live_writeReg free.1 (State.writeReg_cqCtl free.2 there m.toNat 0)
  case urgent =>
    intro s l q free accepts room eligible urgent
    exact live_unlocked_eq free (State.fetchGrant_urgent accepts room eligible urgent)
  case weighted =>
    intro s t l q free accepts room eligible nonempty noUrgent round weighted
    exact live_unlocked_eq free (State.fetchGrant_weighted accepts room eligible nonempty noUrgent round weighted)
  case windowAccepted =>
    intro s t q data b w free reads here kept on bytes accepts z hz g
    exact execWindowDataReturn_eq free ((State.windowReturns_accepts reads here bytes kept on accepts).trans hz.symm) g
  case windowDropped =>
    intro s t q data b w free reads here bytes dropped z hz g
    exact execWindowDataReturn_eq free ((State.windowReturns_drops reads here bytes dropped).trans hz.symm) g
  case tailRead =>
    intro s t q word v r l free reads here value z hz g
    exact freeM_eq (f := (·.tailReturns q word)) free ((State.tailReturns_ok here reads value).trans hz.symm) g
  case headRead =>
    intro s t q word v r l free reads here value z hz g
    exact freeM_eq (f := (·.headReturns q word)) free ((State.headReturns_ok here reads value).trans hz.symm) g
  case windowFails => exact fun s q cause free out timely => execRingReadFail_eq free timely (if_pos out)
  case tailFails => exact fun s q cause free out timely => execRingReadFail_eq free timely (if_pos out)
  case headFails => exact fun s q cause free out timely => execRingReadFail_eq free timely (if_pos out)
  case repoll =>
    intro s p q now t0 hp free timer on due
    exact liveAt_unlocked_eq hp free (State.repollExpires_due timer on due)
  case posts =>
    intro s q e r free due place z hz g
    exact freeM_eq (f := (·.cqePost q)) free ((State.cqePost_place due place).trans hz.symm) g
  case ballast => exact fun s q free _ _ _ z hz g => freeM_eq (f := (·.ballastOut q)) free hz.symm g
  case heldPosts =>
    intro s q h e r free held gone place z hz g
    exact freeC_eq (f := (·.heldPost q)) free (State.heldPost_place held gone place) hz g

/-! ### Entries act (R132, R133, R149) -/

/-- Of two changes of one queue the last one counts. -/
@[simp] theorem State.setSq_setSq (q : Nat) (x y : Sq) : (s.setSq q x).setSq q y = s.setSq q y := by
  simp only [State.setSq, tabSet_tabSet]

section

variable {q op : Nat} {h : HeldEntry} {r : List HeldEntry} (acts : (s.sq q).acts = h :: r)
include acts

/-- The entry that acts next leaves the list, where the row is that of its operation. -/
theorem State.takeAct_cons (does : h.sop = op) (taken : t = s.setSq q { s.sq q with acts := r }) : s.takeAct q op = some (h, t) := by
  simp [State.takeAct, acts, does, taken]

theorem State.sqeStart_waits (does : h.sop = 1) :
    s.sqeStart q = s.setSq q { s.sq q with acts := r, starts := (s.sq q).starts ++ [h] } := by
  simp [State.sqeStart, State.takeAct_cons acts does rfl]

theorem State.sqeNop_ends (does : h.sop = 4) (taken : t = s.setSq q { s.sq q with acts := r }) :
    s.sqeNop q = (t.decideEntry q h.num 0 h.cause .engine).2 := by
  simp only [State.sqeNop, State.takeAct_cons acts does taken]

section

variable {c : Nat} (does : h.sop = 2) (taken : t = s.setSq q { s.sq q with acts := r })
include does taken

/-- RESUME restarts the suspended program of its tag. -/
theorem State.sqeResume_restarts (target : t.targetOf q h.tag = some c) (suspended : (t.chan c).phase = .suspended) :
    s.sqeResume q = (t.setChan c { t.chan c with sq := q, cause := max (t.chan c).cause h.cause }).resumeRun c (some h.num) := by
  simp only [State.sqeResume, State.takeAct_cons acts does taken, target, suspended, if_true]

/-- RESUME ends at once where no program of its tag runs, or the one that does is not suspended. -/
theorem State.sqeResume_refused (running : ∀ c, t.targetOf q h.tag = some c → (t.chan c).phase ≠ .suspended) :
    s.sqeResume q = (t.decideEntry q h.num 0x12 h.cause .engine).2 := by
  simp only [State.sqeResume, State.takeAct_cons acts does taken]
  cases target : t.targetOf q h.tag with
  | none => rfl
  | some c => exact if_neg (running c target)

end

section

variable {c : Nat} (does : h.sop = 3) (taken : t = s.setSq q { s.sq q with acts := r })
include does taken

/-- STOP succeeds and asks the program of its tag to stop. -/
theorem State.sqeStop_asks (target : t.targetOf q h.tag = some c) :
    s.sqeStop q = (t.decideEntry q h.num 0 h.cause .engine).2.chanStop c := by
  simp only [State.sqeStop, State.takeAct_cons acts does taken, target]

/-- STOP ends at once where no program of its tag runs. -/
theorem State.sqeStop_refused (target : t.targetOf q h.tag = none) :
    s.sqeStop q = (t.decideEntry q h.num 0x12 h.cause .engine).2 := by
  simp only [State.sqeStop, State.takeAct_cons acts does taken, target]

end

end

/-- The oldest START goes to the lowest idle channel of the set. -/
theorem State.dispatchSq_idle {q c : Nat} {h : HeldEntry} {r : List HeldEntry} (waits : (s.sq q).starts = h :: r)
    (idle : (s.setOf q).find? s.chanIdle = some c) :
    s.dispatchSq q = (s.setSq q { s.sq q with starts := r }).dispatchTo q c h := by
  simp only [State.dispatchSq, waits, idle]

/-- Settles O6: each row is the one case of its effect that its hypotheses leave. -/
theorem queueEntryCommandsComplete : Obligations.QueueEntryCommandsComplete := by
  refine ⟨?start, ?resume, ?resumeRefused, ?stop, ?stopRefused, ?nop, ?dispatch, ?notBefore⟩
  case start => exact fun s q h r free acts does => live_unlocked_eq free (State.sqeStart_waits acts does)
  case resume =>
    intro s t q h r c free acts does taken target suspended z hz g
    exact freeC_eq (f := (·.sqeResume q)) free (State.sqeResume_restarts acts does taken target suspended) hz g
  case resumeRefused =>
    intro s t q h r free acts does taken running z hz g
    exact freeC_eq (f := (·.sqeResume q)) free (State.sqeResume_refused acts does taken running) hz g
  case stop =>
    intro s t q h r c free acts does taken target z hz g
    exact freeC_eq (f := (·.sqeStop q)) free (State.sqeStop_asks acts does taken target) hz g
  case stopRefused =>
    intro s t q h r free acts does taken target z hz g
    exact freeC_eq (f := (·.sqeStop q)) free (State.sqeStop_refused acts does taken target) hz g
  case nop => exact fun s t q h r free acts does taken => live_unlocked_eq free (State.sqeNop_ends acts does taken)
  case dispatch =>
    intro s q h r c free waits idle z hz g
    exact freeC_eq (f := (·.dispatchSq q)) free (State.dispatchSq_idle waits idle) hz g
  case notBefore =>
    intro s p ch now hp free phase reached z hz g
    exact freeCAt_eq (f := (·.startReached ch)) hp free (if_pos ⟨phase, reached⟩) hz g

end Sys2Proof.Machine
end

section
/-! PROOFS. The obligations of channel programs (08_channel_programs.md): the layout of a channel command, and the commands that control
a channel. -/

namespace Sys2Proof.Machine

variable {s t : State}

/-! ### A channel command's 64 bytes (R160) -/

/-- Two numbers' bytes behind each other are those of one number, the second above the first. -/
theorem natLe_append {m : Nat} (n : Nat) {a : Nat} (b : Nat) (fits : a < 2 ^ (8 * m)) :
    natLe m a ++ natLe n b = natLe (m + n) (a + 2 ^ (8 * m) * b) := by
  induction m generalizing a with
  | zero =>
    have zero : a = 0 := by omega
    simp [natLe, zero]
  | succ m ih =>
    have power : 2 ^ (8 * (m + 1)) = 256 * 2 ^ (8 * m) := by rw [Nat.mul_succ, Nat.pow_add, Nat.mul_comm]
    have low : BitVec.ofNat 8 (a + 2 ^ (8 * (m + 1)) * b) = BitVec.ofNat 8 a :=
      BitVec.eq_of_toNat_eq (by simp [power, Nat.mul_assoc])
    have high : (a + 2 ^ (8 * (m + 1)) * b) / 256 = a / 256 + 2 ^ (8 * m) * b := by
      rw [power, Nat.mul_assoc, Nat.add_mul_div_left _ _ (by decide)]
    rw [Nat.add_right_comm, natLe, natLe, List.cons_append, ih (by omega), low, high]

/-- The eight bytes that stand `i` words into a row of words are those of its word `i`. -/
theorem bytesAt_words {l : List Nat} {i w : Nat} (there : l[i]? = some w) :
    bytesAt (l.flatMap (natLe 8)) (8 * i) 8 = w % 2 ^ 64 := by
  induction l generalizing i with
  | nil => simp at there
  | cons v l ih =>
    cases i with
    | zero =>
      obtain rfl : v = w := by simpa using there
      simp [bytesAt, leNat_natLe]
    | succ i =>
      have rest : (natLe 8 v ++ l.flatMap (natLe 8)).drop (8 * (i + 1)) = (l.flatMap (natLe 8)).drop (8 * i) := by
        rw [Nat.mul_succ, Nat.add_comm, ← List.drop_drop, List.drop_left' (length_natLe 8 v)]
      rw [List.flatMap_cons, bytesAt, rest]
      exact ih (by simpa using there)

/-- What the model reads from the eight words of a command. -/
theorem parseCmd_words (w0 w1 w2 w3 w4 w5 w6 w7 : Nat) : parseCmd ([w0, w1, w2, w3, w4, w5, w6, w7].flatMap (natLe 8)) =
    { opc := fieldOf 7 0 (w0 % 2 ^ 64), flg := fieldOf 15 8 (w0 % 2 ^ 64), mod := fieldOf 23 16 (w0 % 2 ^ 64)
      zs := fieldOf 27 24 (w0 % 2 ^ 64), zd := fieldOf 31 28 (w0 % 2 ^ 64), count := fieldOf 63 32 (w0 % 2 ^ 64)
      src := w1 % 2 ^ 64, dst := w2 % 2 ^ 64, sess := fieldOf 19 0 (w3 % 2 ^ 64), sessRsv := fieldOf 31 20 (w3 % 2 ^ 64)
      aux := fieldOf 63 32 (w3 % 2 ^ 64), param := w4 % 2 ^ 64, param2 := w5 % 2 ^ 64, own := (w7 % 2 ^ 64).testBit 0 } := by
  have word {i w : Nat} (there : [w0, w1, w2, w3, w4, w5, w6, w7][i]? = some w) := bytesAt_words there
  rw [parseCmd, word (i := 0) rfl, word (i := 1) rfl, word (i := 2) rfl, word (i := 3) rfl, word (i := 4) rfl, word (i := 5) rfl,
    word (i := 7) rfl]

/-- The lowest bit of a word is the truth value that it was built from. -/
theorem testBit_b2n_add (b : Bool) (v : Nat) : ((b2n b + 2 * v) % 2 ^ 64).testBit 0 = b := by
  have lowest : (b2n b + 2 * v) % 2 ^ 64 % 2 = b2n b := by cases b <;> simp [b2n]
  rw [Nat.testBit_zero, lowest]
  cases b <;> rfl

/-- Settles O59: the bytes are eight words, and each field is what stands between its bits of its word. -/
theorem commandWordsKeepTheirFields : Obligations.CommandWordsKeepTheirFields := by
  rintro ⟨opc, flg, mod, zs, zd, count, src, dst, sess, sessRsv, aux, param, param2, own⟩ wbTime end_
  dsimp only
  intro hopc hflg hmod hzs hzd hcount hsrc hdst hsess hrsv haux hparam hparam2
  have first : opc + flg * 2 ^ 8 + mod * 2 ^ 16 + zs * 2 ^ 24 + zd * 2 ^ 28 < 2 ^ (8 * 4) := by omega
  have fourth : sess + sessRsv * 2 ^ 20 < 2 ^ (8 * 4) := by omega
  have words := parseCmd_words (opc + flg * 2 ^ 8 + mod * 2 ^ 16 + zs * 2 ^ 24 + zd * 2 ^ 28 + 2 ^ (8 * 4) * count)
    src dst (sess + sessRsv * 2 ^ 20 + 2 ^ (8 * 4) * aux) param param2 wbTime (b2n own + 2 * end_)
  simp only [List.flatMap_cons, List.flatMap_nil, List.append_nil, ← natLe_append 4 _ first, ← natLe_append 4 _ fourth,
    List.append_assoc] at words
  simp only [List.append_assoc]
  rw [words]
  simp only [fieldOf, Cmd.mk.injEq, testBit_b2n_add, and_true]
  omega

/-! ### Writes of CHN_CTL (R183, R184, R187) -/

/-- Outside Lockdown a write of CHN_CTL stops, resumes and releases as its bits say. -/
theorem State.writeReg_chnCtl (free : s.locked = false) (m c : Nat) {d : Nat} (fits : d < 2 ^ 32) : s.writeReg m ⟨.chnCtl, c, 0⟩ .lo d =
    (if d.testBit 1 then (if d.testBit 0 then s.chanStop c else s).chanResume c 0
      else if d.testBit 0 then s.chanStop c else s).chanRelease c (fieldOf 5 4 d) := by
  have covered : d &&& accMask .lo = d := by
    rw [accMask]
    exact Nat.and_two_pow_sub_one_of_lt_two_pow fits
  rw [State.writeReg_wo rfl (by simp [Reg.rwMask, RegKind.info]) (by simp [RegKind.info]), covered, free]
  simp only [State.woActs, Bool.false_eq_true, if_false]

section

variable (free : s.locked = false) (m c : Nat)
include free

theorem State.writeReg_chnStop : s.writeReg m ⟨.chnCtl, c, 0⟩ .lo 1 = s.chanStop c := by
  simp [State.writeReg_chnCtl free, State.chanRelease, fieldOf, Nat.testBit]

theorem State.writeReg_chnResume : s.writeReg m ⟨.chnCtl, c, 0⟩ .lo 2 = s.chanResume c 0 := by
  simp [State.writeReg_chnCtl free, State.chanRelease, fieldOf, Nat.testBit]

theorem State.writeReg_relRetry : s.writeReg m ⟨.chnCtl, c, 0⟩ .lo 0x10 = s.relRetry c := by
  simp [State.writeReg_chnCtl free, State.chanRelease, fieldOf, Nat.testBit]

theorem State.writeReg_relAbort : s.writeReg m ⟨.chnCtl, c, 0⟩ .lo 0x30 = s.relAbort c := by
  simp [State.writeReg_chnCtl free, State.chanRelease, fieldOf, Nat.testBit]

end

section

variable {u z : State} {m : BitVec 8} {ch : Fin 4096} (free : Free s) (hz : z = u.follows) (g : s.granted z = true)
include free hz g

theorem execChnStop_eq (e : s.chanStop ch = u) : execChnStop m ch s = .next (noRewind s z) :=
  liveC_eq free.1 ((State.writeReg_chnStop free.2 m.toNat ch).trans e) hz g

theorem execChnResume_eq (e : s.chanResume ch 0 = u) : execChnResume m ch s = .next (noRewind s z) :=
  liveC_eq free.1 ((State.writeReg_chnResume free.2 m.toNat ch).trans e) hz g

theorem execRelRetry_eq (e : s.relRetry ch = u) : execRelRetry m ch s = .next (noRewind s z) :=
  liveC_eq free.1 ((State.writeReg_relRetry free.2 m.toNat ch).trans e) hz g

theorem execRelAbort_eq (e : s.relAbort ch = u) : execRelAbort m ch s = .next (noRewind s z) :=
  liveC_eq free.1 ((State.writeReg_relAbort free.2 m.toNat ch).trans e) hz g

end

section

variable {c : Nat}

/-! ### Stop and resume (R183 to R185, R220) -/

/-- Where a command runs or is read, where the channel is halted, and where it drains with its program SUSPENDED, a stop stays
pending. -/
theorem State.chanStop_pends (runs : ((s.chan c).phase = .fetch ∧ (s.chan c).waited = none) ∨ (s.chan c).phase = .halted ∨
    ((s.chan c).phase = .active ∧ (s.chan c).stage ≠ .loopGuard) ∨ ((s.chan c).phase = .draining ∧ (s.chan c).outcome = some 3)) :
    s.chanStop c = s.setChan c { s.chan c with stop := true } := by
  rcases runs with ⟨fetch, direct⟩ | halted | ⟨active, other⟩ | ⟨draining, suspended⟩
  · simp only [State.chanStop, fetch, direct]
  · simp only [State.chanStop, halted]
  · simp only [State.chanStop, active, other, if_false]
  · simp only [State.chanStop, draining, suspended, if_true]

/-- A program that waits for its start or is SUSPENDED ends at once. -/
theorem State.chanStop_endsProgram (rests : (s.chan c).phase = .waitStart ∨ (s.chan c).phase = .suspended) :
    s.chanStop c = s.endProgram c 0x04 := by
  rcases rests with phase | phase <;> simp only [State.chanStop, phase]

/-- A WAIT or HOLD ends at once. -/
theorem State.chanStop_endsWait (waits : (s.chan c).phase = .waitEvent ∨ (s.chan c).phase = .waitHold) :
    s.chanStop c = s.endCmd c 0x04 0 0 := by
  rcases waits with phase | phase <;> simp only [State.chanStop, phase]

/-- A stop in the instant in which a WAIT has ended takes effect at the WAIT's own boundary. -/
theorem State.chanStop_atWait {w : Member} {r : Option LogRecord} (fetch : (s.chan c).phase = .fetch)
    (waited : (s.chan c).waited = some (w, s.clock, r)) (alone : (s.chan c).chain = []) : s.chanStop c = s.stopAtWait c w r := by
  simp only [State.chanStop, fetch, waited, alone, and_self, if_true]

/-- At the boundary where the loop guard has run out a stop acts at once. -/
theorem State.chanStop_atGuard (active : (s.chan c).phase = .active) (guard : (s.chan c).stage = .loopGuard) :
    s.chanStop c = (s.setChan c { s.chan c with stop := true }).boundary c := by
  simp only [State.chanStop, active, guard, if_true]

theorem State.chanResume_suspended (cause : Nat) (suspended : (s.chan c).phase = .suspended) :
    s.chanResume c cause = (s.setChan c { s.chan c with cause := max (s.chan c).cause cause }).resumeRun c none := by
  simp only [State.chanResume, suspended]

/-- Where a program runs, a resume is latched. -/
theorem State.chanResume_latches (cause : Nat) (runs : (s.chan c).phase ∉ [.idle, .checked, .suspended, .draining]) :
    s.chanResume c cause = s.setChan c { s.chan c with resPend := true, resCause := max (s.chan c).resCause cause } := by
  cases phase : (s.chan c).phase with
  | idle | checked | suspended | draining => simp [phase] at runs
  | waitStart | fetch | active | waitEvent | waitHold | halted => simp only [State.chanResume, phase]

/-! ### REL ABORT (R187) -/

section

variable {p : State} (halted : (s.chan c).releasable = true) (hp : p = s.progressed c)
include halted hp

/-- After a failed read at a command's start nothing is written back. -/
theorem State.relAbort_atFetch (fetch : (p.chan c).fetchHalt = true) : s.relAbort c =
    ((p.releaseUnits c).setChan c { p.chan c with phase := .active, endRec := none }).dispose c false
      (some (p.fld .chnErr 31 24 c)) 0 none := by
  subst hp
  simp only [State.relAbort, halted, fetch, Bool.not_true, Bool.false_eq_true, if_false, if_true]

/-- A command that failed in its run is written back with ACODE. -/
theorem State.relAbort_inRun (runs : (p.chan c).fetchHalt = false) :
    s.relAbort c = (p.failedEnd c).dispose c true (some (p.fld .chnErr 31 24 c)) 0 none := by
  subst hp
  simp only [State.relAbort, halted, runs, Bool.not_true, Bool.false_eq_true, if_false]

end

/-! ### Reads and writes of the channel processor return (R163, R167, R179, R186, R225) -/

section

variable {rd : ReadResult} (fetch : (s.chan c).phase = .fetch) (ended : s.readWaits c rd = false)
include fetch ended

/-- The bytes of a command that no condition code awaits are the next command. -/
theorem State.fetched_command {b : List Byte} (bytes : s.rereadCmd c (s.rg .chnCur c) rd = (.ok b, t))
    (plain : (s.chan c).condNext = false) : s.fetched c rd = (t.progressed c).commandRead c b := by
  simp only [State.fetched, fetch, ended, bytes, plain, ne_eq, not_true, decide_false, Bool.or_self, Bool.false_eq_true, if_false]

theorem State.fetched_fails {f : Failure} (fails : s.rereadCmd c (s.rg .chnCur c) rd = (.error f, t)) :
    s.fetched c rd = t.fetchFails c f := by
  simp only [State.fetched, fetch, ended, fails, ne_eq, not_true, decide_false, Bool.or_self, Bool.false_eq_true, if_false]

end

theorem State.zeroRead_tagged {zone k : Nat} (waits : (s.chan c).syncs.find? (fun j => linkZone j = zone) = some k)
    (out : s.tagged c k = true) : s.zeroRead c zone = (s.linkAnswers (some k)).syncDone c k := by
  simp only [State.zeroRead, waits, out, if_true]

/-- A write that a link has accepted is in the memory of its zone, and makes the link dirty. -/
theorem State.cpWritten_link {h : Cmd} {k : Nat} (writes : (s.chan c).cpWrites = true) (head : h = (s.chan c).head.cmd)
    (beyond : h.zd ≠ 0) (link : s.writeLink c = some k) (up : s.linkUp k = true) : s.cpWritten c .ok =
    (((s.linkAnswers (some k)).extWrite h.zd (s.cpBytes c)).setChan c
      { s.chan c with dirty := ((s.chan c).dirty ++ [k]).eraseDups }).cpNext c := by
  subst head
  simp only [State.cpWritten, writes, beyond, link, up, Bool.not_true, Bool.false_eq_true, if_false, if_true]

/-- A write in zone 0 that meets no error goes on. -/
theorem State.cpWritten_store (res : WriteResult) (writes : (s.chan c).cpWrites = true) (inside : (s.chan c).head.cmd.zd = 0)
    (stored : s.cpStore c = (none, t)) (goesOn : (t.chan c).cpWrites = true) : s.cpWritten c res = t.cpNext c := by
  simp only [State.cpWritten, writes, inside, stored, goesOn, Bool.not_true, Bool.false_eq_true, if_false, if_true]

/-! ### Timers (R333 to R335) -/

theorem State.commandTimeout_due (due : s.tmoDue c = true) (timed : ((s.settle c).chan c).timed = true) :
    s.commandTimeout c = (s.settle c).timeoutEnd c := by
  simp only [State.commandTimeout, due, timed, if_true]

theorem State.graceEnds_spent {since : Nat} (retries : (s.chan c).retrySince = some since)
    (spent : s.grace ≤ (s.chan c).graceUsed + (s.clock - since)) : s.graceEnds c = s.setChan c { s.chan c with
      retrySince := some s.clock, heldRun := (s.chan c).heldRun + (s.chan c).heldNow s.grace s.clock, graceUsed := s.grace } := by
  simp only [State.graceEnds, retries, spent, if_true]

end

/-- Settles O7: each row is the one case of its effect that its hypotheses leave. -/
theorem channelControlCommandsComplete : Obligations.ChannelControlCommandsComplete := by
  refine ⟨?stopPends, ?stopProgram, ?stopWait, ?stopAtWait, ?stopAtGuard, ?resume, ?resumeLatched, ?retry, ?skipOn, ?abortAtFetch,
    ?abortInRun, ?command, ?fetchFails, ?zeroRead, ?linkWrite, ?storeWrite, ?loopGuard, ?timeout, ?grace⟩
  case stopPends => exact fun s m ch free runs z hz g => execChnStop_eq free hz g (State.chanStop_pends runs)
  case stopProgram => exact fun s m ch free rests z hz g => execChnStop_eq free hz g (State.chanStop_endsProgram rests)
  case stopWait => exact fun s m ch free waits z hz g => execChnStop_eq free hz g (State.chanStop_endsWait waits)
  case stopAtWait =>
    exact fun s m ch w r free fetch waited alone z hz g => execChnStop_eq free hz g (State.chanStop_atWait fetch waited alone)
  case stopAtGuard =>
    exact fun s m ch free active guard z hz g => execChnStop_eq free hz g (State.chanStop_atGuard active guard)
  case resume => exact fun s m ch free suspended z hz g => execChnResume_eq free hz g (State.chanResume_suspended 0 suspended)
  case resumeLatched => exact fun s m ch free runs z hz g => execChnResume_eq free hz g (State.chanResume_latches 0 runs)
  case retry => exact fun s m ch free _ z hz g => execRelRetry_eq free hz g rfl
  case skipOn => exact fun s m ch rd free _ _ z hz g => freeC_eq (f := (·.relSkip ch rd)) free rfl hz g
  case abortAtFetch =>
    exact fun s p m ch free halted hp fetch z hz g => execRelAbort_eq free hz g (State.relAbort_atFetch halted hp fetch)
  case abortInRun =>
    exact fun s p m ch free halted hp runs z hz g => execRelAbort_eq free hz g (State.relAbort_inRun halted hp runs)
  case command =>
    intro s t ch rd b free fetch ended bytes plain z hz g
    exact freeC_eq (f := (·.fetched ch rd)) free (State.fetched_command fetch ended bytes plain) hz g
  case fetchFails =>
    intro s t ch rd f free fetch ended fails z hz g
    exact freeC_eq (f := (·.fetched ch rd)) free (State.fetched_fails fetch ended fails) hz g
  case zeroRead =>
    intro s ch zone ok k free waits out z hz g
    exact freeC_eq (f := (·.zeroRead ch zone.toNat)) free (State.zeroRead_tagged waits out) hz g
  case linkWrite =>
    intro s ch h k free writes head beyond link up z hz g
    exact freeC_eq (f := (·.cpWritten ch .ok)) free (State.cpWritten_link writes head beyond link up) hz g
  case storeWrite =>
    intro s t ch res free writes inside stored goesOn z hz g
    exact freeC_eq (f := (·.cpWritten ch res)) free (State.cpWritten_store res writes inside stored goesOn) hz g
  case loopGuard =>
    exact fun s ch free active guard z hz g => freeC_eq (f := (·.loopEnd ch)) free (if_pos ⟨active, guard⟩) hz g
  case timeout =>
    intro s p ch now hp free due timed z hz g
    exact freeCAt_eq (f := (·.commandTimeout ch)) hp free (State.commandTimeout_due due timed) hz g
  case grace =>
    intro s p ch now since hp free retries spent z hz g
    exact freeCAt_eq (f := (·.graceEnds ch)) hp free (State.graceEnds_spent retries spent) hz g

end Sys2Proof.Machine
end

section
/-! PROOFS. The obligations of the channel command reference (09_channel_command_reference.md): control commands, data commands and
NVME, and the commands of the links and drives that NVME reaches. -/

namespace Sys2Proof.Machine

variable {s t : State}

/-! ### BRANCH's decision (R218) -/

/-- The fields of a BRANCH's first parameter are read where they were put, and SENSE turns the comparison round. -/
theorem branchTaken_fields {mask value : Nat} (code : Nat) (hm : mask < 2 ^ 8) (hv : value < 2 ^ 8) (sense : Bool) :
    branchTaken (mask + value * 2 ^ 8 + b2n sense * 2 ^ 16) code = (decide (code &&& mask = value) != sense) := by
  have low : fieldOf 7 0 (mask + value * 2 ^ 8 + b2n sense * 2 ^ 16) = mask := by simp only [fieldOf]; omega
  have next : fieldOf 15 8 (mask + value * 2 ^ 8 + b2n sense * 2 ^ 16) = value := by simp only [fieldOf]; omega
  have bit : (mask + value * 2 ^ 8 + b2n sense * 2 ^ 16).testBit 16 = sense := by
    have above : (mask + value * 2 ^ 8 + b2n sense * 2 ^ 16) / 2 ^ 16 = b2n sense := by omega
    rw [Nat.testBit_eq_decide_div_mod_eq, above]
    cases sense <;> rfl
  rw [branchTaken, low, next, bit]

theorem branchTaken_iff {mask value : Nat} (code : Nat) (hm : mask < 2 ^ 8) (hv : value < 2 ^ 8) :
    branchTaken (mask + value * 2 ^ 8) code = true ↔ code &&& mask = value := by
  simpa [b2n] using congrArg (· = true) (branchTaken_fields code hm hv false)

theorem branchTaken_sense_iff {mask value : Nat} (code : Nat) (hm : mask < 2 ^ 8) (hv : value < 2 ^ 8) :
    branchTaken (mask + value * 2 ^ 8 + 2 ^ 16) code = true ↔ code &&& mask ≠ value := by
  simpa [b2n] using congrArg (· = true) (branchTaken_fields code hm hv true)

/-- Under the mask of a byte's high half, what remains is that half. -/
theorem byte_and_highHalf {code : Nat} (h : code < 2 ^ 8) : code &&& 0xF0 = code / 16 * 16 := by
  have low : (code &&& 0xF0) % 2 ^ 4 = 0 := by rw [Nat.and_mod_two_pow]; exact Nat.and_zero _
  have high : (code &&& 0xF0) / 2 ^ 4 = code / 16 := by
    rw [Nat.and_div_two_pow]
    exact Nat.and_two_pow_sub_one_of_lt_two_pow (n := 4) (by omega)
  omega

/-- A channel processor that is about to execute a BRANCH chooses the next command by its decision. -/
theorem State.doBranch_ready {c : Nat} (ready : s.ready c 0x21 = true) : s.doBranch c = s.endCmd c 0 0 0
    (if branchTaken (s.chan c).head.cmd.param (s.chan c).prevCode then some (s.chan c).head.cmd.param2 else none) :=
  if_pos ready

theorem State.doBranch_taken {c : Nat} (ready : s.ready c 0x21 = true)
    (taken : branchTaken (s.chan c).head.cmd.param (s.chan c).prevCode = true) :
    s.doBranch c = s.endCmd c 0 0 0 (some (s.chan c).head.cmd.param2) := by
  rw [State.doBranch_ready ready, if_pos taken]

theorem State.doBranch_passed {c : Nat} (ready : s.ready c 0x21 = true)
    (passed : branchTaken (s.chan c).head.cmd.param (s.chan c).prevCode = false) : s.doBranch c = s.endCmd c 0 0 0 none := by
  rw [State.doBranch_ready ready, if_neg (Bool.eq_false_iff.1 passed)]

/-- Settles O51: MASK, VALUE and SENSE are read where they stand, and the examples of R218 are two values of them. -/
theorem branchDecision : Obligations.BranchDecision := by
  refine ⟨?fields, ?notOk, ?class3, ?branch⟩
  case fields => exact fun mask value code hm hv => ⟨branchTaken_iff code hm hv, branchTaken_sense_iff code hm hv⟩
  case notOk =>
    intro code hc
    have differs : branchTaken 0x100FF code = true ↔ code &&& 0xFF ≠ 0 :=
      branchTaken_sense_iff (mask := 0xFF) (value := 0) code (by decide) (by decide)
    rwa [Nat.and_two_pow_sub_one_of_lt_two_pow (n := 8) hc] at differs
  case class3 =>
    intro code hc
    have equal : branchTaken 0x30F0 code = true ↔ code &&& 0xF0 = 0x30 :=
      branchTaken_iff (mask := 0xF0) (value := 0x30) code (by decide) (by decide)
    rw [equal, byte_and_highHalf hc]
    omega
  case branch => exact fun s ch free ready z hz g => freeC_eq (f := (·.doBranch ch)) free (State.doBranch_ready ready) hz g

/-! ### Control commands (R215, R217 to R225) -/

section

variable {c : Nat}

theorem State.doStamp_ready {x : Stamp} (ready : s.ready c 0x0B = true)
    (stamped : s.stamp (cpDomain c) ((s.chan c).cause + 1) = (x, t)) : s.doStamp c = t.setChan c { s.chan c with
      stage := .cpWrite, cpStep := 0, cause := x.time, pin := some (t.linkOf (s.chan c).head.cmd.zd (s.chan c).head.cmd.dst)
      stream := { (s.chan c).stream with result := x.bytes } } := by
  simp only [State.doStamp, ready, stamped, if_true]

section

variable (ready : s.ready c 0x22 = true)
include ready

/-- A WAIT with a TIMEOUT of 0 fails its check. -/
theorem State.doWait_fails (zero : fieldOf 31 0 (s.chan c).head.cmd.param2 = 0) :
    s.doWait c = s.checkFail c 0x12 0x28 0 (s.chan c).pos := by
  simp only [State.doWait, ready, zero, if_true]

variable (timed : fieldOf 31 0 (s.chan c).head.cmd.param2 ≠ 0)
include timed

/-- A WAIT whose flag is set ends at once, and clears it where it is told to. -/
theorem State.doWait_flagged {k : Nat} (hk : k = (s.chan c).head.cmd.param % 256) (flag : s.carFlag k = true) :
    s.doWait c = (if (s.chan c).head.cmd.param.testBit 8 then s.setCarFlag k false else s).endCmd c 0 0 0 := by
  subst hk
  simp only [State.doWait, ready, timed, flag, if_true, if_false]

theorem State.doWait_waits (flag : s.carFlag ((s.chan c).head.cmd.param % 256) = false) (goesOn : (s.chan c).stop = false) :
    s.doWait c = s.setChan c { s.chan c with phase := .waitEvent, waitSince := s.clock } := by
  simp only [State.doWait, ready, timed, flag, goesOn, Bool.false_eq_true, if_true, if_false]

end

section

variable (ready : s.ready c 0x24 = true)
include ready

theorem State.doHold_waits (early : s.time.now < holdTarget (s.chan c).head.cmd) (goesOn : (s.chan c).stop = false) :
    s.doHold c = s.setChan c { s.chan c with phase := .waitHold } := by
  simp only [State.doHold, ready, early, goesOn, Bool.false_eq_true, if_true, if_false]

/-- A HOLD whose target has passed ends at once, late where it is told to say so. -/
theorem State.doHold_late (late : holdTarget (s.chan c).head.cmd ≤ s.time.now) :
    s.doHold c = s.endCmd c (if (s.chan c).head.cmd.param2.testBit 32 then 0x42 else 0) 0 0 := by
  simp only [State.doHold, ready, Nat.not_lt.2 late, if_true, if_false]

end

theorem State.doPost_ready {h : Cmd} (ready : s.ready c 0x26 = true) (head : h = (s.chan c).head.cmd) :
    s.doPost c = s.syncFirst c (if h.zd = 0 then none else s.linkOf h.zd h.dst) .post := by
  subst head
  exact if_pos ready

end

/-- Settles O8: each row is the one case of its effect that its hypotheses leave. -/
theorem controlCommandsComplete : Obligations.ControlCommandsComplete := by
  refine ⟨?stamp, ?tic, ?taken, ?notTaken, ?waitFails, ?waitFlagged, ?waitWaits, ?waitTimeout, ?signal, ?holdWaits, ?holdLate,
    ?holdReached, ?nop, ?post⟩
  case stamp =>
    exact fun s t ch x free ready stamped z hz g => freeC_eq (f := (·.doStamp ch)) free (State.doStamp_ready ready stamped) hz g
  case tic => exact fun s ch free ready z hz g => freeC_eq (f := (·.doTic ch)) free (if_pos ready) hz g
  case taken =>
    exact fun s ch free ready taken z hz g => freeC_eq (f := (·.doBranch ch)) free (State.doBranch_taken ready taken) hz g
  case notTaken =>
    exact fun s ch free ready passed z hz g => freeC_eq (f := (·.doBranch ch)) free (State.doBranch_passed ready passed) hz g
  case waitFails =>
    exact fun s ch free ready zero z hz g => freeC_eq (f := (·.doWait ch)) free (State.doWait_fails ready zero) hz g
  case waitFlagged =>
    intro s ch k free ready timed hk flag z hz g
    exact freeC_eq (f := (·.doWait ch)) free (State.doWait_flagged ready timed hk flag) hz g
  case waitWaits =>
    intro s ch free ready timed flag goesOn z hz g
    exact freeC_eq (f := (·.doWait ch)) free (State.doWait_waits ready timed flag goesOn) hz g
  case waitTimeout =>
    exact fun s p ch now hp free waits passed z hz g => freeCAt_eq (f := (·.waitExpires ch)) hp free (if_pos ⟨waits, passed⟩) hz g
  case signal => exact fun s ch free ready z hz g => freeC_eq (f := (·.doSignal ch)) free (if_pos ready) hz g
  case holdWaits =>
    exact fun s ch free ready early goesOn z hz g => freeC_eq (f := (·.doHold ch)) free (State.doHold_waits ready early goesOn) hz g
  case holdLate =>
    exact fun s ch free ready late z hz g => freeC_eq (f := (·.doHold ch)) free (State.doHold_late ready late) hz g
  case holdReached =>
    exact fun s p ch now hp free waits reached z hz g => freeCAt_eq (f := (·.holdReached ch)) hp free (if_pos ⟨waits, reached⟩) hz g
  case nop => exact fun s ch free ready z hz g => freeC_eq (f := (·.doNop ch)) free (if_pos ready) hz g
  case post =>
    exact fun s ch h free ready head z hz g => freeC_eq (f := (·.doPost ch)) free (State.doPost_ready ready head) hz g

/-! ### Data commands (R191, R193, R198 to R210, R231) -/

/-- A data command that moves nothing ends at once; any other waits for a mover. -/
theorem State.dataStart_ready {c opc : Nat} (ready : s.ready c opc = true) :
    s.dataStart c opc = if (s.chan c).total = 0 then s.movesNothing c else s.waitsForMover c :=
  if_pos ready

/-- The rows of the data commands differ in the opcode alone. -/
theorem freeC_dataStart {z : State} {c opc : Nat} (free : Free s) (ready : s.ready c opc = true)
    (hz : z = (if (s.chan c).total = 0 then s.movesNothing c else s.waitsForMover c).follows) (g : s.granted z = true) :
    freeC s (·.dataStart c opc) = .next (noRewind s z) :=
  freeC_eq free (State.dataStart_ready ready) hz g

section

variable {c m : Nat} {rd : ReadResult} {mb : Member} (due : s.memberDue c = true)
  (there : (s.chan c).chain[(s.chan c).pos + 1]? = some mb) (mover : s.moverOf c = some m) (ended : s.readWaits c rd = false)
include due there mover ended

/-- The second read of a chain's next member has failed. -/
theorem State.memberReached_fails {f : Failure} (fails : s.rereadCmd c mb.addr rd = (.error f, t)) :
    s.memberReached c rd = t.memberFails c mb.addr f := by
  simp only [State.memberReached, due, ended, there, mover, fails, Bool.not_false, Bool.and_self, if_true]

/-- The next member starts with what its second read brought, and is loaded behind the member that runs. -/
theorem State.memberReached_starts {u v : State} {b : List Byte} {x : Cmd} (bytes : s.rereadCmd c mb.addr rd = (.ok b, t))
    (hx : x = parseCmd b) (hu : u = ((t.setRg .chnCur mb.addr c).progressed c).cmdStart c x mb.addr)
    (hv : v = u.setChan c { u.chan c with chain := (u.chan c).chain.set ((s.chan c).pos + 1) { mb with
      cmd := { mb.cmd with count := x.count, src := x.src, dst := x.dst, own := x.own } } }) :
    s.memberReached c rd = (v.loadMember m c ((s.chan c).pos + 1)).run m := by
  subst hx hu hv
  simp only [State.memberReached, due, ended, there, mover, bytes, Bool.not_false, Bool.and_self, if_true]

end

/-- Settles O9: the nine rows that move data start alike; CONT has the two results of its second read. -/
theorem dataCommandsComplete : Obligations.DataCommandsComplete := by
  refine ⟨?move, ?xform, ?sealing, ?unsealing, ?digest, ?sign, ?verify, ?fill, ?compare, ?contFails, ?contStarts⟩
  case move | xform | sealing | unsealing | digest | sign | verify | fill | compare =>
    exact fun s ch free ready z hz g => freeC_dataStart free ready hz g
  case contFails =>
    intro s t ch rd mb m f free due there mover ended fails z hz g
    exact freeC_eq (f := (·.memberReached ch rd)) free (State.memberReached_fails due there mover ended fails) hz g
  case contStarts =>
    intro s t u v ch rd mb m b x free due there mover ended bytes hx hu hv z hz g
    exact freeC_eq (f := (·.memberReached ch rd)) free (State.memberReached_starts due there mover ended bytes hx hu hv) hz g

/-! ### Commands of a part that runs -/

theorem live_eq {f : State → State} (run : Running s) (e : f s = t) : live s f = .next (noRewind s t) := by
  rw [live_running run, e]

theorem liveAt_eq {p : State} {now : Nat} {f : State → State} (hp : p = s.pass now) (run : Running s) (e : f p = t) :
    liveAt s now f = .next (noRewind s t) := by
  rw [liveAt_running run, ← hp, e]

/-! ### Links come up and change (R364, R373) -/

section

variable {k : Nat}

section

variable {speed : Nat} (width : Nat) (flit : Bool) (mayTrain : s.mayTrain k = true)
include mayTrain

theorem State.linkComesUp_pcie (pcie : k < 10) (down : s.linkUp k = false) (speeds : speed ≠ 0) :
    s.linkComesUp k speed width flit = (s.setRg .lnkStat (1 + s.rg .lnkStat k % 4 / 2 * 2
      + b2n (flit || min speed (s.maxSpeed k) = 6) * 4 + min speed (s.maxSpeed k) * 2 ^ 4
      + min width (s.maxWidth k) * 2 ^ 8 + 3 * 2 ^ 16) k).linkEvent k 0 := by
  simp only [State.linkComesUp, mayTrain, Nat.not_le.2 pcie, down, speeds, Bool.not_true, decide_false, Bool.or_self,
    Bool.false_eq_true, if_false]

/-- A Fenuz port that comes up is due a loopback calibration. -/
theorem State.linkComesUp_fenuz (fenuz : 10 ≤ k) (down : s.bit .fnzPort 0 (k - 10) = false) :
    s.linkComesUp k speed width flit = (({ s with fenuz := { s.fenuz with
      calDue := s.fenuz.calDue.filter (fun p => p ≠ k - 10) ++ [k - 10] } }).setBit .fnzPort 0 true (k - 10)).linkEvent k 0 := by
  simp only [State.linkComesUp, mayTrain, fenuz, down, Bool.not_true, Bool.false_eq_true, if_true, if_false]

end

theorem State.speedChange_changes {v : Nat} (up : s.linkUp k = true) (speeds : v ≠ 0)
    (new : s.fld .lnkStat 6 4 k ≠ min v (s.maxSpeed k)) : s.speedChange k v =
      ((s.setFld .lnkStat 6 4 (min v (s.maxSpeed k)) k).setBit .lnkStat 2
        (s.bit .lnkStat 2 k || min v (s.maxSpeed k) = 6) k).linkEvent k 2 :=
  if_pos ⟨up, speeds, new⟩

theorem State.widthChange_changes {v : Nat} (up : s.linkUp k = true) (lanes : v ≠ 0)
    (new : s.fld .lnkStat 12 8 k ≠ min v (s.maxWidth k)) :
    s.widthChange k v = (s.setFld .lnkStat 12 8 (min v (s.maxWidth k)) k).linkEvent k 3 :=
  if_pos ⟨up, lanes, new⟩

/-- A link whose Presence Detect changes records it, and goes down where its drive has gone (R372). -/
theorem State.presenceChange_changes {p : Bool} (link : s.linkPresent k = true) (new : s.bit .lnkStat 1 k ≠ p) :
    s.presenceChange k p = if p then (s.setBit .lnkStat 1 p k).linkEvent k 4
      else ((s.setBit .lnkStat 1 p k).linkEvent k 4).linkDown k :=
  if_pos ⟨link, new⟩

/-- The three kinds of error message differ in their severity alone (R372). -/
theorem live_errMessage (run : Running s) (link : s.linkPresent k = true) (sev : Nat) : live s (·.errMessage k sev) =
    .next (noRewind s ((s.setLink k { s.link k with aer := rootStatus sev (s.link k).aer }).linkEvent k (5 + sev))) :=
  live_eq run (if_pos link)

/-! ### Recovery (R374) -/

theorem State.enterRecovery_up (up : s.linkUp k = true) (l0 : (s.link k).recovering = none) : s.enterRecovery k =
    ((s.setFld .lnkStat 19 16 4 k).addFld .lnkEvt 63 48 1 k).setLink k
      { s.link k with recovering := some s.clock, replaying := false } := by
  simp only [State.enterRecovery, up, l0, Option.isNone_none, Bool.and_self, if_true]

/-! ### BKP_PERST_N (R389, R422) -/

theorem State.perstReleased_due {at_ : Nat} (low : (s.link k).perstAt = some at_) (due : at_ ≤ s.clock) :
    s.perstReleased k = s.setLink k { s.link k with perstAt := none } := by
  simp only [State.perstReleased, low, due, if_true]

/-! ### Registers of a link (R364, R370, R379) -/

/-- A write of LNK_CTL in a part that runs has its effect. -/
theorem liveC_writeLnkCtl {f : State → Nat} {m : Nat} {z : State} (run : Running s)
    (hz : z = (s.writePlain m ⟨.lnkCtl, k, 0⟩ .lo (f s)).follows) (g : s.granted z = true) :
    liveC s (fun s => s.writeReg m ⟨.lnkCtl, k, 0⟩ .lo (f s)) = .next (noRewind s z) :=
  liveC_eq run (if_neg RegKind.noConfusion) hz g

/-- Outside Lockdown a write of BKP_IRQ has the completion queue that its low bits name scanned. -/
theorem State.writeReg_bkpIrq (free : s.locked = false) (link : s.linkPresent k = true) (m : Nat) {d : Nat} (fits : d < 2 ^ 64) :
    s.writeReg m ⟨.bkpIrq, k, 0⟩ .full d = s.scanRequest k (d % 512) := by
  have covered : d &&& accMask .full = d := Nat.and_two_pow_sub_one_of_lt_two_pow fits
  simp [State.writeReg, State.writePlain, State.ignoresWrite, RegKind.isSqCfg, RegKind.isCqCfg, RegKind.isShadow, link, Reg.rwMask,
    RegKind.info, State.woActs, free, covered]

end

/-- A scan is due once the queue is asked for, where none is due yet. -/
theorem State.scanRequest_new {d qid : Nat} (attached : (s.drive d).attached = true) (queue : qid ≤ 256)
    (new : qid ∉ (s.drive d).scanDue) :
    s.scanRequest (d + 2) qid = s.setDrive d { s.drive d with scanDue := (s.drive d).scanDue ++ [qid] } := by
  simp [State.scanRequest, attached, queue, new]

theorem State.cqScan_attached {d : Nat} (qid : Nat) (attached : (s.drive d).attached = true) : s.cqScan d qid =
    (s.replyRead d qid).setDrive d { s.drive d with
      scanDue := (s.drive d).scanDue.filter (fun n => n ≠ qid), scanAt := s.clock } :=
  if_pos attached

/-! ### NVME (R211 to R213, R336, R337) -/

section

variable {c : Nat} {rd : ReadResult} {h : Cmd} (ready : s.ready c 0x0A = true) (head : h = (s.chan c).head.cmd)
  (ended : s.readWaits c rd = false)
include ready head ended

/-- Where Snima has attached no drive, the command ends with NVMe's own code for it. -/
theorem State.doNvme_detached (gone : (s.drive h.drive).attached = false) :
    s.doNvme c rd = (s.readOver c).endCmd c 0x52 0x0001 h.count := by
  subst head
  simp only [State.doNvme, ready, ended, gone, Bool.not_false, Bool.and_self, if_true]

/-- An image that passes its checks takes a slot of the pair that the command names, or of the channel's own. -/
theorem State.doNvme_starts {b : List Byte} (attached : (s.drive h.drive).attached = true) (up : s.linkUp (h.drive + 2) = true)
    (image : s.imageRead c h rd = (.ok b, t)) (good : imageOk (t.drive h.drive) b = true)
    (count : h.count = imageCount (t.drive h.drive) b) : s.doNvme c rd = t.takeSlot c h.drive
      (if fieldOf 8 0 h.param2 = 0 then 1 + c % max 1 (t.drive h.drive).info.granted else fieldOf 8 0 h.param2) b := by
  subst head
  simp only [State.doNvme, ready, ended, attached, up, image, good, Bool.not_true, Bool.not_false, Bool.and_self, Bool.false_eq_true,
    if_true, if_false]
  exact if_neg (not_not.2 count)

end

section

variable {d cid : Nat} (dw0 status : Nat) {e : DrvCid} (out : (s.drive d).cids.find? (fun x => x.cid = cid) = some e)
include out

/-- A completion ends the command that waits for it, and the slot goes to the next. -/
theorem State.driveCompletes_ends {u : State} (wanted : e.abandoned = false)
    (ht : t = ((s.setDrive d { s.drive d with cids := (s.drive d).cids.erase e }).replyTaken d e.qp).replyRead d e.qp)
    (free : t.locked = false) (active : (t.chan e.chan).phase = .active) (runs : (t.chan e.chan).stage = .drvRun)
    (waits : (t.chan e.chan).drv = some (d, e.qp, cid))
    (hu : u = if status = 0 then t.endCmd e.chan 0 0 0 else t.endCmd e.chan 0x50 status (t.chan e.chan).head.cmd.count)
    (freeAfter : u.locked = false) : s.driveCompletes d cid dw0 status = u.slotFreed d e.qp := by
  subst hu
  simp only [State.driveCompletes, out, wanted, ← ht, free, active, runs, waits, and_self, freeAfter, Bool.false_eq_true, if_true,
    if_false]

/-- The completion of a command that was given up is stale (R337). -/
theorem State.driveCompletes_stale (abandoned : e.abandoned = true)
    (ht : t = (((s.setDrive d { s.drive d with cids := (s.drive d).cids.erase e }).replyTaken d e.qp).replyRead d e.qp).staleRecord
      (0x74 + d / 2) 1 e.chan (cid + d * 2 ^ 16) (dw0 + status * 2 ^ 32))
    (free : t.locked = false) : s.driveCompletes d cid dw0 status = t.slotFreed d e.qp := by
  simp only [State.driveCompletes, out, abandoned, ← ht, free, Bool.false_eq_true, if_true, if_false]

end

/-- A command whose NTMO has passed is given up: an Abort goes out, its identifier stays taken, and it ends. -/
theorem State.driveTimesOut_due {c d q cid : Nat} (drive : (s.chan c).drv = some (d, q, cid)) (active : (s.chan c).phase = .active)
    (runs : (s.chan c).stage = .drvRun) (passed : (s.chan c).head.cmd.ntmo * second ≤ s.idleTime c * 1000000)
    (ht : t = (s.setDrive d { s.drive d with
        cids := (s.drive d).cids.map (fun e => if e.cid = cid then { e with abandoned := true } else e) }).putEntry
      d 0 (natLe 1 8 ++ natLe 39 0 ++ natLe 2 q ++ natLe 2 cid ++ natLe 20 0)) :
    s.driveTimesOut c = t.endCmd c 0x51 0 (s.chan c).head.cmd.count := by
  subst ht
  simp only [State.driveTimesOut, drive, active, runs, passed, and_self, if_true]

/-- Settles O16: each row is the one case of its effect that its hypotheses leave. -/
theorem linkAndDriveCommandsComplete : Obligations.LinkAndDriveCommandsComplete := by
  refine ⟨?dlUp, ?dlUpFenuz, ?dlDown, ?speed, ?width, ?presence, ?errCor, ?errNonfatal, ?errFatal, ?recoveryEntry, ?recoveryExit,
    ?config, ?functionReset, ?hotReset, ?perstAssert, ?perstDeassert, ?perstRelease, ?retrain, ?bifurcate, ?disable, ?bkpIrq, ?scan,
    ?nvmeDetached, ?nvmeStarts, ?completes, ?stale, ?timeout⟩
  case dlUp =>
    intro s k speed width flit run mayTrain pcie down speeds z hz g
    have nonzero : speed.val ≠ 0 := fun zero => speeds (Fin.ext zero)
    exact liveC_eq (f := (·.linkComesUp k speed width flit)) run (State.linkComesUp_pcie width flit mayTrain pcie down nonzero) hz g
  case dlUpFenuz =>
    intro s k speed width flit run mayTrain fenuz down z hz g
    exact liveC_eq (f := (·.linkComesUp k speed width flit)) run (State.linkComesUp_fenuz width flit mayTrain fenuz down) hz g
  case dlDown => exact fun s k run _ _ z hz g => liveC_eq (f := (·.linkDown k)) run rfl hz g
  case speed =>
    exact fun s k speed run up speeds new => live_eq (f := (·.speedChange k speed)) run (State.speedChange_changes up speeds new)
  case width =>
    exact fun s k width run up lanes new => live_eq (f := (·.widthChange k width)) run (State.widthChange_changes up lanes new)
  case presence =>
    rintro s _ k present run rfl link new z hz g
    exact liveC_eq (f := (·.presenceChange (k + 2) present)) run (State.presenceChange_changes link new) hz g
  case errCor => exact fun s k run link => live_errMessage run link 0
  case errNonfatal => exact fun s k run link => live_errMessage run link 1
  case errFatal => exact fun s k run link => live_errMessage run link 2
  case recoveryEntry =>
    exact fun s p k now hp run up l0 z hz g => liveCAt_eq (f := (·.enterRecovery k)) hp run (State.enterRecovery_up up l0) hz g
  case recoveryExit =>
    exact fun s p k now hp run recovers z hz g => liveCAt_eq (f := (·.leaveRecovery k)) hp run (if_pos recovers) hz g
  case config => exact fun s port w run => live_eq (f := fun s => (s.configWrite port w).idledNow) run (by cases w <;> rfl)
  case functionReset | hotReset =>
    rintro s _ port run rfl
    exact live_eq (f := (·.functionReset port)) run rfl
  case perstAssert =>
    rintro s _ port run _ rfl z hz g
    exact liveC_eq (s := s.perstLevel port false) (f := (·.perstFalls port)) run rfl hz g
  case perstDeassert => exact fun s port run => live_eq (s := s.perstLevel port true) (f := (·.setBit .lnkStat 1 true port)) run rfl
  case perstRelease =>
    exact fun s p k now at_ hp run low due => liveAt_eq (f := (·.perstReleased (k + 2))) hp run (State.perstReleased_due low due)
  case retrain =>
    exact fun s m k free _ z hz g => liveC_writeLnkCtl (f := fun s => putField 4 4 1 (s.view ⟨.lnkCtl, k + 2, 0⟩)) free.1 hz g
  case bifurcate =>
    intro s m port split free _ z hz g
    exact liveC_writeLnkCtl (f := fun s => putField 8 8 (b2n split) (s.view ⟨.lnkCtl, 2 + 2 * port, 0⟩)) free.1 hz g
  case disable =>
    intro s m k disable free _ z hz g
    exact liveC_writeLnkCtl (f := fun s => putField 9 9 (b2n disable) (s.view ⟨.lnkCtl, k + 2, 0⟩)) free.1 hz g
  case bkpIrq =>
    rintro s m drv data _ free link rfl attached queue new
    have scans := (State.writeReg_bkpIrq free.2 link m.toNat data.isLt).trans (State.scanRequest_new attached queue new)
    exact live_eq (f := (·.writeReg m.toNat ⟨.bkpIrq, drv + 2, 0⟩ .full data.toNat)) free.1 scans
  case scan =>
    exact fun s drv qid free attached z hz g =>
      freeM_eq (f := (·.cqScan drv qid)) free ((State.cqScan_attached qid attached).trans hz.symm) g
  case nvmeDetached =>
    intro s ch rd h free ready head ended gone z hz g
    exact freeC_eq (f := (·.doNvme ch rd)) free (State.doNvme_detached ready head ended gone) hz g
  case nvmeStarts =>
    intro s t ch rd h b free ready head ended attached up image good count z hz g
    exact freeC_eq (f := (·.doNvme ch rd)) free (State.doNvme_starts ready head ended attached up image good count) hz g
  case completes =>
    intro s t u drv cid dw0 status e run out wanted ht free active runs waits hu freeAfter z hz g
    have success : status = 0 ↔ status.toNat = 0 := BitVec.toNat_inj.symm
    exact liveC_eq (f := (·.driveCompletes drv cid.toNat dw0.toNat status.toNat)) run
      (State.driveCompletes_ends _ _ out wanted ht free active runs waits (hu.trans (if_congr success rfl rfl)) freeAfter) hz g
  case stale =>
    intro s t drv cid dw0 status e run out abandoned ht free z hz g
    exact liveC_eq (f := (·.driveCompletes drv cid.toNat dw0.toNat status.toNat)) run
      (State.driveCompletes_stale _ _ out abandoned ht free) hz g
  case timeout =>
    intro s p t ch now d q cid hp free drive active runs passed ht z hz g
    exact freeCAt_eq (f := (·.driveTimesOut ch)) hp free (State.driveTimesOut_due drive active runs passed ht) hz g

end Sys2Proof.Machine
end

section
/-! PROOFS. The movers' obligations (10_movers.md): reads and writes of the Central Store, the elements of a pattern, and the commands
of the movers and the arbiters. -/

namespace Sys2Proof.Machine

variable {s t : State}

/-! ### Bytes of the store read and written (R238, R279 to R281) -/

/-- A write keeps the store's memory canonical. -/
theorem State.storeWrite_wf (who name : Nat) (w : List (Nat × Byte)) (h : Memory.wf s.store.mem = true) :
    Memory.wf (s.storeWrite who w name).store.mem = true := by
  obtain ⟨-, mem, -⟩ := s.storeWrite_spec who w name
  rw [mem]
  exact Memory.wf_memWriteAll _ h

/-- Meeting words in error leaves the store's bytes and its remapping. -/
theorem Marked.bytes_remap (h : Marked s t) : t.store.mem = s.store.mem ∧ t.store.remap = s.store.remap := by
  obtain ⟨_, _, _, _, _, _, _, _, _, rfl, -⟩ := h
  exact ⟨rfl, rfl⟩

/-- A read leaves the store's bytes and its remapping: neither its claims nor the words that it meets change them. -/
theorem State.storeRead_bytes_remap (s : State) (who a n name : Nat) :
    (s.storeRead who a n name).2.2.store.mem = s.store.mem ∧ (s.storeRead who a n name).2.2.store.remap = s.store.remap := by
  have claimed := State.claims_noted (s := s) who (s.rangeReqs who false a n)
  have words : Marked (s.claims who (s.rangeReqs who false a n)) (s.storeRead who a n name).2.2 :=
    Marked.fold (fun t w => State.readWord_marked (s := t) name w) _ _
  obtain ⟨mem, remap⟩ := words.bytes_remap
  exact ⟨mem.trans claimed.mem, remap.trans claimed.remap⟩

/-- Bytes written in a row have consecutive addresses. -/
theorem map_fst_atAddr (a : Nat) (d : List Byte) : (atAddr a d).map (·.1) = (List.range d.length).map (a + ·) := by
  rw [← List.range'_eq_map_range]
  induction d generalizing a with
  | nil => rfl
  | cons b d ih => rw [atAddr, List.map_cons, ih, List.length_cons, List.range'_succ]

/-- Byte `i` of a row is written at address `a + i`. -/
theorem mem_atAddr {a i : Nat} {d : List Byte} {b : Byte} (h : d[i]? = some b) : (a + i, b) ∈ atAddr a d := by
  induction d generalizing a i with
  | nil => simp at h
  | cons x d ih =>
    cases i with
    | zero =>
      obtain rfl : x = b := by simpa using h
      exact List.mem_cons_self
    | succ i =>
      rw [Nat.add_comm i, ← Nat.add_assoc]
      exact List.mem_cons_of_mem _ (ih (by simpa using h))

/-- Of bytes put in a row at places that all differ, each reads back. -/
theorem State.put_own (s : State) (who name : Nat) {a i : Nat} {d : List Byte} {b : Byte}
    (nodup : ((List.range d.length).map (fun j => s.phys (a + j))).Nodup) (h : d[i]? = some b) :
    (s.put who a d name).storeByte (a + i) = b := by
  have places : (atAddr a d).map (fun e => s.phys e.1) = (List.range d.length).map (fun j => s.phys (a + j)) := by
    simpa [Function.comp_def] using congrArg (List.map s.phys) (map_fst_atAddr a d)
  exact s.storeWrite_own who name (places ▸ nodup) (mem_atAddr h)

/-- Settles O49: a write's bytes and words are those of `storeWrite_spec`, and what a read meets leaves bytes and remapping. -/
theorem storeWritesAndReads : Obligations.StoreWritesAndReads := by
  refine ⟨fun s who w wf => State.storeWrite_wf who who w wf, fun s who a n => ?reads,
    fun s who a i d b nodup h => s.put_own who who nodup h, fun s who b w apart => s.storeWrite_other who who apart⟩
  case reads =>
    obtain ⟨mem, remap⟩ := s.storeRead_bytes_remap who a n who
    exact ⟨mem, remap, by simp [State.storeRead]⟩

/-! ### The elements of a pattern (R242) -/

/-- Byte `o` of a row of elements of `n` bytes lies in the element that its index says, at `o`. -/
theorem div_mod_of_row {n i o : Nat} (h : o < n) : (i * n + o) / n = i ∧ (i * n + o) % n = o := by
  have pos : 0 < n := Nat.zero_lt_of_lt h
  rw [Nat.mul_comm, Nat.mul_add_div pos, Nat.div_eq_of_lt h, Nat.mul_add_mod, Nat.mod_eq_of_lt h]
  exact ⟨rfl, rfl⟩

/-- The address of byte `o` of element (i2, i1, i0). -/
theorem Pattern.addr_element (p : Pattern) (base i2 : Nat) {i1 i0 o : Nat} (tbl : Nat → Nat) (h1 : i1 < p.n1) (h0 : i0 < p.n0)
    (ho : o < p.elem) : ((p.addr base (((i2 * p.n1 + i1) * p.n0 + i0) * p.elem + o) tbl : Nat) : Int) =
      ((base : Int) + i2 * p.s2 + i1 * p.s1 + (if p.idx then sext 32 (tbl i0) * 2 ^ p.scale else (i0 : Int) * p.s0) + o) % 2 ^ 64 := by
  obtain ⟨element, byte⟩ := div_mod_of_row (i := (i2 * p.n1 + i1) * p.n0 + i0) ho
  obtain ⟨row, inner⟩ := div_mod_of_row (i := i2 * p.n1 + i1) h0
  obtain ⟨outer, middle⟩ := div_mod_of_row (i := i2) h1
  simp only [Pattern.addr, element, byte, row, inner, outer, middle]
  exact Int.toNat_of_nonneg (Int.emod_nonneg _ (by decide))

/-- Settles O60: dividing the stream's index by ELEM, N0 and N1 in turn gives back the loops' counters. -/
theorem patternsVisitTheirElements : Obligations.PatternsVisitTheirElements := by
  intro p base i2 i1 i0 o tbl h1 h0 ho
  have element := p.addr_element base i2 tbl h1 h0 ho
  refine ⟨fun plain => ?_, fun table => ?_⟩
  · simpa only [plain, Bool.false_eq_true, if_false] using element
  · simpa only [table, if_true] using element

/-! ### A mover goes to the command that has waited longest (R231) -/

section

variable {c m : Nat} {rest : List Nat} (waits : s.moverWait = c :: rest) (free : s.freeMover = some m)
  (taken : t = (({ s with moverWait := rest }).setMover m { s.mover m with owner := some c }).progressed c)
include waits free taken

/-- A command that takes an AES core waits for one. -/
theorem State.takeMover_aes (aes : (t.chan c).head.cmd.usesAes = true) : s.takeMover =
    { (t.setChan c { t.chan c with stage := .aesWait }) with
      crypto := { t.crypto with aesWait := t.crypto.aesWait ++ [c] } } := by
  subst taken
  simp only [State.takeMover, waits, free]
  exact if_pos aes

/-- A command that takes a SHA core waits for one. -/
theorem State.takeMover_sha (noAes : (t.chan c).head.cmd.usesAes = false) (sha : (t.chan c).head.cmd.usesSha = true) : s.takeMover =
    { (t.setChan c { t.chan c with stage := .shaWait }) with
      crypto := { t.crypto with shaWait := t.crypto.shaWait ++ [c] } } := by
  subst taken
  simp only [State.takeMover, waits, free]
  exact (if_neg (ne_true_of_eq_false noAes)).trans (if_pos sha)

/-- A command that takes no crypto unit begins to move its data. -/
theorem State.takeMover_moves (noAes : (t.chan c).head.cmd.usesAes = false) (noSha : (t.chan c).head.cmd.usesSha = false) :
    s.takeMover = (t.loadMember m c 0).run m := by
  subst taken
  simp only [State.takeMover, waits, free]
  exact (if_neg (ne_true_of_eq_false noAes)).trans (if_neg (ne_true_of_eq_false noSha))

end

/-! ### Writes of MOV_CTL and MOV_CFG (R229, R230, R233, R252, R254) -/

/-- Every access but one of bits [63:32] alone covers what lies in bits [31:0]. -/
theorem and_accMask {acc : Acc} (lo : acc ≠ .hi) {d : Nat} (fits : d < 2 ^ 32) : d &&& accMask acc = d := by
  cases acc with
  | hi => exact absurd rfl lo
  | lo => exact Nat.and_two_pow_sub_one_of_lt_two_pow fits
  | full => exact Nat.and_two_pow_sub_one_of_lt_two_pow (fits.trans (by decide))

/-- In direct mode and out of Lockdown a write of MOV_CTL acts through its bits alone. -/
theorem State.writeReg_movCtl {mv : Nat} (free : s.locked = false) (direct : (s.mover mv).direct = true) (m : Nat) {d : Nat}
    (fits : d < 2 ^ 32) : s.writeReg m ⟨.movCtl, mv, 0⟩ .lo d = s.woActs m ⟨.movCtl, mv, 0⟩ .lo d false := by
  simp [State.writeReg, State.writePlain, State.ignoresWrite, RegKind.isSqCfg, RegKind.isCqCfg, RegKind.isShadow, RegKind.isLink,
    Reg.rwMask, RegKind.info, direct, free, and_accMask (acc := .lo) (by decide) fits]

/-- A write of MOV_CTL in direct mode, in a part that is free to run, does what its bits say. -/
theorem liveC_movCtl {mv : Fin 64} {u z : State} {m : BitVec 8} {d : Nat} (free : Free s) (direct : (s.mover mv).direct = true)
    (fits : d < 2 ^ 32) (e : s.woActs m.toNat ⟨.movCtl, mv, 0⟩ .lo d false = u) (hz : z = u.follows) (g : s.granted z = true) :
    liveC s (·.writeReg m.toNat ⟨.movCtl, mv, 0⟩ .lo d) = .next (noRewind s z) :=
  liveC_eq free.1 ((State.writeReg_movCtl free.2 direct m.toNat fits).trans e) hz g

section

variable (s : State) (m mv : Nat)

theorem State.woActs_movGo : s.woActs m ⟨.movCtl, mv, 0⟩ .lo 1 false = s.movGo mv 0 0 := rfl

theorem State.woActs_movCancel : s.woActs m ⟨.movCtl, mv, 0⟩ .lo 2 false = s.movCancel mv := rfl

theorem State.woActs_movDropSh : s.woActs m ⟨.movCtl, mv, 0⟩ .lo 4 false = s.movDropSh mv := rfl

theorem State.woActs_movRetry : s.woActs m ⟨.movCtl, mv, 0⟩ .lo 0x10 false = s.movRetry mv := rfl

theorem State.woActs_movAbort : s.woActs m ⟨.movCtl, mv, 0⟩ .lo 0x30 false = s.movAbort mv := rfl

end

/-- With SHADOW empty a transfer that it describes well becomes valid. -/
theorem State.movGo_starts {mv hop cause : Nat} {tr : Transfer} (direct : (s.mover mv).direct = true)
    (empty : (s.mover mv).shadow = none) (reads : s.shadowTransfer mv hop cause = (some tr, t)) :
    s.movGo mv hop cause = (t.setMover mv (promote { t.mover mv with shadow := some tr })).work mv := by
  simp only [State.movGo, direct, empty, reads, Bool.not_true, Option.isSome_none, Bool.or_self, Bool.false_eq_true, if_false]

/-- With SHADOW empty a transfer that it describes badly is refused. -/
theorem State.movGo_refuses {mv hop cause : Nat} (direct : (s.mover mv).direct = true) (empty : (s.mover mv).shadow = none)
    (reads : s.shadowTransfer mv hop cause = (none, t)) : s.movGo mv hop cause = t.setBit .movEvt 2 true mv := by
  simp only [State.movGo, direct, empty, reads, Bool.not_true, Option.isSome_none, Bool.or_self, Bool.false_eq_true, if_false]

/-- On a mover that has halted REL ABORT discards the ACTIVE transfer. -/
theorem State.movAbort_halted {mv : Nat} (direct : (s.mover mv).direct = true) (halt : (s.mover mv).halt = true) :
    s.movAbort mv = (s.setMover mv (promote { s.mover mv with halt := false, active := none })).work mv := by
  simp only [State.movAbort, direct, halt, Bool.and_self, if_true]

/-- Out of Lockdown MOV_CFG takes the two bits that it holds as written. -/
theorem State.writeReg_movCfg {acc : Acc} (lo : acc ≠ .hi) (free : s.locked = false) (m mv d : Nat) :
    s.writeReg m ⟨.movCfg, mv, 0⟩ acc d = s.setRg .movCfg ((s.rg .movCfg mv &&& (2 ^ 64 - 1 - 0x3)) ||| (d &&& 0x3)) mv := by
  have rw : 0x3 &&& accMask acc = 0x3 := and_accMask lo (by decide)
  have data : d &&& accMask acc &&& 0x3 = d &&& 0x3 := by rw [Nat.and_assoc, Nat.and_comm (accMask acc), rw]
  rw [State.writeReg_standsAlone rfl, State.writePlain, State.ignoresWrite_standsAlone rfl]
  simp [Reg.rwMask, RegKind.info, rw, data, free, State.rwActs, State.woActs]

/-- MODE follows DIRECT where the mover is empty. -/
theorem State.modeChange_empty {mv : Nat} (active : (s.mover mv).active = none) (shadow : (s.mover mv).shadow = none)
    (tracker : (s.mover mv).tracker = none) (owner : (s.mover mv).owner = none) :
    s.modeChange mv = s.setMover mv { s.mover mv with direct := s.bit .movCfg 0 mv } := by
  simp [State.modeChange, active, shadow, tracker, owner]

/-! ### Arbiters and the Tether (R247, R289 to R291) -/

/-- Out of Lockdown a write of 1 to ARB_COMMIT commits the priorities. -/
theorem State.writeReg_arbCommit (free : s.locked = false) (m : Nat) : s.writeReg m ⟨.arbCommit, 0, 0⟩ .lo 1 = s.arbCommit := by
  rw [State.writeReg_wo rfl (Nat.zero_and _) (Nat.zero_and _), free]
  rfl

section

variable {v u : State} {seg p : Nat} {r : ArbReq} (gaveUp : v = s.giveUpRow seg) (idle : tabGet none v.arb.holder seg = none)
  (picks : v.arbPick seg = some (r, p))
  (grants : u = ({ v with arb := { v.arb with
    ptr := tabSet 71 v.arb.ptr (16 * seg + p) r.req, presented := v.arb.presented.erase r
    holder := tabSet none v.arb.holder seg (some r), heldAt := tabSet 0 v.arb.heldAt seg v.clock } } : State).tetherGrant r.req r.lines)
include gaveUp idle picks grants

/-- A mover's burst that gets its grant is issued, and the mover goes on. -/
theorem State.arbGrant_burst {b : Burst} (burst : r.row = false)
    (made : (u.mover r.req).active.bind (fun t => t.bursts.find? (fun b => b.num = r.burst)) = some b) :
    s.arbGrant seg = (u.issueBurst r.req { b with stage := if r.write then .writing else .reading }).run r.req := by
  subst gaveUp grants
  simp only [State.arbGrant, idle, picks, burst, made, Option.isSome_none, Bool.false_eq_true, if_false]

/-- An access of the part's own that gets its grant lets every mover try again (log entry 12). -/
theorem State.arbGrant_row (row : r.row = true) : s.arbGrant seg = u.runAll := by
  subst gaveUp grants
  simp only [State.arbGrant, idle, picks, row, Option.isSome_none, Bool.false_eq_true, if_false, if_true]

end

/-- What the Tether of a requester that is no mover holds goes on where it fits. -/
theorem State.tetherRelease_fits {n : Nat} (other : 64 ≤ n) (held : n ∈ s.arb.tethered) (fits : s.tetherFits n 1 = true) :
    s.tetherRelease n = ({ s with arb := { s.arb with tethered := s.arb.tethered.filter (fun k => k ≠ n) } } : State).runAll :=
  (if_neg (Nat.not_lt.2 other)).trans (if_pos ⟨held, fits⟩)

/-! ### Completion time-outs (R248, R367) -/

/-- A read over a link that has taken longer than its endpoint allows fails. -/
theorem State.readTimesOut_passed {m z : Nat} {x : Transfer} {b : Burst} (moves : (s.mover m).active = some x)
    (reads : x.bursts.find? (fun b => b.stage = .reading && readZone x b ≠ 0) = some b) (zone : z = readZone x b)
    (passed : s.ctoPassed z b.issued = true) : s.readTimesOut m =
      (s.burstFails m false b (failWith 3 0x20 z 1 ((s.burstReads x b).headD 0 / 64 * 64) (x.offOf b.lo))).run m := by
  subst zone
  simp only [State.readTimesOut, moves, reads, passed, if_true]

/-- Settles O11: each row is the one case of its effect that its hypotheses leave. -/
theorem moverCommandsComplete : Obligations.MoverCommandsComplete := by
  refine ⟨?takenMoves, ?takenAes, ?takenSha, ?go, ?goRefused, ?cancel, ?dropShadow, ?retry, ?abort, ?cfg, ?mode, ?commit, ?grantBurst,
    ?grantRow, ?tetherMover, ?tetherOther, ?readData, ?written, ?timeout⟩
  case takenMoves =>
    intro s t c m rest free waits mover taken noAes noSha z hz g
    exact freeC_eq (f := (·.takeMover)) free (State.takeMover_moves waits mover taken noAes noSha) hz g
  case takenAes =>
    intro s t c m rest free waits mover taken aes z hz g
    exact freeC_eq (f := (·.takeMover)) free (State.takeMover_aes waits mover taken aes) hz g
  case takenSha =>
    intro s t c m rest free waits mover taken noAes sha z hz g
    exact freeC_eq (f := (·.takeMover)) free (State.takeMover_sha waits mover taken noAes sha) hz g
  case go =>
    intro s t m mv tr free direct empty reads z hz g
    exact liveC_movCtl free direct (by decide) ((s.woActs_movGo m.toNat mv).trans (State.movGo_starts direct empty reads)) hz g
  case goRefused =>
    intro s t m mv free direct empty reads z hz g
    exact liveC_movCtl free direct (by decide) ((s.woActs_movGo m.toNat mv).trans (State.movGo_refuses direct empty reads)) hz g
  case cancel =>
    exact fun s m mv x free direct _ _ _ z hz g => liveC_movCtl free direct (by decide) (s.woActs_movCancel m.toNat mv) hz g
  case dropShadow =>
    intro s m mv free direct z hz g
    exact liveC_movCtl free direct (by decide) ((s.woActs_movDropSh m.toNat mv).trans (if_pos direct)) hz g
  case retry =>
    exact fun s m mv free direct _ z hz g => liveC_movCtl free direct (by decide) (s.woActs_movRetry m.toNat mv) hz g
  case abort =>
    intro s m mv free direct halt z hz g
    exact liveC_movCtl free direct (by decide) ((s.woActs_movAbort m.toNat mv).trans (State.movAbort_halted direct halt)) hz g
  case cfg => exact fun s m mv acc data free lo => live_writeReg free.1 (State.writeReg_movCfg lo free.2 m.toNat mv data.toNat)
  case mode =>
    intro s mv free active shadow tracker owner
    exact live_unlocked_eq (f := (·.modeChange mv)) free (State.modeChange_empty active shadow tracker owner)
  case commit =>
    rintro s _ m free rfl
    exact live_writeReg free.1 (State.writeReg_arbCommit free.2 m.toNat)
  case grantBurst =>
    intro s v u seg r p b run gaveUp idle picks burst grants made z hz g
    exact liveC_eq (f := (·.arbGrant seg)) run (State.arbGrant_burst gaveUp idle picks grants burst made) hz g
  case grantRow =>
    intro s v u seg r p run gaveUp idle picks row grants z hz g
    exact liveC_eq (f := (·.arbGrant seg)) run (State.arbGrant_row gaveUp idle picks grants row) hz g
  case tetherMover =>
    exact fun s p n now hp free mover z hz g => freeCAt_eq (f := (·.tetherRelease n)) hp free (if_pos mover) hz g
  case tetherOther =>
    intro s p n now hp free other held fits z hz g
    exact freeCAt_eq (f := (·.tetherRelease n)) hp free (State.tetherRelease_fits other held fits) hz g
  case readData =>
    rintro s _ mv rd u x b free rfl _ _ z hz g
    exact freeC_eq (f := fun s => ((s.upset u).burstData mv rd).retryCredits) free rfl hz g
  case written =>
    intro s mv res x b free _ _ _ z hz g
    exact freeC_eq (f := fun s => (s.burstWritten mv res).retryCredits) free rfl hz g
  case timeout =>
    intro s p mv now x b y hp free moves reads zone passed z hz g
    have fails := State.readTimesOut_passed moves reads zone passed
    exact freeCAt_eq (f := fun s => (s.readTimesOut mv).retryCredits) hp free (congrArg State.retryCredits fails) hz g

end Sys2Proof.Machine
end

section
/-! PROOFS. The obligation of the Central Store and its arbitration (12_central_store_and_arbitration.md): what a commit of the priorities
changes and what it leaves. -/

namespace Sys2Proof.Machine

variable {s : State}

/-! ### The copy of the shadow priorities (R291) -/

/-- The state with the live priorities of the requesters below `count` copied from their shadows, in the order of the requesters. -/
def State.copyPrios (s : State) (count : Nat) : State :=
  (List.range count).foldl (fun t n => t.setRg .arbPrio (t.rg .arbPrioSh n) n) s

theorem State.copyPrios_succ (count : Nat) :
    s.copyPrios (count + 1) = (s.copyPrios count).setRg .arbPrio ((s.copyPrios count).rg .arbPrioSh count) count := by
  simp only [State.copyPrios, List.range_succ, List.foldl_append, List.foldl_cons, List.foldl_nil]

/-- A commit is the copy for all 72 requesters, counted. -/
theorem State.arbCommit_eq_copyPrios :
    s.arbCommit = (s.copyPrios 72).setFld .arbStat 63 32 ((s.copyPrios 72).fld .arbStat 63 32 + 1) := rfl

theorem State.copyPrios_changes_regs (count : Nat) : ∃ r, s.copyPrios count = { s with regs := r } := by
  induction count with
  | zero => exact ⟨s.regs, rfl⟩
  | succ count ih =>
    obtain ⟨r, copied⟩ := ih
    rw [State.copyPrios_succ, copied]
    exact State.setRg_eq ..

/-- The copy leaves every register that lies apart from the live priorities it sets. -/
theorem State.rg_copyPrios_ne {k : RegKind} {i j count : Nat}
    (apart : ∀ n < count, Reg.offset ⟨k, i, j⟩ ≠ Reg.offset ⟨.arbPrio, n, 0⟩) : (s.copyPrios count).rg k i j = s.rg k i j := by
  induction count with
  | zero => rfl
  | succ count ih =>
    rw [State.copyPrios_succ, State.rg_setRg_ne _ _ _ _ _ _ _ _ (apart count count.lt_succ_self)]
    exact ih fun n below => apart n (Nat.lt_succ_of_lt below)

theorem Reg.offset_arbPrio (n : Nat) : Reg.offset ⟨.arbPrio, n, 0⟩ = 0x500400 + n * 8 := rfl

theorem Reg.offset_arbPrioSh (n : Nat) : Reg.offset ⟨.arbPrioSh, n, 0⟩ = 0x500000 + n * 8 := rfl

theorem Reg.offset_arbStat : Reg.offset ⟨.arbStat, 0, 0⟩ = 0x500808 := rfl

/-- The live priorities lie behind the 128 places from the first shadow priority on, so no copy overwrites a shadow that is still to be
copied. -/
theorem Reg.offset_arbPrioSh_ne_arbPrio {m : Nat} (fits : m < 128) (n : Nat) :
    Reg.offset ⟨.arbPrioSh, m, 0⟩ ≠ Reg.offset ⟨.arbPrio, n, 0⟩ := by
  rw [Reg.offset_arbPrioSh, Reg.offset_arbPrio]
  omega

theorem Reg.offset_arbStat_ne_arbPrio {n : Nat} (fits : n < 128) : Reg.offset ⟨.arbStat, 0, 0⟩ ≠ Reg.offset ⟨.arbPrio, n, 0⟩ := by
  rw [Reg.offset_arbStat, Reg.offset_arbPrio]
  omega

theorem Reg.offset_arbPrio_ne {m n : Nat} (ne : m ≠ n) : Reg.offset ⟨.arbPrio, m, 0⟩ ≠ Reg.offset ⟨.arbPrio, n, 0⟩ := by
  rw [Reg.offset_arbPrio, Reg.offset_arbPrio]
  omega

/-- Each live priority that the copy sets reads as its shadow did before. -/
theorem State.rg_copyPrios {n count : Nat} (fits : count ≤ 128) (below : n < count) :
    (s.copyPrios count).rg .arbPrio n = s.rg .arbPrioSh n := by
  induction count with
  | zero => exact absurd below n.not_lt_zero
  | succ count ih =>
    rw [State.copyPrios_succ]
    obtain earlier | rfl := Nat.lt_succ_iff_lt_or_eq.1 below
    · rw [State.rg_setRg_ne _ _ _ _ _ _ _ _ (Reg.offset_arbPrio_ne earlier.ne)]
      exact ih (Nat.le_of_succ_le fits) earlier
    · rw [State.rg_setRg, State.rg_mod]
      exact State.rg_copyPrios_ne fun m _ => Reg.offset_arbPrioSh_ne_arbPrio fits m

/-! ### A commit (R291) -/

theorem State.arbCommit_changes_regs (s : State) : s.arbCommit = { s with regs := s.arbCommit.regs } := by
  obtain ⟨_, copied⟩ := s.copyPrios_changes_regs 72
  rw [State.arbCommit_eq_copyPrios, copied]
  rfl

/-- A commit leaves every register that lies apart from the live priorities and ARB_STAT. -/
theorem State.rg_arbCommit_ne {k : RegKind} {i j : Nat} (noPrio : ∀ n : Fin 72, Reg.offset ⟨k, i, j⟩ ≠ Reg.offset ⟨.arbPrio, n, 0⟩)
    (noStat : Reg.offset ⟨k, i, j⟩ ≠ Reg.offset ⟨.arbStat, 0, 0⟩) : s.arbCommit.rg k i j = s.rg k i j := by
  rw [State.arbCommit_eq_copyPrios, State.setFld, State.rg_setRg_ne _ _ _ _ _ _ _ _ noStat]
  exact State.rg_copyPrios_ne fun n below => noPrio ⟨n, below⟩

theorem State.rg_arbCommit_arbPrio (n : Fin 72) : s.arbCommit.rg .arbPrio n = s.rg .arbPrioSh n := by
  have apart := (Reg.offset_arbStat_ne_arbPrio (n.isLt.trans (by decide))).symm
  rw [State.arbCommit_eq_copyPrios, State.setFld, State.rg_setRg_ne _ _ _ _ _ _ _ _ apart]
  exact State.rg_copyPrios (by decide) n.isLt

/-- COMMITS counts the commit, modulo 2^32. -/
theorem State.fld_arbCommit_commits : s.arbCommit.fld .arbStat 63 32 = (s.fld .arbStat 63 32 + 1) % 2 ^ 32 := by
  have stat : (s.copyPrios 72).rg .arbStat = s.rg .arbStat :=
    State.rg_copyPrios_ne fun n below => Reg.offset_arbStat_ne_arbPrio (below.trans (by decide))
  rw [State.arbCommit_eq_copyPrios, State.fld_setFld _ _ _ _ (by decide) (by decide), State.fld, stat, State.fld]

/-- Out of Lockdown the command that commits the priorities has the effect of `arbCommit`. -/
theorem exec_arbCommit (free : Free s) (m : BitVec 8) : exec (.arbCommit m) s = .next (noRewind s s.arbCommit) :=
  live_writeReg free.1 (State.writeReg_arbCommit free.2 m.toNat)

/-- Settles O54: the commit copies requester after requester, and no live priority lies where a shadow or ARB_STAT does. -/
theorem commitCopiesEveryPriority : Obligations.CommitCopiesEveryPriority := by
  intro s m free
  refine ⟨noRewind s s.arbCommit, exec_arbCommit free m, ?live, ?counted, ?others, ?frame⟩
  case live => exact fun n => (noRewind_rg ..).trans (State.rg_arbCommit_arbPrio n)
  case counted => exact (noRewind_fld ..).trans State.fld_arbCommit_commits
  case others => exact fun k i j noPrio noStat => (noRewind_rg ..).trans (State.rg_arbCommit_ne noPrio noStat)
  case frame => rw [noRewind_regs, ← State.arbCommit_changes_regs]

end Sys2Proof.Machine
end

section
/-! PROOFS. The obligations of Carillon (13_carillon_events.md) and of the interrupt controller (14_interrupts.md): their commands
complete. -/

namespace Sys2Proof.Machine

variable {s t : State}

/-! ### Writes of registers that hold what is written (R6, R55) -/

/-- Out of Lockdown a register that stands alone and has no W1C bits takes, of its RW fields, the bits that the write covers; then its
fields act. -/
theorem State.writeReg_rw {r : Reg} {acc : Acc} {rw : Nat} (alone : r.kind.standsAlone = true) (w1c : r.kind.info.w1c = 0)
    (held : r.kind ≠ .msixTable ∧ r.kind ≠ .mbxRto) (covers : r.rwMask &&& accMask acc = rw) (some : rw ≠ 0) (free : s.locked = false)
    (m d : Nat) : s.writeReg m r acc d =
      ((s.setRg r.kind ((s.rg r.kind r.i r.j &&& (2 ^ 64 - 1 - rw)) ||| (d &&& rw)) r.i r.j).rwActs r (s.rg r.kind r.i r.j)).woActs
        m r acc (d &&& accMask acc) false := by
  have apart := alone
  simp [RegKind.standsAlone] at apart
  have data : d &&& accMask acc &&& rw = d &&& rw := by
    rw [← covers, Nat.and_assoc, Nat.and_comm r.rwMask, ← Nat.and_assoc (accMask acc), Nat.and_self]
  rw [State.writeReg_standsAlone alone, State.writePlain, State.ignoresWrite_standsAlone alone]
  simp only [Bool.false_eq_true, if_false, w1c, Nat.zero_and, if_true, held, apart, covers, some, free, Bool.false_and, data]

/-! ### Firings and pins (R304, R306, R424) -/

/-- Out of Lockdown a write of CAR_FIRE rings the channel, with its master as the cause. -/
theorem State.writeReg_carFire (free : s.locked = false) (m : Nat) {chn : Nat} (fits : chn < 256) :
    s.writeReg m ⟨.carFire, 0, 0⟩ .lo chn = s.cascade [] [⟨chn, 0, 0x1000 + m, 0⟩] 10 := by
  have covered : chn &&& accMask .lo = chn := and_accMask (acc := .lo) (by decide) (by omega)
  rw [State.writeReg_wo rfl (Nat.zero_and _) (Nat.zero_and _), covered, free]
  simp [State.woActs, State.ring, free, Nat.mod_eq_of_lt fits]

theorem State.routeEvent_oldest {src : Nat} {e : SourceEvent} (oldest : s.events.find? (fun e => e.source = src) = some e) :
    s.routeEvent src = ({ s with events := s.events.erase e }).sourceEvent src e.time e.hop := by
  simp only [State.routeEvent, oldest]

/-- The oldest strike that waits falls with every other that waits on its input. -/
theorem State.deferredStrike_cons {x : Strike} {r : List Strike} {f : Option Firing} (waits : s.strikes = x :: r)
    (falls : ({ s with strikes := s.strikes.filter (fun y => y.input ≠ x.input) }).strikeInput x.input
      (s.strikes.filter (fun y => y.input = x.input)) = (f, t)) :
    s.deferredStrike = if t.locked then t else t.cascade [x.input] f.toList 10 := by
  simp only [waits] at falls
  simp only [State.deferredStrike, waits, falls]

theorem State.gpioChange_new {k : Nat} {level : Bool} (new : s.ana.gpioIn.testBit k ≠ level)
    (ht : t = { s with ana := { s.ana with gpioIn := putField k k (b2n level) s.ana.gpioIn } }) :
    s.gpioChange k level =
      if (level && (t.fld .gpioCfg 5 4 k).testBit 0) || (!level && (t.fld .gpioCfg 5 4 k).testBit 1) then
        t.emit (0x1D0 + k) (t.time.now + 1) 0 else t := by
  subst ht
  exact if_neg new

/-- Out of Lockdown a pin's configuration takes its four bits as written. -/
theorem State.writeReg_gpioCfg {acc : Acc} (lo : acc ≠ .hi) (free : s.locked = false) (m k d : Nat) :
    s.writeReg m ⟨.gpioCfg, k, 0⟩ acc d = s.setRg .gpioCfg ((s.rg .gpioCfg k &&& (2 ^ 64 - 1 - 0x33)) ||| (d &&& 0x33)) k :=
  State.writeReg_rw (r := ⟨.gpioCfg, k, 0⟩) (rw := 0x33) rfl rfl ⟨nofun, nofun⟩ (and_accMask lo (d := 0x33) (by decide)) (by decide)
    free m d

/-- Settles O13: each row is the one case of its effect that its hypotheses leave. -/
theorem carillonCommandsComplete : Obligations.CarillonCommandsComplete := by
  refine ⟨?fire, ?event, ?deferred, ?edge, ?config⟩
  case fire =>
    intro s m chn free z hz g
    exact liveC_eq (f := (·.writeReg m.toNat ⟨.carFire, 0, 0⟩ .lo chn)) free.1 (State.writeReg_carFire free.2 m.toNat chn.isLt) hz g
  case event =>
    exact fun s src e run oldest z hz g => liveC_eq (f := (·.routeEvent src)) run (State.routeEvent_oldest oldest) hz g
  case deferred =>
    exact fun s t x r f run waits falls z hz g => liveC_eq (f := (·.deferredStrike)) run (State.deferredStrike_cons waits falls) hz g
  case edge =>
    exact fun s t k level run new ht => live_eq (f := (·.gpioChange k level)) run (State.gpioChange_new new ht)
  case config =>
    exact fun s m k acc data free lo => live_writeReg free.1 (State.writeReg_gpioCfg lo free.2 m.toNat k data.toNat)

/-! ### Cores (R315 to R320) -/

section

variable {core n : Nat}

section

variable (enters : (s.core core).entry = some n)
include enters

/-- At its commit point an entry whose Damper group is free is delivered (R316). -/
theorem State.commitEntry_delivers {g : Nat} {y : Stamp} (free : s.locked = false) (group : g = fieldOf 21 16 (s.srcDecided n))
    (damper : s.damperFree g = true) (stamped : s.stamp 0x63 (s.srcAfter n) = (y, t)) : s.commitEntry core =
      ((t.logClass 5 ⟨y, 0x06, core, n, 0, 0⟩).setCore core { s.core core with
        entry := none, stack := n :: (s.core core).stack, asleep := false }).damperMark g n := by
  subst group
  simp only [State.commitEntry, enters, free, damper, stamped, Bool.not_true, Bool.false_eq_true, if_false]

/-- An entry whose Damper group delivered meanwhile does not complete (R323). -/
theorem State.commitEntry_held {g : Nat} (free : s.locked = false) (group : g = fieldOf 21 16 (s.srcDecided n))
    (damper : s.damperFree g = false) : s.commitEntry core = (s.damperHold g n).setCore core { s.core core with entry := none } := by
  subst group
  simp only [State.commitEntry, enters, free, damper, Bool.not_false, Bool.false_eq_true, if_false, if_true]

theorem State.lateArrival_takes {a : Nat} (free : s.locked = false)
    (first : s.firstSrc ((s.candidates core).filter (fun a =>
      s.srcLevel a < fieldOf 3 1 (s.srcDecided n) && s.damperFree (s.fld .ircSrc 21 16 a))) = some a) :
    s.lateArrival core = s.enterSource core a := by
  simp only [State.lateArrival, enters, free, first, Bool.false_eq_true, if_false]

end

section

variable (free : s.locked = false) (idle : (s.core core).entry = none)
include free idle

/-- A core that enters nothing decides for the first candidate whose Damper group is free, and the others' groups count (R316, R323). -/
theorem State.decideEntryMc_enters {l : List Nat} (hl : l = s.candidates core)
    (ht : t = (l.filter (fun n => !s.damperFree (s.fld .ircSrc 21 16 n))).foldl (fun t n => t.damperHold (t.fld .ircSrc 21 16 n) n) s)
    (first : t.firstSrc (l.filter (fun n => t.damperFree (t.fld .ircSrc 21 16 n))) = some n) :
    s.decideEntryMc core = t.enterSource core n := by
  subst hl ht
  simp only [State.decideEntryMc, free, idle, first, Option.isSome_none, Bool.false_eq_true, or_self, if_false]

theorem State.decideEntryMc_nothing (none : s.candidates core = []) : s.decideEntryMc core = s := by
  simp [State.decideEntryMc, free, idle, none, State.firstSrc]

end

@[simp] theorem State.enterSource_entry (s : State) (core n : Nat) : ((s.enterSource core n).core core).entry = some n :=
  congrArg Core.entry (State.core_setCore s core _)

/-- A handler's return decides anew, and a core that then enters a source stays awake (R318). -/
theorem State.handlerReturns_enters (decides : s.decideEntryMc core = t.enterSource core n) :
    s.handlerReturns core = t.enterSource core n := by
  simp [State.handlerReturns, decides]

/-- A core in thread mode that has nothing to enter may sleep (R320, log entry 88). -/
theorem State.handlerReturns_sleeps (decides : s.decideEntryMc core = s) (free : s.locked = false)
    (idle : (s.core core).entry = none) (thread : (s.core core).stack = []) (calm : s.bit .carMcev core = false) :
    s.handlerReturns core = s.setCore core { s.core core with asleep := Config.mcSleeps core s.clock } := by
  simp [State.handlerReturns, decides, free, idle, thread, calm]

end

/-! ### Host vectors (R321 to R323) -/

section

variable {port v : Nat} {l : List Nat} (hl : l = (s.vecsOf port).filter (fun v => s.vecPending port v && !s.vecHeld port v))
  (ht : t = (l.filter (fun v => !s.damperFree (s.vecGrp port v))).foldl
    (fun t v => t.damperHold (t.vecGrp port v) (0x10000 + 8192 * port + v)) s)
  (first : t.firstVec port (l.filter (fun v => t.damperFree (t.vecGrp port v))) = some v)
include hl ht first

theorem State.nextMessage_sends : s.nextMessage port = t.sendMessage port v := by
  subst hl ht
  simp only [State.nextMessage, first]

end

/-- The end of a hold lets the port's next message out, where the vector is still pending (R322). -/
theorem State.holdEnds_pending {u : State} {port vec : Nat} (hu : u = s.idledNow) (pending : u.vecPending port vec = true)
    (free : u.vecHeld port vec = false) : s.holdEnds port vec = u.nextMessage port := by
  subst hu
  simp only [State.holdEnds, pending, free, Bool.not_false, Bool.and_self, if_true]

/-! ### Writes of the controller's registers (R319, R321, R324) -/

/-- Out of Lockdown a write of IRC_MC_EOI takes the source out of service. -/
theorem State.writeReg_ircMcEoi (free : s.locked = false) (m core : Nat) {src : Nat} (fits : src < 1024) :
    s.writeReg m ⟨.ircMcEoi, core, 0⟩ .lo src = s.eoi core src := by
  have covered : src &&& accMask .lo = src := and_accMask (acc := .lo) (by decide) (by omega)
  rw [State.writeReg_wo rfl (Nat.zero_and _) (Nat.zero_and _), covered, free]
  simp [State.woActs, Nat.mod_eq_of_lt fits]

/-- A write of IRC_VCOMP takes the vector out of service, in Lockdown too (R342). -/
theorem exec_ircVcomp (run : Running s) (m : BitVec 8) (port : Fin 2) (vec : Fin 8192) :
    exec (.ircVcomp m port vec) s = .next (noRewind s (s.vcomp port vec)) :=
  live_writeReg run (State.writeReg_wo (r := ⟨.ircVcomp, port, vec⟩) rfl (Nat.zero_and _) (Nat.zero_and _) s m.toNat)

/-- Each half of IRC_SRC holds RW fields. -/
theorem ircSrc_covered (acc : Acc) : 0x1FFF073FFF0F &&& accMask acc ≠ 0 := by cases acc <;> decide

/-- Out of Lockdown a write of a source's register stores the fields that it covers. -/
theorem State.writeReg_ircSrc (free : s.locked = false) (m n : Nat) (acc : Acc) (d : Nat) : s.writeReg m ⟨.ircSrc, n, 0⟩ acc d =
    s.setRg .ircSrc ((s.rg .ircSrc n &&& (2 ^ 64 - 1 - (0x1FFF073FFF0F &&& accMask acc)))
      ||| (d &&& (0x1FFF073FFF0F &&& accMask acc))) n :=
  State.writeReg_rw (r := ⟨.ircSrc, n, 0⟩) rfl rfl ⟨nofun, nofun⟩ rfl (ircSrc_covered acc) free m d

/-- A core that is entering a source comes to its commit point, any other decides (R316, log entry 18). -/
theorem exec_irqDelivery_enters {core : Fin 4} {n : Nat} (run : Running s) (enters : (s.core core).entry = some n) :
    exec (.irqDelivery core) s = .next (noRewind s (s.commitEntry core)) :=
  live_eq (f := fun s => if (s.core core).entry.isSome then s.commitEntry core else s.decideEntryMc core) run
    (if_pos (Option.isSome_of_mem enters))

theorem exec_irqDelivery_idle {core : Fin 4} (run : Running s) (idle : (s.core core).entry = none) :
    exec (.irqDelivery core) s = .next (noRewind s (s.decideEntryMc core)) :=
  live_eq (f := fun s => if (s.core core).entry.isSome then s.commitEntry core else s.decideEntryMc core) run
    (if_neg (Bool.eq_false_iff.1 (congrArg Option.isSome idle)))

/-- Settles O14: each row is the one case of its effect that its hypotheses leave. -/
theorem interruptCommandsComplete : Obligations.InterruptCommandsComplete := by
  refine ⟨?commits, ?held, ?decides, ?late, ?handsOn, ?sleeps, ?message, ?holdEnd, ?interval, ?eoi, ?vcomp, ?source⟩
  case commits =>
    intro s t core n g y free enters group damper stamped
    rw [exec_irqDelivery_enters free.1 enters, State.commitEntry_delivers enters free.2 group damper stamped]
  case held =>
    intro s core n g free enters group damper
    rw [exec_irqDelivery_enters free.1 enters, State.commitEntry_held enters free.2 group damper]
  case decides => exact fun s core free idle => exec_irqDelivery_idle free.1 idle
  case late =>
    exact fun s core n a free enters first => live_eq (f := (·.lateArrival core)) free.1 (State.lateArrival_takes enters free.2 first)
  case handsOn =>
    intro s t core l n free idle hl ht first
    have decides := State.decideEntryMc_enters free.2 idle hl ht first
    exact live_eq (f := (·.handlerReturns core)) free.1 (State.handlerReturns_enters decides)
  case sleeps =>
    intro s core free none idle thread calm
    have decides := State.decideEntryMc_nothing free.2 idle none
    exact live_eq (f := (·.handlerReturns core)) free.1 (State.handlerReturns_sleeps decides free.2 idle thread calm)
  case message =>
    exact fun s t port l v run hl ht first => live_eq (f := (·.nextMessage port)) run (State.nextMessage_sends hl ht first)
  case holdEnd =>
    intro s u t port vec l v run hu pending free hl ht first
    have sends := (State.holdEnds_pending hu pending free).trans (State.nextMessage_sends hl ht first)
    exact live_eq (f := (·.holdEnds port vec)) run sends
  case interval => exact fun s p g now hp run _ => liveAt_eq (f := (·.damperEnd g)) hp run rfl
  case eoi => exact fun s m core src free => live_writeReg free.1 (State.writeReg_ircMcEoi free.2 m.toNat core src.isLt)
  case vcomp => exact fun s m port vec run => exec_ircVcomp run m port vec
  case source => exact fun s m n acc data free => live_writeReg free.1 (State.writeReg_ircSrc free.2 m.toNat n acc data.toNat)

end Sys2Proof.Machine
end

section
/-! PROOFS. The obligations of faults and recovery (15_faults_and_recovery.md): what Lockdown holds, how it is entered, what register
writes do in it, and the commands about faults. -/

namespace Sys2Proof.Machine

variable {s t : State}

/-! ### What Lockdown holds (R308, R339 step 2) -/

/-- The rows that Lockdown holds act out of Lockdown alone; those that come at a Time let it pass. -/
theorem exec_heldInLockdown {c : Instr} (held : heldInLockdown c = true) (s : State) :
    (∃ f, exec c s = live s (unlocked f)) ∨ ∃ now f, exec c s = live s (fun s => unlocked f (s.pass now)) := by
  cases c
  case waitTimeout | holdTargetReached | commandTimeout | graceExhausted | tetherRelease | pcieCompletionTimeout
      | nvmeCompletionTimeout | joinStepTimeout | relayTimeout | repollExpiry | notBeforeReached =>
    exact .inr ⟨_, _, rfl⟩
  case commandFetch | move | xform | digest | sign | verify | fill | compare | cont | stamp | tic | branch | wait
      | signal | hold | nop | post | zeroLengthReadDone | cpWriteResponse | loopGuardExhausted | moverTaken | cryptoUnitTaken
      | p521OperationComplete | keyFillStart | keyFillComplete | keyCacheEviction | countOnlyToList | burstReadData
      | burstWriteResponse | nvme | driveCqScan | fetchGrant | tailReadReturn | headReadReturn | ringReadFail | sqeStart | sqeResume
      | sqeStop | sqeNop | dispatch | cqePost | ballastToRing | heldCqeToBallast | relSkipOn | movModeChange =>
    exact .inl ⟨_, rfl⟩
  all_goals cases held
  -- SEAL and UNSEAL remain, whose names are words of Lean.
  all_goals exact .inl ⟨_, rfl⟩

/-- At Time 0 nothing passes. -/
theorem State.pass_zero (s : State) : s.pass 0 = s := if_pos (.inl (Nat.zero_le _))

/-- In Lockdown such a row does no more than let Time pass. -/
theorem exec_locked {c : Instr} (held : heldInLockdown c = true) (run : Running s) (lock : s.locked = true) :
    ∃ now, exec c s = .next (noRewind s (s.pass now)) := by
  obtain ⟨f, e⟩ | ⟨now, f, e⟩ := exec_heldInLockdown held s
  · exact ⟨0, by rw [e, live_running run, unlocked_locked lock, State.pass_zero]⟩
  · exact ⟨now, by rw [e, live_running run, unlocked_locked ((State.pass_locked s now).trans lock)]⟩

/-- The end of a command changes of the interrupt controller no more than the vectors that a host reset left IDLE. -/
theorem noRewind_irc (s t : State) : (noRewind s t).irc = { t.irc with idled := (noRewind s t).irc.idled } := by
  obtain ⟨i, a, w, m, e⟩ := noRewind_eq s t
  rw [e]

/-- The end of a command changes of Fenuz no more than the frames that go out. -/
theorem noRewind_fenuz (s t : State) :
    (noRewind s t).fenuz = { t.fenuz with tx := (noRewind s t).fenuz.tx, txWait := (noRewind s t).fenuz.txWait } := by
  obtain ⟨i, a, w, m, e⟩ := noRewind_eq s t
  rw [e]

/-- Settles O34: in Lockdown each of the rows only lets Time pass, and neither that nor the end of a command touches anything else. -/
theorem lockdownHoldsQueuesChannelsAndMovers : Obligations.LockdownHoldsQueuesChannelsAndMovers := by
  intro c s run lock held
  obtain ⟨now, e⟩ := exec_locked held run lock
  refine ⟨_, e, ?control, ?store, ?engines, ?registers⟩
  case control => simp
  case store =>
    have irc := noRewind_irc s (s.pass now)
    rw [State.pass_irc] at irc
    exact ⟨by simp, by simp, by simp, by simp, by simp, irc, by simp⟩
  case engines =>
    have fenuz := noRewind_fenuz s (s.pass now)
    rw [State.pass_fenuz] at fenuz
    exact ⟨fenuz, by simp⟩
  case registers => exact fun k i j apart => (noRewind_rg ..).trans (State.pass_rg s now k i j apart)

/-! ### What a write in Lockdown stores (R342) -/

/-- The registers with RW fields alone that show them as they stand, and whose writes are never ignored. -/
def RegKind.storedPlain : List RegKind :=
  [.timeCtl, .timeHold, .timePps, .logBase, .logCnt, .logRd, .logTmo, .logEn, .cstFwin, .cstFthr, .cstScrub, .arbPrioSh]

theorem RegKind.storedPlain_spec : ∀ k ∈ RegKind.storedPlain,
    k.standsAlone = true ∧ k.info.w1c = 0 ∧ k.actsLocked = false ∧ k.info.rw < 2 ^ 64 := by decide

section

variable {r : Reg} (plain : r.kind ∈ RegKind.storedPlain)
include plain

theorem Reg.rwMask_storedPlain : r.rwMask = r.kind.info.rw := by
  obtain ⟨k, i, j⟩ := r
  simp only [RegKind.storedPlain, List.mem_cons, List.not_mem_nil, or_false] at plain
  rcases plain with rfl | rfl | rfl | rfl | rfl | rfl | rfl | rfl | rfl | rfl | rfl | rfl <;> rfl

theorem State.viewLive_storedPlain (s : State) : s.viewLive r = s.rg r.kind r.i r.j := by
  obtain ⟨k, i, j⟩ := r
  simp only [RegKind.storedPlain, List.mem_cons, List.not_mem_nil, or_false] at plain
  rcases plain with rfl | rfl | rfl | rfl | rfl | rfl | rfl | rfl | rfl | rfl | rfl | rfl <;> rfl

theorem State.woActs_storedPlain (s : State) (m : Nat) (acc : Acc) (d : Nat) : s.woActs m r acc d true = s := by
  obtain ⟨k, i, j⟩ := r
  simp only [RegKind.storedPlain, List.mem_cons, List.not_mem_nil, or_false] at plain
  rcases plain with rfl | rfl | rfl | rfl | rfl | rfl | rfl | rfl | rfl | rfl | rfl | rfl <;> rfl

end

/-- The bits that a mask of 64 bits leaves. -/
theorem testBit_complement {x : Nat} (fits : x < 2 ^ 64) (i : Nat) : (2 ^ 64 - 1 - x).testBit i = (decide (i < 64) && !x.testBit i) := by
  rw [Nat.sub_sub, Nat.add_comm 1, Nat.testBit_two_pow_sub_succ fits]

/-- What a register of RW bits `mask` shows after a write of its bits `rw` has been stored: the bits written, and the others as shown
before. -/
theorem stored_shown {live old d mask rw : Nat} (part : rw &&& mask = rw) (fits : mask < 2 ^ 64)
    (kept : old &&& (2 ^ 64 - 1 - mask) = live &&& (2 ^ 64 - 1 - mask)) :
    (live &&& (2 ^ 64 - 1 - mask)) ||| ((((old &&& (2 ^ 64 - 1 - rw)) ||| (d &&& rw)) &&& mask) % 2 ^ 64 &&& mask) =
      (old &&& (2 ^ 64 - 1 - rw)) ||| (d &&& rw) := by
  have partFits : rw < 2 ^ 64 := (part ▸ Nat.and_le_right).trans_lt fits
  have small : ∀ x, x &&& mask < 2 ^ 64 := fun x => Nat.and_le_right.trans_lt fits
  rw [← kept, Nat.mod_eq_of_lt (small _)]
  refine Nat.eq_of_testBit_eq fun i => ?_
  simp only [Nat.testBit_or, Nat.testBit_and, testBit_complement fits, testBit_complement partFits]
  by_cases field : mask.testBit i
  · have low : i < 64 := Nat.lt_of_not_le fun h => Nat.not_le.2 fits ((Nat.pow_le_pow_right (by decide) h).trans (Nat.ge_two_pow_of_testBit field))
    simp [field, low]
  · have other : rw.testBit i = false := by rw [← part, Nat.testBit_and]; simp [field]
    simp [field, other]

/-- A write in Lockdown of such a register stores the RW fields that it covers. -/
theorem State.writeReg_stored {r : Reg} (plain : r.kind ∈ RegKind.storedPlain) (lock : s.locked = true) (m : Nat) (acc : Acc) (d : Nat) :
    s.writeReg m r acc d = if r.kind.info.rw &&& accMask acc = 0 then s else
      { s with latent := tabSet none s.latent r.offset (some (BitVec.ofNat 64
          (((s.view r &&& (2 ^ 64 - 1 - (r.kind.info.rw &&& accMask acc))) ||| (d &&& (r.kind.info.rw &&& accMask acc)))
            &&& r.kind.info.rw))) } := by
  obtain ⟨alone, w1c, held, -⟩ := RegKind.storedPlain_spec _ plain
  have data : d &&& accMask acc &&& (r.kind.info.rw &&& accMask acc) = d &&& (r.kind.info.rw &&& accMask acc) := by
    rw [Nat.and_assoc, Nat.and_comm r.kind.info.rw, ← Nat.and_assoc (accMask acc), Nat.and_self]
  rw [State.writeReg_standsAlone alone, State.writePlain, State.ignoresWrite_standsAlone alone]
  simp only [Reg.rwMask_storedPlain plain, State.woActs_storedPlain plain, lock, w1c, held, data, Nat.zero_and, Bool.false_eq_true,
    if_false, if_true, Bool.not_false, Bool.and_self]

/-- What the RW bits of a register do not cover is shown as it stands, stored values or not. -/
theorem State.view_and_complement {r : Reg} (fits : r.rwMask < 2 ^ 64) (s : State) :
    s.view r &&& (2 ^ 64 - 1 - r.rwMask) = s.viewLive r &&& (2 ^ 64 - 1 - r.rwMask) := by
  unfold State.view
  split
  · refine Nat.eq_of_testBit_eq fun i => ?_
    simp only [Nat.testBit_or, Nat.testBit_and, testBit_complement fits]
    cases r.rwMask.testBit i <;> simp
  · rfl

/-- A register that shows its RW fields as they stand shows 64 bits. -/
theorem State.view_storedPlain_lt {r : Reg} (plain : r.kind ∈ RegKind.storedPlain) (s : State) : s.view r < 2 ^ 64 := by
  have live : s.viewLive r < 2 ^ 64 := by rw [State.viewLive_storedPlain plain]; exact s.rg_lt ..
  unfold State.view
  split
  · rename_i w _
    exact Nat.or_lt_two_pow (Nat.and_le_left.trans_lt live) (Nat.and_le_left.trans_lt w.isLt)
  · exact live

/-- Where a value is stored for such a register, its RW fields show it. -/
theorem State.view_stored {r : Reg} (plain : r.kind ∈ RegKind.storedPlain) (s : State) (w : Word) :
    State.view { s with latent := tabSet none s.latent r.offset (some w) } r =
      (s.viewLive r &&& (2 ^ 64 - 1 - r.rwMask)) ||| (w.toNat &&& r.rwMask) := by
  simp only [State.view, tabGet_tabSet_same, State.viewLive_storedPlain plain]
  rfl

/-- After a write in Lockdown such a register shows the bits written, and nothing else has changed but what is stored. -/
theorem State.writeReg_stored_spec {r : Reg} (plain : r.kind ∈ RegKind.storedPlain) (lock : s.locked = true) (m : Nat) (acc : Acc)
    (d : Nat) : ∃ l, s.writeReg m r acc d = { s with latent := l } ∧ State.view { s with latent := l } r =
      (s.view r &&& (2 ^ 64 - 1 - (r.kind.info.rw &&& accMask acc))) ||| (d &&& (r.kind.info.rw &&& accMask acc)) := by
  obtain ⟨-, -, -, fits⟩ := RegKind.storedPlain_spec _ plain
  have mask := Reg.rwMask_storedPlain plain
  rw [State.writeReg_stored plain lock]
  split
  · rename_i none
    refine ⟨s.latent, rfl, ?_⟩
    rw [none, Nat.and_zero, Nat.or_zero, Nat.sub_zero, Nat.and_two_pow_sub_one_of_lt_two_pow (s.view_storedPlain_lt plain)]
  · have part : r.kind.info.rw &&& accMask acc &&& r.kind.info.rw = r.kind.info.rw &&& accMask acc := by
      rw [Nat.and_comm, ← Nat.and_assoc, Nat.and_self]
    have kept := State.view_and_complement (mask.symm ▸ fits) s
    rw [mask] at kept
    refine ⟨_, rfl, ?_⟩
    rw [State.view_stored plain, mask, BitVec.toNat_ofNat]
    exact stored_shown part fits kept

/-- Where no access of the store has come to wait, none holds the command. -/
theorem State.orWaits_of_arb (arb : t.arb = s.arb) : s.orWaits t = t := by
  unfold State.orWaits
  split
  · rfl
  · rename_i none
    rw [arb, Option.not_isSome_iff_eq_none.1 none]

/-- In a part that runs, an effect that leaves the arbiters alone and no warm reset due ends with channels changed alone. -/
theorem liveC_chansOnly {f : State → State} (run : Running s) (e : f s = t) (arb : t.arb = s.arb) (due : t.power.warmDue = false) :
    ∃ l, liveC s f = .next (noRewind s { t with chans := l }) := by
  obtain ⟨l, follows⟩ := State.follows_chansOnly due
  refine ⟨l, ?_⟩
  rw [liveC, live_running run, e, follows, State.orWaits_of_arb (t := { t with chans := l }) arb]

/-- Such a register shows the same where registers and stored values are the same. -/
theorem State.view_storedPlain_congr {r : Reg} (plain : r.kind ∈ RegKind.storedPlain) {s t : State} (regs : t.regs = s.regs)
    (latent : t.latent = s.latent) : t.view r = s.view r := by
  simp only [State.view, State.viewLive_storedPlain plain, State.rg_congr regs, latent]

/-- Settles O35: the write is stored beside the registers, and what ends the command leaves both as they are. -/
theorem lockdownStoresRegisterWrites : Obligations.LockdownStoresRegisterWrites := by
  intro s m r acc data run lock due plain found
  obtain ⟨valid, -⟩ := regAt?_some found
  obtain ⟨aligned, below⟩ := Reg.offset_aligned valid
  obtain ⟨l, stores, shows⟩ := State.writeReg_stored_spec plain lock m.toNat acc data.toNat
  have reached : s.offsetWrite m.toNat r.offset acc data.toNat = { s with latent := l } := by
    rw [State.offsetWrite_reg below (.inl aligned) (by rwa [Nat.div_mul_cancel (Nat.dvd_of_mod_eq_zero aligned)]), stores]
  obtain ⟨c, acts⟩ := liveC_chansOnly run (f := (·.offsetWrite m.toNat r.offset acc data.toNat)) reached rfl due
  refine ⟨_, acts, ?shown, fun k i j => noRewind_rg .., noRewind_time (Nat.le_refl _), noRewind_log, noRewind_store, noRewind_arb⟩
  case shown =>
    rw [← shows]
    exact State.view_storedPlain_congr plain noRewind_regs noRewind_latent

/-! ### Entering Lockdown (R338, R339) -/

/-- A write of FORCE enters Lockdown, or counts an entry while in it, with its master as the cause's info. -/
theorem exec_gctlLockForce (run : Running s) (m : BitVec 8) :
    exec (.gctlLockForce m) s = .next (noRewind s (s.lockdown m.toNat 2 m.toNat)) :=
  live_writeReg run (State.writeReg_wo (r := ⟨.gctlLock, 0, 0⟩) rfl (Nat.zero_and _) (Nat.zero_and _) s m.toNat)

/-- After a command channels stand as it left them. -/
theorem noRewind_chan (s t : State) (n : Nat) : (noRewind s t).chan n = t.chan n := by
  rw [State.chan, noRewind_chans, State.chan]

/-- A part that runs, whose table of channels lists channel 0 twice: as IDLE, which is what it reads as, and as ACTIVE. -/
def channelTwice : State :=
  { State.reset with
    power := { State.reset.power with coldReset := false }
    chans := [(0, chan0), (0, { chan0 with phase := .active })] }

/-- The sweep of the channels' buffers goes through the whole table, so the entry that stands last is the one left. -/
theorem lockdown_channelTwice : (channelTwice.chan 0).phase = .idle ∧ ((channelTwice.lockdown 0 2 0).chan 0).phase = .active := by
  decide +kernel

/-- Refutes O53: the statement is about every state, also one whose table of channels is not canonical. Where a channel is listed twice,
what zeroises the buffers leaves the entry that was hidden behind the first, so the channel's phase does not stay: here it goes from IDLE
to ACTIVE. -/
theorem not_lockdownEntryZeroises : ¬ Obligations.LockdownEntryZeroises := by
  unfold Obligations.LockdownEntryZeroises
  intro h
  have run : Running channelTwice := rfl
  obtain ⟨t, x, next, -, -, -, -, -, -, -, -, -, -, -, -, -, chans, -⟩ := h channelTwice 0 run (by decide +kernel) rfl (by decide)
  obtain ⟨before, after⟩ := lockdown_channelTwice
  obtain rfl := Host.Outcome.next.inj ((exec_gctlLockForce run 0).symm.trans next)
  obtain ⟨phase, -⟩ := chans 0
  have stays : ((channelTwice.lockdown 0 2 0).chan 0).phase = .idle := by rw [← before, ← phase, noRewind_chan]; rfl
  exact absurd (stays.symm.trans after) (by decide)

/-! ### Commands about faults -/

/-- A write of 1 to FLT_ERR_POP takes the oldest entry (R329). -/
theorem exec_fltErrPop (run : Running s) (m : BitVec 8) : exec (.fltErrPop m) s = .next (noRewind s s.errPop) :=
  live_writeReg run (State.writeReg_wo (r := ⟨.fltErrPop, 0, 0⟩) rfl (Nat.zero_and _) (Nat.zero_and _) s m.toNat)

theorem State.staleArrives_abandoned {k idx cause : Nat} {a : Abandoned} (out : (s.stale.filter (fun a => a.link = k))[idx]? = some a) :
    s.staleArrives k idx cause =
      ({ s with stale := s.stale.erase a }).staleRecord a.domain 2 a.unit (k + cause * 2 ^ 8) a.addr := by
  simp only [State.staleArrives, out]

/-- Settles O15: each row is the one case of its effect that its hypotheses leave. -/
theorem faultCommandsComplete : Obligations.FaultCommandsComplete := by
  refine ⟨?pop, ?force, ?quiesced, ?stale, ?corrected⟩
  case pop => exact fun s m run => exec_fltErrPop run m
  case force => exact fun s m run => exec_gctlLockForce run m
  case quiesced => exact fun s run entering => live_eq (f := (·.lockQuiesced)) run (if_pos entering)
  case stale =>
    exact fun s k idx cause a run out => live_eq (f := (·.staleArrives k idx cause.toNat)) run (State.staleArrives_abandoned out)
  case corrected =>
    intro s p k kind now hp run some fits z hz g
    have nonzero : kind.val ≠ 0 := fun zero => some (Fin.ext zero)
    exact liveCAt_eq (f := fun s => if kind.val ≠ 0 ∧ (kind.val = 6 ↔ 10 ≤ k.val) then s.linkCeEvent k kind else s) hp run
      (if_pos ⟨nonzero, fits⟩) hz g

end Sys2Proof.Machine
end

section
/-! PROOFS. The obligations of Fenuz (16_fenuz_federation.md): the layout of a frame, and the commands of the federation complete. -/

namespace Sys2Proof.Machine

variable {s t : State}

/-! ### A frame's client data (R346) -/

/-- Bytes that stand behind others are those at an earlier place of what follows. -/
theorem bytesAt_append_of_le {a b : List Byte} {off : Nat} (n : Nat) (behind : a.length ≤ off) :
    bytesAt (a ++ b) off n = bytesAt b (off - a.length) n := by
  rw [bytesAt, List.drop_append, List.drop_eq_nil_of_le behind, List.nil_append, bytesAt]

theorem bytesAt_natLe_append (n v : Nat) (b : List Byte) : bytesAt (natLe n v ++ b) 0 n = v % 2 ^ (8 * n) := by
  rw [bytesAt, List.drop_zero, List.take_left' (length_natLe n v), leNat_natLe]

/-- What the model reads from the words of a header. -/
theorem headerOf_words (w len xid src dst fleet : Nat) (body : List Byte) :
    headerOf (natLe 4 w ++ natLe 2 len ++ natLe 2 xid ++ natLe 4 src ++ natLe 4 dst ++ natLe 8 fleet ++ body) =
      ⟨w % 2 ^ 32 % 16, fieldOf 7 4 (w % 2 ^ 32), fieldOf 15 8 (w % 2 ^ 32), fieldOf 23 16 (w % 2 ^ 32), len % 2 ^ 16, xid % 2 ^ 16,
        src % 2 ^ 32 % 2 ^ 18, dst % 2 ^ 32 % 2 ^ 18, fleet % 2 ^ 64⟩ := by
  simp only [headerOf, List.append_assoc]
  simp [bytesAt_append_of_le, bytesAt_natLe_append]

theorem length_frameBytes (kind sub ttl xid src dst fleet : Nat) (body : List Byte) :
    (frameBytes kind sub ttl xid src dst fleet body).length = 24 + body.length := by
  simp only [frameBytes, List.length_append, length_natLe]

/-- Settles O58: each field is what stands between its bits of its word, and the body follows the 24 bytes of the header. -/
theorem fenuzFramesKeepTheirFields : Obligations.FenuzFramesKeepTheirFields := by
  intro kind sub ttl xid src dst fleet body hkind hsub httl hxid hsrc hdst hfleet hlen
  have header : headerOf (frameBytes kind sub ttl xid src dst fleet body) = ⟨1, kind, sub, ttl, body.length, xid, src, dst, fleet⟩ := by
    rw [frameBytes, headerOf_words]
    simp only [fieldOf, Header.mk.injEq]
    omega
  have behind : (frameBytes kind sub ttl xid src dst fleet body).drop 24 = body := List.drop_left' (by simp)
  exact ⟨header, by rw [frameBody, header, behind, List.take_length], length_frameBytes ..⟩

/-! ### Frames that are for the part (R343, R347 to R350) -/

/-- A frame of its row that the part hears has the row's effect on its header and body. -/
theorem State.fnzRow_hears {p kind sub : Nat} {f : Frame} (hears : s.hears p f kind sub) (act : Header → List Byte → State → State) :
    s.fnzRow p f kind sub act = act (headerOf f.bytes) (frameBody f.bytes) s := by
  obtain ⟨up, good, fleet, lock, own, hkind, hsub, hdst, snima⟩ := hears
  have acts : (headerOf f.bytes).kind = kind ∧ (headerOf f.bytes).sub = sub ∧ (kind = 1 ∨ isRelayReply kind sub ∨ s.snimaUp) :=
    ⟨hkind, hsub, snima.imp_right .inr⟩
  have heeds : (s.locked && decide ((headerOf f.bytes).kind ≠ 1)) = false := by
    rw [hkind]
    rcases lock with free | time
    · rw [free, Bool.false_and]
    · simp [time]
  rw [State.fnzRow, State.fnzReceive]
  simp only [up, good, fleet, heeds, own, Bool.not_true, Bool.or_self, Bool.false_eq_true, if_false]
  by_cases announce : kind = 1 ∧ sub = 3
  · rw [if_pos announce] at hdst
    obtain ⟨rfl, rfl⟩ := announce
    simp [hdst, hkind, hsub]
  · rw [if_neg announce] at hdst
    simp only [hdst, if_pos acts]
    simp [hkind, hsub, announce]

/-- A row's frame that the part hears has its effect. -/
theorem live_hears {p kind sub : Nat} {f : Frame} {act : Header → List Byte → State → State} (run : Running s)
    (hears : s.hears p f kind sub) (e : act (headerOf f.bytes) (frameBody f.bytes) s = t) :
    live s (·.fnzRow p f kind sub act) = .next (noRewind s t) :=
  live_eq run ((State.fnzRow_hears hears act).trans e)

theorem liveAt_hears {u : State} {p kind sub now : Nat} {f : Frame} {act : Header → List Byte → State → State} (hu : u = s.pass now)
    (run : Running s) (hears : u.hears p f kind sub) (e : act (headerOf f.bytes) (frameBody f.bytes) u = t) :
    liveAt s now (·.fnzRow p f kind sub act) = .next (noRewind s t) :=
  liveAt_eq hu run ((State.fnzRow_hears hears act).trans e)

theorem liveM_hears {z : State} {p kind sub : Nat} {f : Frame} {act : Header → List Byte → State → State} (run : Running s)
    (hears : s.hears p f kind sub) (hz : z = act (headerOf f.bytes) (frameBody f.bytes) s) (g : s.granted z = true) :
    liveM s (·.fnzRow p f kind sub act) = .next (noRewind s z) :=
  liveM_eq run ((State.fnzRow_hears hears act).trans hz.symm) g

/-! ### Periods, silences and time-outs (R350, R351, R355, R359) -/

/-- A child whose exchange is due begins it, with an identifier of its own. -/
theorem State.syncStarts_due {xid : Nat} (member : s.vault.member = true) (child : s.fld .fnzStat 33 32 ≠ 0)
    (due : ∀ l, s.fenuz.lastSync = some l → usPassed l s.clock syncUs = true) (free : s.measuring (s.fld .fnzStat 33 32 - 1) = false)
    (numbered : s.newXid = (xid, t)) : s.syncStarts =
      (({ t with fenuz := { t.fenuz with
        lastSync := some t.clock, exch := some (t.time.now + t.txDelay (s.fld .fnzStat 33 32 - 1), xid) } }).fnzSend
        (s.fld .fnzStat 33 32 - 1) 1 1 xid (t.fld .fnzStat 53 36) (natLe 4 t.alignNow ++ natLe 4 t.subtreeAlign)) := by
  rw [State.syncStarts]
  dsimp only
  rw [if_pos ?begins, numbered]
  rfl
  case begins =>
    cases last : s.fenuz.lastSync with
    | none => simp [member, child, free]
    | some l => simp [member, child, free, due l last]

theorem State.parentLoss_silent (member : s.vault.member = true) (child : s.fld .fnzStat 33 32 ≠ 0) (silent : s.fenuz.heard = []) :
    s.parentLoss = s.loseParent := by
  simp [State.parentLoss, member, child, silent]

/-- A part that may be grandmaster and hears of no better one becomes it. -/
theorem State.gmSilence_best (member : s.vault.member = true) (able : s.fnzPrio ≠ 0xFF)
    (best : s.fenuz.gms.any (fun e => !usPassed e.2.2 s.clock heardUs && e.2.1 ≠ s.vault.node
      && betterGm e.1 e.2.1 s.fnzPrio s.vault.node) = false) : s.gmSilence = s.becomeGm := by
  simp only [State.gmSilence, best]
  simp [member, able]

/-- A joiner whose next step has not come for 1 s gives up; late joins at a sponsor end as well. -/
theorem State.joinTimeout_late {j : Join}
    (ht : t = { s with fenuz := { s.fenuz with sponsoring := s.fenuz.sponsoring.filter (fun j => !usPassed j.at_ s.clock 1000000) } })
    (joins : t.fenuz.join = some j) (late : usPassed j.at_ s.clock 1000000 = true) : s.joinTimeout = t.joinFails j.chan snNotFound := by
  subst ht
  simp only at joins
  simp only [State.joinTimeout, joins, late, if_true]

theorem State.relayExpires_oldest {xid : Nat} {r : Relay}
    (oldest : s.fenuz.relays.find? (fun r => r.xid = xid && !r.dead && usPassed r.at_ s.clock 1000000) = some r) :
    s.relayExpires xid =
      ({ s with fenuz := { s.fenuz with relays := s.fenuz.relays.map (fun x => if x = r then { x with dead := true } else x) } }).finish
        r.chan (ansErr snNotFound) := by
  simp only [State.relayExpires, oldest]

/-! ### Relays and frames that are passed on (R348, R349, R358) -/

theorem State.attRequested_ready {p : Nat} {h : Header} {b r : List Byte} (ready : s.signReady = true) (signed : s.report b = (r, t)) :
    s.attRequested p h b = t.fnzSend p 2 6 h.xid h.src (b ++ r) := by
  simp only [State.attRequested, ready, signed, if_true]

/-- A good frame that is not for the part goes on with its TTL lowered (R349). -/
theorem State.fnzReceive_forwards {p : Nat} {f : Frame} {h : Header} (head : h = headerOf f.bytes) (up : s.bit .fnzPort 0 p = true)
    (good : frameGood f = true) (fleet : s.fleetFits h = true) (free : s.locked = false)
    (own : (s.vault.member && h.src = s.vault.node) = false) (other : h.kind ≠ 1) (far : h.dst ≠ s.fnzNode) (lives : 1 < h.ttl)
    (act : Header → List Byte → State → State) : s.fnzReceive p f act =
      s.fnzPut (1 - p) (etherFrame (unicastAddr h.dst) (unicastAddr h.src) (f.bytes.take 2 ++ natLe 1 (h.ttl - 1) ++ f.bytes.drop 3)) := by
  subst head
  rw [State.fnzReceive]
  simp only [up, good, fleet, free, own, Bool.not_true, Bool.false_and, Bool.or_self, Bool.false_eq_true, if_false]
  simp [other, far, State.fnzForward, lives]

/-- The row that may carry a join's step keeps of its effect a Time that went back too (R353). -/
theorem exec_syncRsp {p : Fin 2} {f : Frame} {t4 : ExchangeEnd} (run : Running s) : exec (.syncRsp p f t4) s =
    .next (aside s ((s.pass t4.time).fnzRow p f 1 2 (fun h b t => t.syncAnswered p t4.time t4.across h b)).afterwards) :=
  congrArg Host.Outcome.next (if_neg (Bool.eq_false_iff.1 run))

/-- Settles O20: each row is the one case of its effect that its hypotheses leave. -/
theorem fenuzCommandsComplete : Obligations.FenuzCommandsComplete := by
  refine ⟨?syncReq, ?syncRsp, ?announce, ?announcePeriod, ?syncPeriod, ?parentLoss, ?gmSilence, ?hello, ?challenge, ?proof, ?grant,
    ?joinTimeout, ?admission, ?attReq, ?attRsp, ?mbxReq, ?mbxRsp, ?record, ?recordAck, ?relayTimeout, ?forward, ?loopback⟩
  case syncReq => exact fun s p port f t2 t3 hp run hears => liveAt_hears hp run hears rfl
  case syncRsp =>
    rintro s p port f t4 across rfl run hears
    rw [exec_syncRsp run, State.fnzRow_hears hears]
  case announce => exact fun s p port f now hp run hears => liveAt_hears hp run hears rfl
  case announcePeriod => exact fun s p now hp run => liveAt_eq (f := (·.announces)) hp run rfl
  case syncPeriod =>
    intro s p t now xid hp run member child due free numbered
    exact liveAt_eq (f := (·.syncStarts)) hp run (State.syncStarts_due member child due free numbered)
  case parentLoss =>
    intro s p now hp run member child silent
    exact liveAt_eq (f := (·.parentLoss)) hp run (State.parentLoss_silent member child silent)
  case gmSilence =>
    exact fun s p now hp run member able best => liveAt_eq (f := (·.gmSilence)) hp run (State.gmSilence_best member able best)
  case hello => exact fun s port f run hears => live_hears run hears rfl
  case challenge => exact fun s port f run hears => live_hears run hears rfl
  case proof => exact fun s port f run hears => live_hears run hears rfl
  case grant => exact fun s port f run hears => live_hears run hears rfl
  case joinTimeout =>
    intro s p t now j hp free ht joins late
    exact liveAt_unlocked_eq (f := (·.joinTimeout)) hp free (State.joinTimeout_late ht joins late)
  case admission => exact fun s p node now hp run => liveAt_eq (f := (·.admissionLapses node.toNat)) hp run rfl
  case attReq => exact fun s t port f r run hears ready signed => live_hears run hears (State.attRequested_ready ready signed)
  case attRsp => exact fun s port f run hears z hz g => liveM_hears run hears hz g
  case mbxReq =>
    rintro s port f h c run hears rfl rfl channel
    exact live_hears run hears (if_pos channel)
  case mbxRsp => exact fun s port f run hears => live_hears run hears rfl
  case record => exact fun s port f run hears z hz g => liveM_hears run hears hz g
  case recordAck => exact fun s port f run hears => live_hears run hears rfl
  case relayTimeout =>
    intro s p xid now r hp free oldest
    exact liveAt_unlocked_eq (f := (·.relayExpires xid.toNat)) hp free (State.relayExpires_oldest oldest)
  case forward =>
    intro s port f h run head up good fleet free own other far lives
    exact live_eq (f := (·.fnzReceive port f (fun _ _ t => t))) run
      (State.fnzReceive_forwards head up good fleet free own other far lives _)
  case loopback =>
    exact fun s p port m hp run due => liveAt_eq (f := (·.loopbackRuns port m)) hp run (if_pos due)

end Sys2Proof.Machine
end

section
/-! PROOFS. The obligations of power and reset (18_power_reset_pacing.md) and of the analogue core, the vault and the sideband
(19_analogue_core_tamper_vault.md, 20_electrical_and_package.md): steps, resets, and the commands that sense. -/

namespace Sys2Proof.Machine

variable {s t : State}

/-! ### Steps -/

/-- Settles O27: a queue with a command at its front is the case of `step` that runs it. -/
theorem stepRunsTheFrontCommand : Obligations.StepRunsTheFrontCommand :=
  fun c rest _ => ⟨step_cons c rest, rfl⟩

/-- A pin's level changes, and what follows of it in a part that runs, without a change of the queue. -/
theorem live_pending {u : State} (queue : u.pending = s.pending) (f : State → State) :
    ∃ t, live u f = .next t ∧ t.pending = s.pending := by
  obtain ⟨t, e, pending, -⟩ := live_spec u f
  exact ⟨t, e, pending.trans queue⟩

/-- The rows that act in cold reset keep the queue. -/
theorem exec_actsInColdReset_pending {c : Instr} (acts : actsInColdReset c = true) (s : State) :
    ∃ t, exec c s = .next t ∧ t.pending = s.pending := by
  cases c
  case railsUp | sysRstAssert | supervisorTrip | vaonReturn => exact ⟨_, rfl, aside_pending ..⟩
  case sysRstRelease | vaonLost | sidebandRead | bypass | idcode | samplePreload | extest | extestPulse | extestTrain | highz | clamp
      | tamperDetectStandby | tamperSeen =>
    exact ⟨_, rfl, noRewind_pending⟩
  case hostPerstAssert port =>
    change ∃ t, execHostPerstAssert port s = .next t ∧ _
    rw [execHostPerstAssert, liveC]
    exact live_pending rfl _
  case hostPerstDeassert port =>
    change ∃ t, execHostPerstDeassert port s = .next t ∧ _
    rw [execHostPerstDeassert]
    exact live_pending rfl _
  case presenceDetectChange k present =>
    change ∃ t, execPresenceDetectChange k present s = .next t ∧ _
    rw [execPresenceDetectChange, liveC]
    exact live_pending rfl _
  all_goals cases acts

/-- The row that may carry a join's step, in cold reset and out of it. -/
theorem exec_syncRsp_cases (p : Fin 2) (f : Frame) (t4 : ExchangeEnd) (s : State) : ∃ u, exec (.syncRsp p f t4) s =
    .next (if s.power.coldReset then s else aside s u) :=
  ⟨_, rfl⟩

/-- Of the rows that may set Time back only a SYNC_RSP needs a part out of cold reset. -/
theorem eq_syncRsp_of_setsTimeBack {c : Instr} (back : setsTimeBack c = true) (held : actsInColdReset c = false) :
    ∃ p f t4, c = .syncRsp p f t4 := by
  cases c
  case syncRsp p f t4 => exact ⟨p, f, t4, rfl⟩
  case railsUp | vaonReturn | sysRstAssert | supervisorTrip => cases held
  all_goals cases back

/-- Every command answers a next state with the same queue. -/
theorem exec_next_pending (c : Instr) (s : State) : ∃ t, exec c s = .next t ∧ t.pending = s.pending := by
  cases acts : actsInColdReset c with
  | true => exact exec_actsInColdReset_pending acts s
  | false =>
    cases back : setsTimeBack c with
    | true =>
      obtain ⟨p, f, t4, rfl⟩ := eq_syncRsp_of_setsTimeBack back acts
      obtain ⟨u, e⟩ := exec_syncRsp_cases p f t4 s
      exact ⟨_, e, by split <;> rfl⟩
    | false =>
      obtain ⟨f, e⟩ := exec_live c s acts back
      exact e ▸ live_pending rfl f

/-- Settles O28: a step is its command, which answers a next state and keeps the queue's rest. -/
theorem everyStepTakesOneCommand : Obligations.EveryStepTakesOneCommand := by
  refine ⟨fun s => ?_, fun s idle => step_nil idle⟩
  cases queue : s.pending with
  | nil => exact ⟨s, step_nil queue, queue⟩
  | cons c rest =>
    obtain ⟨t, e, pending⟩ := exec_next_pending c { s with pending := rest }
    exact ⟨t, (step_cons c rest queue).trans e, pending⟩

/-- Settles O33: a row that does not act in cold reset goes through `live`, or is a SYNC_RSP. -/
theorem coldResetHoldsEveryCommand : Obligations.ColdResetHoldsEveryCommand := by
  intro c s reset held
  cases back : setsTimeBack c with
  | true =>
    obtain ⟨p, f, t4, rfl⟩ := eq_syncRsp_of_setsTimeBack back held
    obtain ⟨u, e⟩ := exec_syncRsp_cases p f t4 s
    rw [e, if_pos reset]
  | false =>
    obtain ⟨f, e⟩ := exec_live c s held back
    rw [e, live_reset reset]

/-! ### What reset leaves -/

theorem State.rg_reset (k : RegKind) (i j : Nat) : State.reset.rg k i j = Reg.reset ⟨k, i, j⟩ % 2 ^ 64 :=
  BitVec.toNat_ofNat ..

/-- Every epoch is 1 after reset (R68). -/
theorem State.epoch_reset (c : Nat) (out : Bool) : State.reset.epoch c out = 1 := by
  have both : State.reset.rg .mbxEpoch c = 0x100000001 := State.rg_reset .mbxEpoch c 0
  cases out <;> simp only [State.epoch, State.fld, both, fieldOf] <;> rfl

theorem prioReset_lt (n : Nat) : prioReset n < 2 ^ 64 := by
  unfold prioReset
  split_ifs <;> decide

/-- Settles O48: the register table and the memories are empty after reset, so each place reads as its reset value. -/
theorem resetValuesOfRegisters : Obligations.ResetValuesOfRegisters := by
  refine ⟨?empty, fun a => rfl, rfl, State.rg_reset, ?columns, ?mailboxes, ?priorities, fun c => rfl⟩
  case empty => exact ⟨rfl, rfl, rfl, rfl, rfl, rfl, rfl, rfl, rfl, rfl, rfl⟩
  case columns => decide
  case mailboxes => exact fun c => ⟨rfl, State.epoch_reset c false, State.epoch_reset c true⟩
  case priorities =>
    have fits (n : Nat) : prioReset n % 2 ^ 64 = prioReset n := Nat.mod_eq_of_lt (prioReset_lt n)
    exact fun n => ⟨(State.rg_reset .arbPrio n 0).trans (fits n), (State.rg_reset .arbPrioSh n 0).trans (fits n)⟩

end Sys2Proof.Machine
end

section
/-! PROOFS. The obligations of the sideband and the TAP (20_electrical_and_package.md), and of sensors, converters, the vault and the
tamper inputs (19_analogue_core_tamper_vault.md): their commands complete. -/

namespace Sys2Proof.Machine

variable {s t : State}

/-! ### The sideband and the TAP (R425 to R427) -/

/-- What the sideband target answers changes no more than its own answers. -/
theorem exec_sidebandRead {written : List Byte} {x : Sideband}
    (answers : (match written with | [cmd] => s.sidebandAnswer cmd.toNat | _ => { s.side with acked := false }) = x) :
    exec (.sidebandRead written) s = .next (noRewind s { s with side := x }) := by
  subst answers
  rfl

/-- In cold reset the sideband target acknowledges nothing. -/
theorem State.sidebandAnswer_reset (reset : s.power.coldReset = true) (cmd : Nat) :
    s.sidebandAnswer cmd = { s.side with acked := false } := by
  simp only [State.sidebandAnswer, reset, if_true]

/-- An instruction that leaves the pins to the part is taken as it is. -/
theorem State.tapLoads_part {i : TapInstr} (supplied : s.power.state = .run) (part : i.drives = .part) : s.tapLoads i =
    { s with side := { s.side with
      tap := i, pins := .part
      captured := if i = .idcode then idcodeWord else if i = .samplePreload then s.side.captured else 0 } } := by
  simp [State.tapLoads, supplied, part]

/-- An instruction that drives the pins does so while SYS_RST_N is low, and acts as BYPASS where it is high. -/
theorem State.tapLoads_drives {i : TapInstr} {d : PinDrive} (supplied : s.power.state = .run) (drives : i.drives = d)
    (notPart : d ≠ .part) : s.tapLoads i =
    { s with side := { s.side with
      tap := if s.power.rstLow then i else .bypass, captured := 0, pins := if s.power.rstLow then d else .part } } := by
  subst drives
  have other : i ≠ .idcode ∧ i ≠ .samplePreload := by
    constructor <;> rintro rfl <;> exact notPart rfl
  cases low : s.power.rstLow with
  | true => simp [State.tapLoads, supplied, low, other]
  | false => simp [State.tapLoads, supplied, low, notPart, show TapInstr.bypass.drives = .part from rfl]

theorem tap_eq {i : TapInstr} (e : s.tapLoads i = t) :
    (Host.Outcome.next (noRewind s (s.tapLoads i)) : Result) = .next (noRewind s t) := by
  rw [e]

/-- Settles O19: an instruction leaves the pins to the part or drives them, and the sideband answers one byte alone. -/
theorem sidebandAndTapCommandsComplete : Obligations.SidebandAndTapCommandsComplete := by
  refine ⟨?refused, ?answered, ?bypass, ?idcode, ?sample, ?extest, ?pulse, ?train, ?highz, ?clamp⟩
  case refused =>
    intro s written none
    refine exec_sidebandRead ?_
    split
    · exact State.sidebandAnswer_reset (none.resolve_left (not_not.2 rfl)) _
    · rfl
  case answered => exact fun s cmd _ => exec_sidebandRead rfl
  case bypass | idcode => exact fun s supplied => tap_eq (State.tapLoads_part supplied rfl)
  case sample =>
    intro s pins supplied
    change execSamplePreload pins s = _
    rw [execSamplePreload, State.tapLoads_part supplied rfl, if_pos supplied]
    rfl
  case extest | pulse | train | highz | clamp => exact fun s supplied => tap_eq (State.tapLoads_drives supplied rfl nofun)

/-! ### Tamper inputs (R406 to R411) -/

/-- A TAMPER_IN input senses the level that now stands at it. -/
theorem State.senses_pin {src : Nat} (input : src < 4) (l : PinLevel)
    (ht : t = { s with ana := { s.ana with tamperIn := tabSet .open_ s.ana.tamperIn src l } }) :
    s.senses src (.pin l) =
      (t.pinActive t.vault.armWord src, if t.pinActive t.vault.armWord src then t else t.setDetecting src false) := by
  subst ht
  exact if_pos input

section

variable {src : Fin 10} {sense : TamperSense}

/-- An armed source that detects acts in RUN (R408). -/
theorem exec_tamperDetect (run : Running s) (armed : s.armed src = true) (detects : s.senses src sense = (true, t)) :
    exec (.tamperDetect src sense) s = .next (noRewind s (t.tamperRuns src (senseArg sense))) := by
  change execTamperDetect src sense s = _
  rw [execTamperDetect, live_running run, if_pos armed, detects]
  rfl

/-- An armed source that detects in cold reset, where it works there, erases the root keys (R410). -/
theorem exec_tamperDetectStandby (reset : s.power.coldReset = true) (vaon : s.power.vaon = true) (works : bothStates src = true)
    (armed : s.armed src = true) (detects : s.senses src sense = (true, t)) : exec (.tamperDetectStandby src sense) s =
      .next (noRewind s ((t.setDetecting src true).tamperErase src (senseArg sense) s.time.now false)) := by
  change execTamperDetectStandby src sense s = _
  rw [execTamperDetectStandby, if_pos ⟨reset, vaon, works, armed⟩, detects]
  rfl

/-- While VAON is there a sense that is seen shows, unless it is none (R406, R407). -/
theorem exec_tamperSeen {on : Bool} (vaon : s.power.vaon = true) (senses : s.senses src sense = (on, t)) :
    exec (.tamperSeen src (some sense)) s = .next (noRewind s (if on then t.tamperShows src else t)) := by
  change execTamperSeen src (some sense) s = _
  rw [execTamperSeen, if_neg (by rw [vaon]; exact Bool.noConfusion)]
  simp only [senses]

theorem exec_tamperSeen_none (vaon : s.power.vaon = true) (noInput : 4 ≤ src.val) :
    exec (.tamperSeen src none) s = .next (noRewind s (s.setDetecting src false)) := by
  change execTamperSeen src none s = _
  rw [execTamperSeen, if_neg (by rw [vaon]; exact Bool.noConfusion)]
  simp only [noInput, if_true]

end

/-! ### Sensors and the vault's scrub (R399, R405, R413) -/

/-- Settles O18: each row is the one case of its effect that its hypotheses leave. -/
theorem analogueCommandsComplete : Obligations.AnalogueCommandsComplete := by
  refine ⟨?pace, ?temperature, ?voltage, ?lane, ?converter, ?scrub, ?detect, ?standby, ?shows, ?gone, ?ends, ?level⟩
  case pace =>
    rintro s p readings now rfl run
    change execPaceRefresh readings now s = _
    rw [execPaceRefresh, liveAt_running run]
  case temperature =>
    rintro s p readings now rfl run
    change execTempSensorRefresh readings now s = _
    rw [execTempSensorRefresh, liveAt_running run]
  case voltage =>
    rintro s p t readings now rfl run rfl
    change execVoltSensorRefresh readings now s = _
    rw [execVoltSensorRefresh, liveAt_running run, State.voltReadings]
  case lane =>
    rintro s p t lane adapted now rfl run rfl
    change execLanePathSwap lane adapted now s = _
    rw [execLanePathSwap, liveAt_running run]
  case converter =>
    rintro s p d now r rfl run rfl
    change execTdcRoleSwap d now s = _
    rw [execTdcRoleSwap, liveAt_running run]
  case scrub =>
    rintro s p t corrected uncorrectable l now rfl run due rfl rfl
    change execVaultScrub corrected uncorrectable now s = _
    rw [execVaultScrub, liveAt_running run, if_pos due]
  case detect => exact fun s t src sense run armed detects => exec_tamperDetect run armed detects
  case standby =>
    exact fun s t src sense reset vaon works armed detects => exec_tamperDetectStandby reset vaon works armed detects
  case shows =>
    intro s t src sense vaon senses
    rw [exec_tamperSeen vaon senses, if_pos rfl]
  case gone =>
    intro s t src sense vaon senses
    rw [exec_tamperSeen vaon senses, if_neg Bool.false_ne_true]
  case ends => exact fun s src vaon noInput => exec_tamperSeen_none vaon noInput
  case level => exact fun s src l => State.senses_pin src.isLt l rfl

end Sys2Proof.Machine
end

section
/-! PROOFS. The obligation of the cold reset's table (18_power_reset_pacing.md, R388): what a cold reset keeps and what it loads. -/

namespace Sys2Proof.Machine

variable {s t u : State}

/-! ### What a cold reset loads (R388) -/

/-- What the levels of pins change: registers of the link blocks alone, which lie from 0x3000000 on. -/
def LevelsShown (s t : State) : Prop :=
  ∃ r, t = { s with regs := r } ∧ ∀ k i j, Reg.offset ⟨k, i, j⟩ < 0x3000000 → t.rg k i j = s.rg k i j

theorem LevelsShown.refl (s : State) : LevelsShown s s := ⟨_, rfl, fun _ _ _ _ => rfl⟩

theorem LevelsShown.trans (h : LevelsShown s t) (h' : LevelsShown t u) : LevelsShown s u := by
  obtain ⟨_, rfl, low⟩ := h
  obtain ⟨_, rfl, low'⟩ := h'
  exact ⟨_, rfl, fun k i j below => (low' k i j below).trans (low k i j below)⟩

theorem linkBase_ge (k : Nat) : 0x3000000 ≤ linkBase k := by
  unfold linkBase
  split <;> omega

theorem State.setBit_lnkStat_shown (b : Nat) (v : Bool) (k : Nat) : LevelsShown s (s.setBit .lnkStat b v k) := by
  refine ⟨_, rfl, fun k' i j below => State.rg_setRg_ne _ _ _ _ _ _ _ _ ?_⟩
  have block : Reg.offset ⟨.lnkStat, k, 0⟩ = linkBase k + RegKind.lnkStat.info.base := Reg.offset_link rfl
  have := linkBase_ge k
  omega

theorem State.pinLevels_shown : LevelsShown s s.pinLevels := by
  refine (foldl_changes LevelsShown.refl LevelsShown.trans ?_ _ _).trans (foldl_changes LevelsShown.refl LevelsShown.trans ?_ _ _)
  · intro t k
    split
    · exact State.setBit_lnkStat_shown _ _ _
    · exact LevelsShown.refl t
  · exact fun t p => State.setBit_lnkStat_shown _ _ _

theorem State.rg_pinLevels {k : RegKind} {i j : Nat} (below : Reg.offset ⟨k, i, j⟩ < 0x3000000) :
    s.pinLevels.rg k i j = s.rg k i j := by
  obtain ⟨_, -, low⟩ := State.pinLevels_shown (s := s)
  exact low k i j below

/-- The registers that a cold reset does not leave as after reset: GCTL_RST, PWR_AON, and three of the time core. -/
def resetNotes : List RegKind := [.gctlRst, .pwrAon, .timeCtl, .timeStat, .timeUnc]

/-- Below the link blocks every other register reads as after reset. -/
theorem State.coldHeld_rg {last rail off : Nat} {k : RegKind} {i j : Nat} (below : Reg.offset ⟨k, i, j⟩ < 0x3000000)
    (other : ∀ k' ∈ resetNotes, Reg.offset ⟨k, i, j⟩ ≠ Reg.offset ⟨k', 0, 0⟩) :
    (s.coldHeld last rail off).rg k i j = State.reset.rg k i j := by
  have kept (t : State) {k' : RegKind} (hi lo v : Nat) (noted : k' ∈ resetNotes) : (t.setFld k' hi lo v).rg k i j = t.rg k i j :=
    State.rg_setRg_ne _ _ _ _ _ _ _ _ (other k' noted)
  simp only [State.coldHeld]
  rw [State.rg_pinLevels below, kept _ _ _ _ (by decide), kept _ _ _ _ (by decide), kept _ _ _ _ (by decide), State.setBit, kept _ _ _ _ (by decide),
    kept _ _ _ _ (by decide), kept _ _ _ _ (by decide)]
  rfl

/-- GCTL_RST tells which reset the last one was. -/
theorem State.coldHeld_lastReset {last rail off : Nat} : (s.coldHeld last rail off).fld .gctlRst 11 8 = last % 16 := by
  simp only [State.coldHeld]
  have kept (t : State) {k : RegKind} (hi lo v : Nat) (other : Reg.offset ⟨.gctlRst, 0, 0⟩ ≠ Reg.offset ⟨k, 0, 0⟩) :
      (t.setFld k hi lo v).fld .gctlRst 11 8 = t.fld .gctlRst 11 8 :=
    congrArg (fieldOf 11 8) (State.rg_setRg_ne _ _ _ _ _ _ _ _ other)
  have levels (t : State) : t.pinLevels.fld .gctlRst 11 8 = t.fld .gctlRst 11 8 :=
    congrArg (fieldOf 11 8) (State.rg_pinLevels (by decide))
  rw [levels, kept _ _ _ _ (by decide), kept _ _ _ _ (by decide), kept _ _ _ _ (by decide), State.setBit, kept _ _ _ _ (by decide),
    State.fld_setFld_below _ _ _ _ (by decide) (by decide) (by decide) (by decide),
    State.fld_setFld _ _ _ _ (by decide) (by decide)]
  rfl

theorem State.timeUnkept_vaon (vaon : s.power.vaon = true) : s.timeUnkept = s := if_pos vaon

/-- SYS_RST_N asserted in a part that runs. -/
theorem exec_sysRstAssert (run : Running s) : exec .sysRstAssert s = .next (aside s
    { s.coldHeld 2 0 0 with power := { (s.coldHeld 2 0 0).power with rstLow := true } }) := by
  change execSysRstAssert s = _
  rw [execSysRstAssert, State.rstAssert, if_neg (by rw [run]; exact Bool.false_ne_true)]

/-- What a cold reset leaves of the state beside its registers, while VAON keeps Time. -/
theorem State.coldHeld_loads {last rail off : Nat} (vaon : s.power.vaon = true) (ht : t = s.coldHeld last rail off) :
    t.power.coldReset = true ∧
    (t.vault = s.vault ∧ t.flash = s.flash ∧ t.ext = s.ext ∧ t.time.now = s.time.now ∧ t.pending = s.pending) ∧
    (t.mbx = [] ∧ t.sqs = [] ∧ t.cqs = [] ∧ t.chans = [] ∧ t.movers = [] ∧ t.drives = [] ∧ t.errFifo = [] ∧ t.latent = []) ∧
    (t.crypto.cache = [] ∧ t.crypto.listed = [] ∧ t.crypto.fills = [] ∧ t.log.fifo = [] ∧ t.time.seqs = [] ∧ t.events = []) ∧
    t.snima.layout = layout0 := by
  simp only [State.coldHeld, State.timeUnkept_vaon vaon] at ht
  obtain ⟨r, levels, -⟩ := State.pinLevels_shown (s := _)
  rw [levels] at ht
  subst ht
  exact ⟨rfl, ⟨rfl, rfl, rfl, rfl, rfl⟩, ⟨rfl, rfl, rfl, rfl, rfl, rfl, rfl, rfl⟩, ⟨rfl, rfl, rfl, rfl, rfl, rfl⟩, rfl⟩

/-- Settles O55: beside the five registers that it notes and the links' levels a cold reset loads every register's reset value. -/
theorem coldResetKeepsWhatTheTableKeeps : Obligations.ColdResetKeepsWhatTheTableKeeps := by
  intro s run vaon
  obtain ⟨reset, ⟨vault, flash, ext, now, -⟩, units, lists, layout⟩ := State.coldHeld_loads vaon (t := s.coldHeld 2 0 0) rfl
  have hold : (s.coldHeld 2 0 0).rg .timeHold = 0x157A := (State.coldHeld_rg (by decide) (by decide)).trans (State.rg_reset ..)
  have free : (s.coldHeld 2 0 0).locked = false := by
    rw [State.locked, State.fld, State.coldHeld_rg (by decide) (by decide), State.rg_reset]
    rfl
  have epochs (c : Fin 32) (out : Bool) : (s.coldHeld 2 0 0).epoch c out = 1 := by
    have loaded : (s.coldHeld 2 0 0).rg .mbxEpoch c = State.reset.rg .mbxEpoch c :=
      State.coldHeld_rg (by revert c; decide) (by revert c; decide)
    exact (State.epoch_of_rg loaded out).trans (State.epoch_reset c out)
  have last : (s.coldHeld 2 0 0).fld .gctlRst 11 8 = 2 := State.coldHeld_lastReset
  rw [exec_sysRstAssert run]
  generalize s.coldHeld 2 0 0 = t at *
  exact ⟨_, rfl, reset, ⟨vault, flash, ext, now, rfl⟩, units, lists, layout, free, last, hold,
    fun c => ⟨epochs c false, epochs c true⟩⟩

end Sys2Proof.Machine
end

section
/-! PROOFS. The obligation of a tamper's erasure (19_analogue_core_tamper_vault.md, R408 to R414): what writing the vault's words
changes, and what the erasure leaves. -/

namespace Sys2Proof.Machine

variable {s t u : State}

/-! ### Words of the vault (R414) -/

/-- What writing `n` words of the vault changes: the words' wear and places, at most `n` of which move, and none of what they hold. -/
def Worn (n : Nat) (s t : State) : Prop :=
  ∃ wear map moved writes bad, moved ≤ s.vault.moved + n ∧ t = { s with vault := { s.vault with
    wear := wear, map := map, moved := moved, writes := writes, badWords := bad } }

theorem Worn.zero (s : State) : Worn 0 s s := ⟨_, _, _, _, _, le_rfl, rfl⟩

theorem Worn.trans {m n : Nat} (h : Worn m s t) (h' : Worn n t u) : Worn (m + n) s u := by
  obtain ⟨_, _, _, _, _, few, rfl⟩ := h
  obtain ⟨_, _, _, _, _, few', rfl⟩ := h'
  exact ⟨_, _, _, _, _, few'.trans (by dsimp only; omega), rfl⟩

theorem Worn.moved {n : Nat} (h : Worn n s t) : t.vault.moved ≤ s.vault.moved + n := by
  obtain ⟨_, _, _, _, _, few, rfl⟩ := h
  exact few

/-- While there are spare words a write is not refused: a worn word moves. -/
theorem State.vaultWrite_worn (w : Nat) (spare : s.vault.moved < 513536) : ∃ t, s.vaultWrite w = some t ∧ Worn 1 s t := by
  by_cases worn : 50000000 ≤ tabGet 0 s.vault.wear (s.vaultAt w)
  · exact ⟨_, if_pos ⟨worn, spare⟩, _, _, _, _, _, le_rfl, rfl⟩
  · have good : ¬100000000 ≤ tabGet 0 s.vault.wear (s.vaultAt w) := by omega
    exact ⟨_, (if_neg (fun h => worn h.1)).trans (if_neg good), _, _, _, _, _, Nat.le_succ _, rfl⟩

/-- Several words, each of which finds a spare one. -/
theorem State.vaultWrites_worn (l : List Nat) (spare : s.vault.moved + l.length ≤ 513536) :
    ∃ t, s.vaultWrites l = some t ∧ Worn l.length s t := by
  induction l generalizing s with
  | nil => exact ⟨s, rfl, Worn.zero s⟩
  | cons w l ih =>
    rw [List.length_cons] at spare
    obtain ⟨t, e, worn⟩ := s.vaultWrite_worn w (by omega)
    have := worn.moved
    obtain ⟨u, e', worn'⟩ := ih (s := t) (by omega)
    refine ⟨u, ?_, ?_⟩
    · rw [State.vaultWrites, e]
      exact e'
    · rw [List.length_cons, Nat.add_comm]
      exact worn.trans worn'

/-- Words that the part writes by itself take what they then hold. -/
theorem State.vaultPut_worn (l : List Nat) (f : Vault → Vault) (spare : s.vault.moved + l.length ≤ 513536) :
    ∃ t, s.vaultPut l f = { t with vault := f t.vault } ∧ Worn l.length s t := by
  obtain ⟨t, e, worn⟩ := s.vaultWrites_worn l spare
  exact ⟨t, by rw [State.vaultPut, e], worn⟩

/-! ### The erasure (R408, R409, R412) -/

/-- The tamper log with one more entry, of which the last 256 stay. -/
def tamperLogged (l : List TamperEntry) (e : TamperEntry) : List TamperEntry := if 256 ≤ l.length then l.drop 1 ++ [e] else l ++ [e]

theorem length_tamperLogged {l : List TamperEntry} (e : TamperEntry) (fits : l.length ≤ 256) :
    (tamperLogged l e).length = min 256 (l.length + 1) := by
  unfold tamperLogged
  split
  · rw [List.length_append, List.length_drop, List.length_singleton]
    omega
  · rw [List.length_append, List.length_singleton]
    omega

theorem getLast?_tamperLogged (l : List TamperEntry) (e : TamperEntry) : (tamperLogged l e).getLast? = some e := by
  unfold tamperLogged
  split <;> exact List.getLast?_concat

/-- The part without its root keys, which VLT_STAT shows. -/
def State.rootKeysGone (s : State) (src : Nat) : State := { s with vault := { s.vault with
  drk := none, frk := none, tampered := true, erased := true, tampCnt := min 255 (s.vault.tampCnt + 1), lastSrc := src } }

/-- The vault `v` with the tamper log of `old` and one more entry. -/
def Vault.tamperLogs (old : Vault) (e : TamperEntry) (v : Vault) : Vault :=
  { v with tamperLog := tamperLogged old.tamperLog e, logNext := (v.logNext + 1) % 256 }

theorem Worn.tamperLogs {n : Nat} (h : Worn n s t) (old : Vault) (e : TamperEntry) :
    Worn n { s with vault := old.tamperLogs e s.vault } { t with vault := old.tamperLogs e t.vault } := by
  obtain ⟨wear, map, moved, writes, bad, few, rfl⟩ := h
  exact ⟨wear, map, moved, writes, bad, few, rfl⟩

section

variable {src arg time : Nat} {reported : Bool}
  (logged : (s.rootKeysGone src).vaultPut (tamperWords s.vault.logNext)
    (s.vault.tamperLogs ⟨time, src, arg, min 255 (s.vault.tampCnt + 1), reported⟩) = t)
include logged

/-- A part of no fleet has no words of a fleet to write. -/
theorem State.tamperErase_single (single : s.vault.member = false) : s.tamperErase src arg time reported = t.endMembership := by
  subst logged
  exact if_neg (Bool.eq_false_iff.1 single)

/-- A member's membership ends where FLEET_ID and NODE could be written. -/
theorem State.tamperErase_member (member : s.vault.member = true) (written : t.vaultWrites fleetWords = some u) :
    s.tamperErase src arg time reported = u.endMembership := by
  subst logged
  rw [State.tamperErase, if_pos member]
  split
  next e => cases e.symm.trans written; rfl
  next e => cases e.symm.trans written

end

/-- With spare words for the entry and for FLEET_ID and NODE the erasure ends the membership of a part without its root keys. -/
theorem State.tamperErase_worn (src arg time : Nat) (reported : Bool) (spare : s.vault.moved + 4 ≤ 513536) :
    ∃ n t, s.tamperErase src arg time reported = t.endMembership ∧ Worn n { s.rootKeysGone src with
      vault := s.vault.tamperLogs ⟨time, src, arg, min 255 (s.vault.tampCnt + 1), reported⟩ (s.rootKeysGone src).vault } t := by
  have room : (s.rootKeysGone src).vault.moved + 2 ≤ 513536 := Nat.le_trans (Nat.add_le_add_left (by decide) _) spare
  obtain ⟨v, logged, written⟩ := State.vaultPut_worn (tamperWords s.vault.logNext)
    (s.vault.tamperLogs ⟨time, src, arg, min 255 (s.vault.tampCnt + 1), reported⟩) room
  have worn := written.tamperLogs s.vault ⟨time, src, arg, min 255 (s.vault.tampCnt + 1), reported⟩
  cases member : s.vault.member with
  | false => exact ⟨_, _, State.tamperErase_single logged member, worn⟩
  | true =>
    obtain ⟨u, written, worn'⟩ := State.vaultWrites_worn fleetWords (Nat.le_trans (Nat.add_le_add_right worn.moved 2) spare)
    exact ⟨_, u, State.tamperErase_member logged member written, worn.trans worn'⟩

/-! The end of a membership: the vault, Time and the Central Store. -/

theorem State.endMembership_vault :
    s.endMembership.vault = { s.vault with frk := none, member := false, node := 0, fleetId := 0 } := by
  rw [State.endMembership, State.setRg_vault, State.setFld_vault, State.setBit_vault, State.setFld_vault]

theorem State.endMembership_time : s.endMembership.time = { s.time with stampNode := 0, joinStepDue := false } := by
  rw [State.endMembership, State.setRg_time, State.setFld_time, State.setBit_time, State.setFld_time]

theorem State.endMembership_store : s.endMembership.store = s.store := by
  rw [State.endMembership, State.setRg_store, State.setFld_store, State.setBit_store, State.setFld_store]

/-- Settles O57: the erasure, seen through the words' wear and the end of the membership. -/
theorem tamperErasesTheRootKeys : Obligations.TamperErasesTheRootKeys := by
  intro s src arg time reported spare
  obtain ⟨_, t, erased, _, _, _, _, _, -, rfl⟩ := s.tamperErase_worn src arg time reported spare
  refine ⟨_, rfl, ?_⟩
  rw [erased, State.endMembership_vault, State.endMembership_time, State.endMembership_store]
  exact ⟨rfl, rfl, rfl, rfl, rfl, rfl, rfl, rfl, fun fits => ⟨length_tamperLogged _ fits, getLast?_tamperLogged _ _⟩,
    rfl, rfl, rfl, rfl, rfl, rfl, rfl⟩

end Sys2Proof.Machine
end

section
/-! PROOFS. The obligations of the time core and of Stamps (02_time_and_stamps.md, R20 to R37). -/

namespace Sys2Proof.Machine

variable {s t : State}

/-! ### Stamps (R24, R30) -/

section

variable (s : State) (d after : Nat)

theorem State.stamp_seq : tabGet 0 (s.stamp d after).2.time.seqs d = ((s.stamp d after).1.seq + 1) % 2 ^ 22 := tabGet_tabSet_same ..

theorem State.stamp_lastTime : tabGet 0 (s.stamp d after).2.time.lastTime (s.stampKey d) = (s.stamp d after).1.time + 1 :=
  tabGet_tabSet_same 0 s.time.lastTime (s.stampKey d) (s.stampTime d s.time.now after + 1)

theorem State.stamp_seq_ne {e : Nat} (h : e ≠ d) : tabGet 0 (s.stamp d after).2.time.seqs e = tabGet 0 s.time.seqs e :=
  tabGet_tabSet_ne _ _ _ _ h

theorem State.stamp_lastTime_ne {k : Nat} (h : k ≠ s.stampKey d) :
    tabGet 0 (s.stamp d after).2.time.lastTime k = tabGet 0 s.time.lastTime k :=
  tabGet_tabSet_ne 0 0 s.time.lastTime (s.stampTime d s.time.now after + 1) h

/-- The part's NODE stays, and with it where the last TIMEs stand. -/
@[simp] theorem State.stamp_stampKey (e : Nat) : (s.stamp d after).2.stampKey e = s.stampKey e := rfl

theorem State.stampKey_ne {e : Nat} (h : e ≠ d) : s.stampKey e ≠ s.stampKey d := fun k => h (Nat.add_left_cancel k)

/-- A Stamp's TIME is not before the Time sampled, the cause's least TIME, or the end of the DOMAIN's last Stamp. -/
theorem State.le_stamp_time : s.time.now ≤ (s.stamp d after).1.time ∧ after ≤ (s.stamp d after).1.time ∧
    tabGet 0 s.time.lastTime (s.stampKey d) ≤ (s.stamp d after).1.time :=
  ⟨Nat.le_max_left .., le_max_of_le_right (Nat.le_max_right ..), le_max_of_le_right (Nat.le_max_left ..)⟩

end

theorem State.coldHeld_seqs (s : State) (last rail off : Nat) : (s.coldHeld last rail off).time.seqs = [] := by
  obtain ⟨r, levels, -⟩ := State.pinLevels_shown (s := _)
  simp only [State.coldHeld]
  rw [levels]
  rfl

/-- Settles O36: the next Stamp of a DOMAIN starts from the last TIME and the SEQ that the one before left. -/
theorem stampsOfADomainRise : Obligations.StampsOfADomainRise := by
  refine ⟨?_, fun s last rail off d => by rw [State.coldHeld_seqs]; rfl⟩
  rintro s t u d after after' x y taken next
  obtain ⟨rfl, rfl⟩ := Prod.mk.inj taken
  obtain ⟨rfl, rfl⟩ := Prod.mk.inj next
  refine ⟨rfl, rfl, rfl, s.le_stamp_time d after, fun n now cause last => max_le now (max_le last cause),
    ⟨s.stamp_seq d after, s.stamp_lastTime d after⟩,
    fun e h => ⟨s.stamp_seq_ne d after h, s.stamp_lastTime_ne d after (s.stampKey_ne d h)⟩,
    fun k h => s.stamp_lastTime_ne d after h, ?rises, s.stamp_seq d after, rfl⟩
  case rises =>
    obtain ⟨-, -, last⟩ := (s.stamp d after).2.le_stamp_time d after'
    exact Nat.lt_of_lt_of_le (Nat.lt_of_lt_of_eq (Nat.lt_succ_self _) (s.stamp_lastTime d after).symm) last

/-! ### Stamps and records in their words (R22, R25, R38) -/

/-- The TIME of a Stamp stands in its two words: 16 bits in the low one and 64 in the high one. -/
theorem Stamp.lo_lt (x : Stamp) : x.lo < 2 ^ 64 := by
  simp only [Stamp.lo]; omega

theorem Stamp.hi_lt (x : Stamp) : x.hi < 2 ^ 64 := Nat.mod_lt _ (by decide)

theorem Stamp.fields {x : Stamp} (fits : x.fits) : fieldOf 63 48 x.lo + x.hi * 2 ^ 16 = x.time ∧ fieldOf 47 30 x.lo = x.node ∧
    fieldOf 29 22 x.lo = x.domain ∧ fieldOf 21 0 x.lo = x.seq := by
  obtain ⟨ht, hn, hd, hq⟩ := fits
  simp only [fieldOf, Stamp.lo, Stamp.hi]
  omega

/-- Each of a Stamp's words reads back from its 8 bytes. -/
theorem Stamp.bytes_words (x : Stamp) : leNat (x.bytes.take 8) = x.lo ∧ leNat (x.bytes.drop 8) = x.hi := by
  constructor
  · rw [Stamp.bytes, List.take_left' (length_natLe ..), leNat_natLe, Nat.mod_eq_of_lt x.lo_lt]
  · rw [Stamp.bytes, List.drop_left' (length_natLe ..), leNat_natLe, Nat.mod_eq_of_lt x.hi_lt]

theorem Stamp.length_bytes (x : Stamp) : x.bytes.length = 16 := by simp [Stamp.bytes]

theorem Stamp.ext_words {x y : Stamp} (hx : x.fits) (hy : y.fits) (lo : x.lo = y.lo) (hi : x.hi = y.hi) : x = y := by
  obtain ⟨tx, nx, dx, qx⟩ := Stamp.fields hx
  obtain ⟨ty, ny, dy, qy⟩ := Stamp.fields hy
  rw [lo, hi] at tx
  rw [lo] at nx dx qx
  obtain ⟨_, _, _, _⟩ := x
  obtain ⟨_, _, _, _⟩ := y
  simp only [Stamp.mk.injEq]
  exact ⟨tx.symm.trans ty, nx.symm.trans ny, dx.symm.trans dy, qx.symm.trans qy⟩

/-- A number of two words is before another where its high word is, or where the high words agree and its low word is. -/
theorem Stamp.before_iff_words (x y : Stamp) : x.before y = true ↔ x.hi < y.hi ∨ (x.hi = y.hi ∧ x.lo < y.lo) := by
  have := x.lo_lt
  have := y.lo_lt
  simp only [Stamp.before, decide_eq_true_eq]
  omega

theorem Stamp.before_iff_fields {x y : Stamp} (hx : x.fits) (hy : y.fits) : x.before y = true ↔
    x.time < y.time ∨ (x.time = y.time ∧ (x.node < y.node ∨ (x.node = y.node ∧
      (x.domain < y.domain ∨ (x.domain = y.domain ∧ x.seq < y.seq))))) := by
  obtain ⟨_, _, _, _⟩ := hx
  obtain ⟨_, _, _, _⟩ := hy
  rw [Stamp.before_iff_words]
  simp only [Stamp.lo, Stamp.hi]
  omega

theorem Stamp.trichotomy {x y : Stamp} (hx : x.fits) (hy : y.fits) : x = y ∨ x.before y = true ∨ y.before x = true := by
  rw [Stamp.before_iff_words, Stamp.before_iff_words]
  by_cases lo : x.lo = y.lo
  · by_cases hi : x.hi = y.hi
    · exact .inl (Stamp.ext_words hx hy lo hi)
    · omega
  · omega

/-- The four words of a record, in their order. -/
theorem LogRecord.bytes_words (r : LogRecord) : r.bytes.length = 32 ∧ leNat (r.bytes.take 8) = r.stamp.lo ∧
    leNat ((r.bytes.drop 8).take 8) = r.stamp.hi ∧ leNat ((r.bytes.drop 16).take 8) = r.head % 2 ^ 64 ∧
    leNat ((r.bytes.drop 24).take 8) = r.arg1 % 2 ^ 64 := by
  have words : r.bytes = [r.stamp.lo, r.stamp.hi, r.head, r.arg1 % 2 ^ 64].flatMap (natLe 8) := by
    simp [LogRecord.bytes, Stamp.bytes]
  refine ⟨by simp [words], ?_⟩
  rw [words]
  exact ⟨(bytesAt_words (i := 0) rfl).trans (Nat.mod_eq_of_lt r.stamp.lo_lt),
    (bytesAt_words (i := 1) rfl).trans (Nat.mod_eq_of_lt r.stamp.hi_lt), bytesAt_words (i := 2) rfl,
    (bytesAt_words (i := 3) rfl).trans (Nat.mod_mod ..)⟩

/-- Settles O37: the fields of a Stamp and of a record are what stands between their bits of the words that the bytes give. -/
theorem stampsAndRecordsLieInTheirWords : Obligations.StampsAndRecordsLieInTheirWords := by
  refine ⟨?places, ?injective, ?order, ?worked, ?records⟩
  case places =>
    intro x fits
    obtain ⟨lo, hi⟩ := x.bytes_words
    exact ⟨lo, hi, x.length_bytes, Stamp.fields fits⟩
  case injective =>
    intro x y hx hy same
    obtain ⟨lox, hix⟩ := x.bytes_words
    obtain ⟨loy, hiy⟩ := y.bytes_words
    exact Stamp.ext_words hx hy (by rw [← lox, ← loy, same]) (by rw [← hix, ← hiy, same])
  case order => exact fun x y hx hy => ⟨Stamp.before_iff_fields hx hy, Stamp.before_iff_words x y, Stamp.trichotomy hx hy⟩
  case worked => rintro _ rfl; decide
  case records =>
    intro r kind sub unit arg0 arg1
    obtain ⟨len, lo, hi, head, tail⟩ := r.bytes_words
    refine ⟨len, lo, hi, ?_, tail.trans (Nat.mod_eq_of_lt arg1)⟩
    dsimp only
    rw [head]
    simp only [fieldOf, LogRecord.head]
    omega

/-! ### Snapshots of Time (R36) -/

/-- The snapshot that a master has after a read of TIME_NOW_LO: Time, where the read covers bits [31:0], and else the one it had. -/
def State.snapshot (s : State) (m : Nat) (acc : Acc) : Nat := if acc = .hi then tabGet 0 s.time.snaps m else s.time.now

/-- The part with a master's snapshot set. -/
def State.setSnapshot (s : State) (m v : Nat) : State := { s with time := { s.time with snaps := tabSet 0 s.time.snaps m v } }

/-- A read of TIME_NOW_LO answers the low 64 bits of the snapshot that it leaves. -/
theorem State.readReg_timeNowLo (s : State) (m : Nat) (acc : Acc) : s.readReg m ⟨.timeNowLo, 0, 0⟩ acc =
    (s.snapshot m acc % 2 ^ 64, s.setSnapshot m (s.snapshot m acc)) := by
  cases acc <;> rfl

theorem exec_timeNowLoRead (run : Running s) (m : BitVec 8) (acc : Acc) : exec (.timeNowLoRead m acc) s = .next (noRewind s
    ((s.setSnapshot m.toNat (s.snapshot m.toNat acc)).reply (accBytes acc (s.snapshot m.toNat acc % 2 ^ 64)))) :=
  live_regRead run (by rw [State.regRead, State.readReg_timeNowLo])

/-- Settles O39: a read of TIME_NOW_LO sets the reader's snapshot, to what it was where the read covers bits [63:32] alone. -/
theorem timeSnapshots : Obligations.TimeSnapshots := by
  refine ⟨?low, ?high, fun s m acc => rfl, ?row⟩
  case low =>
    intro s m acc low
    rw [State.readReg_timeNowLo, State.snapshot, if_neg low]
    exact ⟨_, rfl, tabGet_tabSet_same .., fun n other => tabGet_tabSet_ne _ _ _ _ other⟩
  case high =>
    intro s m
    refine ⟨_, State.readReg_timeNowLo s m .hi, fun n => ?_⟩
    by_cases same : n = m
    · exact same ▸ tabGet_tabSet_same ..
    · exact tabGet_tabSet_ne _ _ _ _ same
  case row =>
    intro s m acc run
    rw [exec_timeNowLoRead run, State.readReg_timeNowLo]
    exact ⟨_, rfl, noRewind_bus .., noRewind_time (Nat.le_refl _), noRewind_regs .., noRewind_mbx .., noRewind_chans ..⟩

/-! ### The rows of the time core (R32, R33, R35, R40) -/

theorem State.statusSecond_due {u : State} {x : Stamp} {now : Nat} (due : s.time.lastSecond < now / second)
    (hu : u = { s with time := { s.time with lastSecond := s.time.lastSecond + 1 } })
    (stamped : u.logLost.stampAt 0 ((s.time.lastSecond + 1) * second) 0 = (x, t)) :
    s.statusSecond now = (t.logAlways ⟨x, 0x0F, t.timeState, 0, t.unc, t.alignNow⟩).emit 0x1C2 (x.time + 1) 0 := by
  subst hu
  rw [State.statusSecond, if_neg (Nat.not_le.2 due)]
  simp only [stamped]

theorem State.ppsRises_due (on : s.bit .timeCtl 0 = true) (low : s.time.ppsOut = false)
    (due : (s.time.ppsMark + (second - s.ppsOfs)) / second < (s.time.now + (second - s.ppsOfs)) / second) : s.ppsRises =
    ({ s with time := { s.time with ppsOut := true, ppsMark := s.time.now, ppsRise := s.clock } }).emit 0x1C1 (s.time.now + 1) 0 := by
  simp only [State.ppsRises, on, low, due, Bool.not_false, Bool.and_self, decide_true, if_true]

theorem State.ppsFalls_due (high : s.time.ppsOut = true)
    (due : usPassed s.time.ppsRise s.clock (clampTo 1 200000 (s.fld .timePps 17 0)) = true) :
    s.ppsFalls = { s with time := { s.time with ppsOut := false } } := by
  simp only [State.ppsFalls, high, due, Bool.and_self, if_true]

theorem State.refLost_chosen (chosen : s.refSel ≠ 0) (new : s.timeState ≠ 3) (ht : t = (s.setTimeState 3).setBit .timeStat 4 false) :
    s.refLost = { t with time := { t.time with lockRun := 0 } } := by
  subst ht
  exact if_neg (not_or.2 ⟨chosen, new⟩)

theorem State.refReturns_chosen (chosen : s.refSel ≠ 0) (lost : s.bit .timeStat 4 = false)
    (ht : t = (s.setTimeState 1).setBit .timeStat 4 true) :
    s.refReturns = { t with time := { t.time with lockRun := 0, fastSlew := true } } := by
  subst ht
  exact if_neg (not_or.2 ⟨chosen, Bool.eq_false_iff.1 lost⟩)

/-- Settles O1: each row is the one case of its effect that its hypotheses leave. -/
theorem timeCoreCommandsComplete : Obligations.TimeCoreCommandsComplete := by
  refine ⟨?status, ?edge, ?rise, ?fall, ?lost, ?returns, ?locked, ?write, ?read⟩
  case status =>
    intro s p u t now x hp run due hu stamped
    exact liveAt_eq (f := fun s => s.statusSecond s.time.now) hp run (State.statusSecond_due due hu stamped)
  case edge => exact fun s p rising now hp run _ _ => liveAt_eq (f := (·.ppsEdge rising)) hp run rfl
  case rise => exact fun s p now hp run on low due => liveAt_eq (f := (·.ppsRises)) hp run (State.ppsRises_due on low due)
  case fall => exact fun s p now hp run high due => liveAt_eq (f := (·.ppsFalls)) hp run (State.ppsFalls_due high due)
  case lost =>
    exact fun s p t now hp run chosen new ht => liveAt_eq (f := (·.refLost)) hp run (State.refLost_chosen chosen new ht)
  case returns =>
    exact fun s p t now hp run chosen lost ht => liveAt_eq (f := (·.refReturns)) hp run (State.refReturns_chosen chosen lost ht)
  case locked =>
    rintro s p t now hp run acquiring ok source rfl
    exact liveAt_eq (f := (·.refLocks)) hp run (if_pos ⟨acquiring, ok, source⟩)
  case write =>
    rintro s _ m acc data free lo rfl
    have written := State.writeReg_rw (r := ⟨.timeCtl, 0, 0⟩) (rw := 0x337) rfl rfl ⟨nofun, nofun⟩ (and_accMask lo (d := 0x337) (by decide))
      (by decide) free.2 m.toNat data.toNat
    rw [Nat.and_assoc data.toNat]
    exact live_writeReg free.1 written
  case read =>
    rintro s m acc snap run rfl
    exact exec_timeNowLoRead run m acc

end Sys2Proof.Machine
end

section
/-! PROOFS. The obligations of the Stamp Log and of the error FIFO (02_time_and_stamps.md, R40 to R46; 15_faults_and_recovery.md, R329). -/

namespace Sys2Proof.Machine

variable {s t : State}

/-! ### A record's place (R41) -/

theorem logPlace_perm (r : LogRecord) (l : List LogRecord) : (logPlace r l).Perm (r :: l) := by
  induction l with
  | nil => exact .refl _
  | cons x l ih =>
    rw [logPlace]
    split
    · exact .refl _
    · exact (ih.cons x).trans (.swap r x l)

@[simp] theorem length_logPlace (r : LogRecord) (l : List LogRecord) : (logPlace r l).length = l.length + 1 :=
  (logPlace_perm r l).length_eq

/-- Where nothing that stands in the FIFO is a later record of the same NODE and DOMAIN, a record goes behind the others. -/
theorem logPlace_last {r : LogRecord} {l : List LogRecord}
    (latest : ∀ x ∈ l, x.stamp.domain = r.stamp.domain → x.stamp.node = r.stamp.node → x.stamp.time ≤ r.stamp.time) :
    logPlace r l = l ++ [r] := by
  induction l with
  | nil => rfl
  | cons x l ih =>
    have notLater : ¬(x.stamp.domain = r.stamp.domain ∧ x.stamp.node = r.stamp.node ∧ r.stamp.time < x.stamp.time) :=
      fun ⟨domain, node, later⟩ => absurd (latest x (.head l) domain node) (Nat.not_le.2 later)
    rw [logPlace, if_neg notLater, ih fun y hy => latest y (.tail x hy)]
    rfl

/-! ### What enters the FIFOs (R42, R329) -/

@[simp] theorem State.emit_log (s : State) (src time hop : Nat) : (s.emit src time hop).log = s.log := by
  obtain ⟨v, e⟩ := State.emit_eq (s := s) src time hop
  rw [e]

@[simp] theorem State.emit_errFifo (s : State) (src time hop : Nat) : (s.emit src time hop).errFifo = s.errFifo := by
  obtain ⟨v, e⟩ := State.emit_eq (s := s) src time hop
  rw [e]

@[simp] theorem State.stamp_log (s : State) (d after : Nat) : (s.stamp d after).2.log = s.log := rfl

/-- What a record's entry into the drain FIFO leaves there, of what waits, and in the error FIFO. -/
theorem State.logPush_fifos (s : State) (r : LogRecord) : (s.logPush r).log.fifo = logPlace r s.log.fifo ∧
    (s.logPush r).log.waiting = s.log.waiting ∧ (s.logPush r).errFifo = s.errFifo := by
  unfold State.logPush
  dsimp only
  split
  · exact ⟨by rw [State.emit_log], by rw [State.emit_log], by rw [State.emit_errFifo]⟩
  · exact ⟨rfl, rfl, rfl⟩

theorem State.logLost_none (none : s.log.lostDue = 0) : s.logLost = s := if_pos (.inl none)

theorem State.logLost_full (full : 512 ≤ s.log.fifo.length) : s.logLost = s := if_pos (.inr (.inl full))

theorem State.logLost_due {x : Stamp} (due : 0 < s.log.lostDue) (room : s.log.fifo.length < 512)
    (first : s.log.waiting.any (fun r => r.stamp.domain = 0) = false) (stamped : s.stamp 0 0 = (x, t)) :
    s.logLost = ({ t with log := { t.log with lostDue := 0 } }).logPush ⟨x, 0x11, 0, 0, s.log.lostDue, 0⟩ := by
  rw [State.logLost, if_neg (by simp [first]; omega), stamped]

theorem State.logEnter_cons {u : State} {r : LogRecord} {rest : List LogRecord} (hu : u = s.logLost) (waits : u.log.waiting = r :: rest)
    (room : u.log.fifo.length < 512) : s.logEnter = ({ u with log := { u.log with waiting := rest } }).logPush r := by
  subst hu
  simp only [State.logEnter, waits, room, if_true]

/-- An entry into the drain FIFO that has room keeps its bound. -/
theorem State.length_logPush {r : LogRecord} (room : s.log.fifo.length < 512) : (s.logPush r).log.fifo.length ≤ 512 := by
  obtain ⟨fifo, -, -⟩ := s.logPush_fifos r
  rw [fifo, length_logPlace]
  exact room

/-! ### The drain FIFO's bound (R42) -/

theorem State.length_logLost (fits : s.log.fifo.length ≤ 512) : s.logLost.log.fifo.length ≤ 512 := by
  unfold State.logLost
  split
  · exact fits
  next room => exact State.length_logPush (Nat.not_le.1 fun full => room (.inr (.inl full)))

theorem State.length_logAlways {r : LogRecord} (fits : s.log.fifo.length ≤ 512) : (s.logAlways r).log.fifo.length ≤ 512 := by
  unfold State.logAlways
  dsimp only
  split
  · exact State.length_logLost fits
  next room => exact State.length_logPush (Nat.not_le.1 fun full => room (.inl full))

theorem State.length_logEnter (fits : s.log.fifo.length ≤ 512) : s.logEnter.log.fifo.length ≤ 512 := by
  unfold State.logEnter
  dsimp only
  split
  · split
    next room => exact State.length_logPush room
    · exact State.length_logLost fits
  · exact State.length_logLost fits

theorem State.length_logTurn {d : Nat} (fits : s.log.fifo.length ≤ 512) : (s.logTurn d).log.fifo.length ≤ 512 := by
  unfold State.logTurn
  split
  · exact List.foldlRecOn (motive := fun t : State => t.log.fifo.length ≤ 512) s.log.waiting _ fits
      fun _ fits _ _ => State.length_logEnter fits
  · exact fits

theorem State.length_logKept {r : LogRecord} (fits : s.log.fifo.length ≤ 512) : (s.logKept r).log.fifo.length ≤ 512 := by
  unfold State.logKept
  dsimp only
  split
  · exact State.length_logTurn (State.length_logLost fits)
  next room => exact State.length_logPush (Nat.lt_of_lt_of_le (Nat.not_le.1 room) (by decide))

/-! ### The error FIFO (R329) -/

theorem State.errPush_room (r : LogRecord) (room : s.errFifo.length < 64) : s.errPush r = { s with errFifo := s.errFifo ++ [r] } :=
  if_neg (Nat.not_le.2 room)

theorem State.errPush_full (r : LogRecord) (full : 64 ≤ s.errFifo.length) : s.errPush r = s.addFld .fltErrLost 31 0 1 := if_pos full

@[simp] theorem State.errPush_log (s : State) (r : LogRecord) : (s.errPush r).log = s.log := by
  unfold State.errPush
  split
  · exact State.addFld_log ..
  · rfl

theorem State.length_errPush (r : LogRecord) (fits : s.errFifo.length ≤ 64) : (s.errPush r).errFifo.length ≤ 64 := by
  rcases Nat.lt_or_ge s.errFifo.length 64 with room | full
  · rw [State.errPush_room r room, List.length_append]
    exact room
  · rw [State.errPush_full r full, State.addFld_errFifo]
    exact fits

theorem State.logLost_errFifo (s : State) : s.logLost.errFifo = s.errFifo := by
  unfold State.logLost
  split
  · rfl
  · exact (State.logPush_fifos _ _).2.2

theorem State.logAlways_errFifo (s : State) (r : LogRecord) : (s.logAlways r).errFifo = s.errFifo := by
  unfold State.logAlways
  dsimp only
  split
  · exact s.logLost_errFifo
  · exact (State.logPush_fifos _ _).2.2.trans s.logLost_errFifo

/-- A FAULT record is put into the error FIFO and logged, in a part that a Stamp, the LOG_LOST record and the record's hop have changed
no further. -/
theorem State.fault_eq (s : State) (dom sub unit arg0 arg1 after hop : Nat) : ∃ (t : State) (r : LogRecord),
    s.fault dom sub unit arg0 arg1 after hop = (t.errPush r).logAlways r ∧ t.errFifo = s.errFifo ∧ t.log.fifo = s.logLost.log.fifo := by
  unfold State.fault
  dsimp only
  split
  · exact ⟨_, _, rfl, s.logLost_errFifo, rfl⟩
  · exact ⟨_, _, rfl, s.logLost_errFifo, rfl⟩

theorem State.fault_bounds (dom sub unit arg0 arg1 after hop : Nat) (err : s.errFifo.length ≤ 64) (log : s.log.fifo.length ≤ 512) :
    (s.fault dom sub unit arg0 arg1 after hop).errFifo.length ≤ 64 ∧
      (s.fault dom sub unit arg0 arg1 after hop).log.fifo.length ≤ 512 := by
  obtain ⟨t, r, e, errFifo, fifo⟩ := s.fault_eq dom sub unit arg0 arg1 after hop
  rw [e]
  refine ⟨?_, State.length_logAlways ?_⟩
  · rw [State.logAlways_errFifo]
    exact State.length_errPush r (errFifo ▸ err)
  · rw [State.errPush_log, fifo]
    exact State.length_logLost log

/-- A counter of 32 bits that counts one more stays at its greatest value. -/
theorem State.fld_addFld_one {k : RegKind} {i j : Nat} :
    (s.addFld k 31 0 1 i j).fld k 31 0 i j = min (2 ^ 32 - 1) (s.fld k 31 0 i j + 1) := by
  rw [State.addFld, State.fld_setFld _ _ _ _ (by decide) (by decide), satAdd]
  omega

/-- The log unit is beside the registers. -/
theorem State.fld_withLog (u : State) (g : LogUnit) (k : RegKind) (hi lo i j : Nat) :
    ({ u with log := g } : State).fld k hi lo i j = u.fld k hi lo i j := State.fld_congr (s := u) rfl k hi lo i j

/-- A record of a class that finds 496 entries is dropped, and the drop is due to be told. -/
theorem State.logKept_drops {r : LogRecord} (full : 496 ≤ s.log.fifo.length) (none : s.log.lostDue = 0)
    (first : s.log.waiting.any (fun x => x.stamp.domain = r.stamp.domain) = false) : s.logKept r =
      { s.addFld .logLost 31 0 1 with log := { s.log with lostDue := s.log.lostDue + 1 } } := by
  have turn : s.logTurn r.stamp.domain = s := if_neg (Bool.eq_false_iff.1 first)
  rw [State.logKept, State.logLost_none none, turn]
  exact if_pos full

/-- Settles O52: what enters either FIFO finds room, and what does not is counted or waits. -/
theorem faultAndLogFifosAreBounded : Obligations.FaultAndLogFifosAreBounded := by
  refine ⟨?err, ?bounds, ?always, fun r l => ⟨logPlace_perm r l, logPlace_last⟩, ?waits, ?drops, ?fault⟩
  case err =>
    refine fun s r => ⟨fun room => ?_, fun full => ?_⟩
    · rw [State.errPush_room r room]
      exact ⟨rfl, rfl⟩
    · rw [State.errPush_full r full]
      exact ⟨State.addFld_errFifo .., State.fld_addFld_one⟩
  case bounds => exact fun s r fits => ⟨State.length_logAlways fits, State.length_logKept fits, State.length_logEnter fits⟩
  case always =>
    intro s r room none empty
    obtain ⟨fifo, waiting, -⟩ := s.logPush_fifos r
    rw [State.logAlways, State.logLost_none none, if_neg (not_or.2 ⟨Nat.not_le.2 room, not_not.2 empty⟩)]
    exact ⟨fifo, waiting.trans empty⟩
  case waits =>
    intro s r full
    rw [State.logAlways, State.logLost_full full, if_pos (.inl full)]
    exact ⟨rfl, rfl⟩
  case drops =>
    intro s r full none first
    rw [State.logKept_drops full none first, State.fld_withLog]
    exact ⟨rfl, congrArg (· + 1) none, State.fld_addFld_one⟩
  case fault => exact fun s dom sub unit arg0 arg1 after hop err log => State.fault_bounds dom sub unit arg0 arg1 after hop err log

/-! ### The rows of the stamp-log writer (R42 to R44) -/

theorem State.logTimeout_due {since : Nat} (held : s.log.since = some since)
    (due : usPassed since s.clock (s.fld .logTmo 23 0) = true) : s.logTimeout = s.logTake 512 := by
  simp only [State.logTimeout, held, due, if_true]

/-- Settles O2: each row is the one case of its effect that its hypotheses leave. -/
theorem stampLogCommandsComplete : Obligations.StampLogCommandsComplete := by
  refine ⟨?enters, ?lost, ?batch, ?whole, ?timeout, ?flush⟩
  case enters => exact fun s u r rest run hu waits room => live_eq (f := (·.logEnter)) run (State.logEnter_cons hu waits room)
  case lost =>
    exact fun s t x run due room first stamped => live_eq (f := (·.logLost)) run (State.logLost_due due room first stamped)
  case batch =>
    rintro s run many z rfl g
    exact liveM_eq (f := (·.logBatch)) run (if_pos many) g
  case whole =>
    rintro s run few now z rfl g
    exact liveM_eq (f := (·.logBatch)) run ((if_neg (Nat.not_le.2 few)).trans (if_pos now)) g
  case timeout =>
    rintro s p now since hp run held due z rfl g
    exact liveMAt_eq (f := (·.logTimeout)) hp run (State.logTimeout_due held due) g
  case flush =>
    rintro s t u m cut half n x run rfl rfl rfl stamped
    refine live_eq (f := (·.logFlushAll cut)) run ?_
    simp only [State.logFlushAll, stamped]

end Sys2Proof.Machine
end

section
/-! PROOFS. The obligations of power and reset (18_power_reset_pacing.md): their rows complete, Time restarts without VAON (R34), and Time
never goes back otherwise (R29). -/

namespace Sys2Proof.Machine

variable {s t u : State}

/-! ### Time restarts (R34) -/

/-- STATE is a field of TIME_STAT alone. -/
theorem State.timeState_congr (h : t.rg .timeStat = s.rg .timeStat) : t.timeState = s.timeState := congrArg (fieldOf 1 0) h

theorem State.timeState_setFld (k : RegKind) (hi lo v i j : Nat) (other : Reg.offset ⟨.timeStat, 0, 0⟩ ≠ Reg.offset ⟨k, i, j⟩) :
    (s.setFld k hi lo v i j).timeState = s.timeState := State.timeState_congr (State.setFld_rg_ne _ _ _ _ _ _ _ other)

theorem State.timeState_put (v : Nat) (fits : v < 4) : (s.setFld .timeStat 1 0 v).timeState = v :=
  (State.fld_setFld .timeStat v 0 0 (by decide) (by decide)).trans (Nat.mod_eq_of_lt fits)

/-- Time as it stands after a loss of VAON: 0, with STATE FREE and ALIGN unbounded. -/
def Restarted (s : State) : Prop := s.time.now = 0 ∧ s.timeState = 0 ∧ s.fld .timeUnc 63 32 = 0xFFFFFFFF

/-- Two registers and Time are all that it asks. -/
theorem Restarted.congr (h : Restarted s) (now : t.time.now = s.time.now) (stat : t.rg .timeStat = s.rg .timeStat)
    (unc : t.rg .timeUnc = s.rg .timeUnc) : Restarted t := by
  obtain ⟨zero, free, unbounded⟩ := h
  exact ⟨now.trans zero, (congrArg (fieldOf 1 0) stat).trans free, (congrArg (fieldOf 63 32) unc).trans unbounded⟩

theorem Restarted.of_regs (h : Restarted s) (now : t.time.now = s.time.now) (regs : t.regs = s.regs) : Restarted t :=
  h.congr now (State.rg_congr regs ..) (State.rg_congr regs ..)

theorem Restarted.aside (h : Restarted t) : Restarted (Machine.aside s t) := h.of_regs rfl rfl

theorem Restarted.withPower (h : Restarted s) (p : Power) : Restarted { s with power := p } := h.of_regs rfl rfl

theorem State.setTimeState_timeState (v : Nat) (fits : v < 4) : (s.setTimeState v).timeState = v := by
  unfold State.setTimeState
  split
  next same => exact same
  · have put : ((s.setFld .timeStat 1 0 v).setBit .ircTevt 0 true).timeState = v :=
      (State.timeState_setFld .ircTevt 0 0 (b2n true) 0 0 (by decide)).trans (State.timeState_put v fits)
    exact (State.timeState_congr (State.rg_congr rfl ..)).trans put

/-- What a change of STATE touches. -/
theorem State.setTimeState_eq (v : Nat) : ∃ r m, s.setTimeState v = { s with regs := r, time := m } ∧ m.now = s.time.now := by
  unfold State.setTimeState
  split
  · exact ⟨_, _, rfl, rfl⟩
  · exact ⟨_, _, rfl, rfl⟩

/-- The part at the Time 0 at which it restarts, before the registers show it. -/
def State.atZero (s : State) : State := { s with
  power := { s.power with timeLost := s.power.timeLost || s.power.coldReset || decide (s.power.state ≠ .run) }
  time := { s.time with now := 0, stepped := s.time.stepped - s.time.now, lastSecond := 0, ppsMark := 0, ppsInLast := none } }

theorem State.timeRestarts_eq : ∃ u, s.timeRestarts = u.setFld .timeUnc 63 32 0xFFFFFFFF ∧ u.timeState = 0 ∧
    ∃ r m, u = { s.atZero with regs := r, time := m } ∧ m.now = 0 := by
  refine ⟨_, rfl, ?_⟩
  split
  · exact ⟨State.timeState_put 0 (by decide), _, _, rfl, rfl⟩
  · exact ⟨State.setTimeState_timeState 0 (by decide), State.setTimeState_eq 0⟩

theorem State.timeRestarts_restarted (s : State) : Restarted s.timeRestarts := by
  obtain ⟨u, e, free, r, m, rfl, zero⟩ := s.timeRestarts_eq
  rw [e]
  exact ⟨zero, (State.timeState_setFld .timeUnc 63 32 0xFFFFFFFF 0 0 (by decide)).trans free,
    State.fld_setFld .timeUnc 0xFFFFFFFF 0 0 (by decide) (by decide)⟩

/-- Beside Time and registers a restart changes nothing but that the loss is noted. -/
theorem State.timeRestarts_keeps (s : State) : ∃ r m, s.timeRestarts = { s.atZero with regs := r, time := m } := by
  obtain ⟨u, e, -, r, m, rfl, -⟩ := s.timeRestarts_eq
  exact ⟨_, _, e⟩

/-- Without VAON nothing keeps Time through a reset. -/
theorem State.timeUnkept_lost (lost : s.power.vaon = false) :
    s.timeUnkept = { s.timeRestarts with power := { s.timeRestarts.power with timeLost := true } } :=
  if_neg (Bool.eq_false_iff.1 lost)

theorem State.timeUnkept_restarted (lost : s.power.vaon = false) : Restarted s.timeUnkept := by
  rw [State.timeUnkept_lost lost]
  exact s.timeRestarts_restarted.withPower _

theorem State.timeUnkept_keeps (lost : s.power.vaon = false) :
    ∃ r m, s.timeUnkept = { s with regs := r, time := m, power := { s.power with timeLost := true } } := by
  obtain ⟨r, m, e⟩ := s.timeRestarts_keeps
  rw [State.timeUnkept_lost lost, e]
  exact ⟨r, m, rfl⟩

/-- A cold reset without VAON. -/
theorem State.coldHeld_restarted {last rail off : Nat} (lost : s.power.vaon = false) : Restarted (s.coldHeld last rail off) := by
  obtain ⟨zero, -, -⟩ := State.timeUnkept_restarted lost
  obtain ⟨r, m, e⟩ := State.timeUnkept_keeps lost
  rw [e] at zero
  have levels (t : State) (h : Restarted t) : Restarted t.pinLevels := by
    obtain ⟨r, shown, low⟩ := State.pinLevels_shown (s := t)
    exact h.congr (by rw [shown]) (low _ _ _ (by decide)) (low _ _ _ (by decide))
  unfold State.coldHeld
  simp only [e, if_true]
  exact levels _ ⟨zero, (State.timeState_setFld .timeUnc 63 32 0xFFFFFFFF 0 0 (by decide)).trans (State.timeState_put 0 (by decide)),
    State.fld_setFld .timeUnc 0xFFFFFFFF 0 0 (by decide) (by decide)⟩

theorem State.coldHeld_keeps {last rail off : Nat} (lost : s.power.vaon = false) :
    (s.coldHeld last rail off).vault = s.vault ∧ (s.coldHeld last rail off).pending = s.pending := by
  obtain ⟨r, m, e⟩ := State.timeUnkept_keeps lost
  obtain ⟨r, levels, -⟩ := State.pinLevels_shown (s := _)
  unfold State.coldHeld
  simp only [e]
  rw [levels]
  exact ⟨rfl, rfl⟩

theorem State.setBit_restarted {k : RegKind} {b i j : Nat} {v : Bool} (h : Restarted s)
    (stat : Reg.offset ⟨.timeStat, 0, 0⟩ ≠ Reg.offset ⟨k, i, j⟩) (unc : Reg.offset ⟨.timeUnc, 0, 0⟩ ≠ Reg.offset ⟨k, i, j⟩) :
    Restarted (s.setBit k b v i j) :=
  h.congr rfl (State.setFld_rg_ne _ _ _ _ _ _ _ stat) (State.setFld_rg_ne _ _ _ _ _ _ _ unc)

/-! ### The rows without VAON (R34, R386, R388, R396) -/

/-- VAON returns, where no loss of it was watched. -/
theorem State.vaonRises_unwatched (lost : s.power.vaon = false) (unwatched : s.power.aonLoss = false) : s.vaonRises =
    ({ s.timeRestarts with power := { s.timeRestarts.power with
      vaon := true, aonLoss := false
      state := if s.power.state = PowerState.off then PowerState.standby else s.power.state } } : State).setBit .pwrAon 0 true := by
  rw [State.vaonRises, if_neg (Bool.eq_false_iff.1 lost)]
  exact if_neg (Bool.eq_false_iff.1 unwatched)

/-- The part as the rails bring it up: powered, with its TAP reset (R382; R427). -/
def State.railed (s : State) : State := { s with
  power := { s.power with railDown := none, state := .run }
  side := { s.side with tap := .idcode, captured := 0, pins := .part, boundary := [] } }

theorem State.railsRise_lost {off : Nat} (down : s.power.state ≠ .run) (lost : s.power.vaon = false) : s.railsRise off =
    if off = 0 then (if s.railed.timeUnkept.power.rstLow then s.railed.timeUnkept else s.railed.timeUnkept.rstRelease)
    else { s.railed.timeUnkept.coldHeld 1 0 off with
      power := { (s.railed.timeUnkept.coldHeld 1 0 off).power with rstLow := true } } := by
  rw [State.railsRise, if_neg down]
  have lost' : ¬ s.railed.power.vaon = true := Bool.eq_false_iff.1 lost
  exact congrArg (fun t : State => if off = 0 then (if t.power.rstLow then t else t.rstRelease)
    else { t.coldHeld 1 0 off with power := { (t.coldHeld 1 0 off).power with rstLow := true } }) (if_neg lost')

/-- A row that leaves a part whose Time has restarted, and its vault as it was. -/
theorem exec_restarts {c : Instr} (e : exec c s = .next (aside s t)) (restarted : Restarted t) (vault : t.vault = s.vault) :
    ∃ u, exec c s = .next u ∧ u.time.now = 0 ∧ u.timeState = 0 ∧ u.fld .timeUnc 63 32 = 0xFFFFFFFF ∧ u.vault = s.vault ∧
      u.pending = s.pending := by
  obtain ⟨zero, free, unbounded⟩ := restarted.aside (s := s)
  exact ⟨_, e, zero, free, unbounded, vault, rfl⟩

/-- Settles O56: each of the three ways ends in a state at which Time has restarted. -/
theorem timeRestartsWithoutVaon : Obligations.TimeRestartsWithoutVaon := by
  refine ⟨?returns, ?rails, ?reset⟩
  case returns =>
    intro s lost unwatched
    obtain ⟨r, m, keeps⟩ := s.timeRestarts_keeps
    have restarted : Restarted s.vaonRises := by
      rw [State.vaonRises_unwatched lost unwatched]
      exact State.setBit_restarted (s.timeRestarts_restarted.withPower _) (by decide) (by decide)
    have after : s.vaonRises.power.vaon = true ∧ s.vaonRises.vault = s.vault ∧ s.vaonRises.store = s.store := by
      rw [State.vaonRises_unwatched lost unwatched, State.setBit_power, State.setBit_vault, State.setBit_store, keeps]
      exact ⟨rfl, rfl, rfl⟩
    obtain ⟨vaon, vault, store⟩ := after
    obtain ⟨zero, free, unbounded⟩ := restarted.aside (s := s)
    exact ⟨_, rfl, zero, vaon, free, unbounded, vault, store, rfl⟩
  case rails =>
    intro s off lost down cold held
    obtain ⟨r, m, keeps⟩ := State.timeUnkept_keeps (s := s.railed) lost
    have after : s.railed.timeUnkept.power.rstLow = s.power.rstLow ∧ s.railed.timeUnkept.power.vaon = s.power.vaon ∧
        s.railed.timeUnkept.vault = s.vault := by
      rw [keeps]
      exact ⟨rfl, rfl, rfl⟩
    obtain ⟨low, vaon, vault⟩ := after
    have rails : exec (.railsUp off) s = .next (aside s (s.railsRise off)) := rfl
    rw [State.railsRise_lost down lost] at rails
    by_cases now : off = 0
    · rw [if_pos now, if_pos (low.trans (held.resolve_left (not_not.2 now)))] at rails
      exact exec_restarts rails (State.timeUnkept_restarted (s := s.railed) lost) vault
    · rw [if_neg now] at rails
      have absent := vaon.trans lost
      obtain ⟨kept, -⟩ := State.coldHeld_keeps (last := 1) (rail := 0) (off := off) absent
      have restarted := State.coldHeld_restarted (last := 1) (rail := 0) (off := off) absent
      generalize s.railed.timeUnkept.coldHeld 1 0 off = t at *
      exact exec_restarts rails (restarted.withPower _) (kept.trans vault)
  case reset =>
    intro s lost run
    obtain ⟨kept, -⟩ := State.coldHeld_keeps (last := 2) (rail := 0) (off := 0) lost
    have restarted := State.coldHeld_restarted (last := 2) (rail := 0) (off := 0) lost
    have asserted := exec_sysRstAssert run
    generalize s.coldHeld 2 0 0 = t at *
    exact exec_restarts asserted (restarted.withPower _) kept

end Sys2Proof.Machine
end

section
/-! PROOFS. The commands of power and reset complete (18_power_reset_pacing.md), Time never goes back (R29), and what holds right after
reset (R387). -/

namespace Sys2Proof.Machine

variable {s t u : State}

/-! ### Commands of power and reset -/

/-- The rails rise over a time in which VDD was off: the part is in a cold reset of their rising. -/
theorem State.railsRise_off {off : Nat} (down : s.power.state ≠ .run) (long : off ≠ 0)
    (ht : t = if s.power.vaon then { s.railed with time := { s.time with now := s.time.now + off } } else s.railed.timeUnkept) :
    s.railsRise off = { t.coldHeld 1 0 off with power := { (t.coldHeld 1 0 off).power with rstLow := true } } := by
  subst ht
  rw [State.railsRise, if_neg down]
  exact if_neg long

/-- The rails rise after a dip: with VAON or without it, the supervisor's reset ends. -/
theorem State.railsRise_dip (down : s.power.state ≠ .run) (ht : t = s.railed.timeUnkept) :
    s.railsRise 0 = if t.power.rstLow then t else t.rstRelease := by
  subst ht
  rw [State.railsRise, if_neg down]
  cases vaon : s.power.vaon with
  | false =>
    have lost : ¬ s.railed.power.vaon = true := Bool.eq_false_iff.1 vaon
    exact congrArg (fun t : State => if t.power.rstLow then t else t.rstRelease) (if_neg lost)
  | true =>
    have kept : s.railed.power.vaon = true := vaon
    rw [State.timeUnkept_vaon (s := s.railed) vaon]
    exact congrArg (fun t : State => if t.power.rstLow then t else t.rstRelease) (if_pos kept)

/-- A rail that trips in a part that runs. -/
theorem exec_supervisorTrip (run : Running s) (rail : Fin 5) (ht : t = s.coldHeld 3 (rail + 1) 0) : exec (.supervisorTrip rail) s =
    .next (aside s { t with power := { t.power with
      railDown := some (t.power.railDown.getD rail), state := if t.power.vaon then PowerState.standby else PowerState.off } }) := by
  subst ht
  change execSupervisorTrip rail s = _
  rw [execSupervisorTrip, State.railTrip, if_neg (by rw [run]; exact Bool.false_ne_true)]

/-- A regulator's transaction whose answer arrives. -/
theorem exec_pmbusDone {ans : PmbusAnswer} (run : Running s) (e : s.pmbusDone ans = t) :
    exec (.pmbusTransactionDone ans) s = .next (noRewind s t) := live_eq (f := (·.pmbusDone ans)) run e

/-- The mode's exponent has been read. -/
theorem State.pmbusDone_mode {v : BitVec 8} (sent : s.power.lostArb = false) (asked : s.power.txn = some .readMode)
    (linear : v.toNat / 32 = 0) (ht : t = ({ s with power := { s.power with txn := none } }).setBit .pwrVrm 16 false) :
    s.pmbusDone (.voutMode v) = ({ t with power := { t.power with exponent := some (sext 5 (v.toNat % 32)) } }).pmbusNext := by
  subst ht
  simp only [State.pmbusDone, sent, asked, linear, Bool.false_eq_true, if_false, if_true]

theorem State.pmbusDone_sent {n : Nat} (sent : s.power.lostArb = false) (asked : s.power.txn = some (.send n)) : s.pmbusDone .sent =
    (({ s with power := { s.power with txn := none } }).setBit .pwrVrm 16 false).pmbusNext := by
  simp only [State.pmbusDone, sent, asked, Bool.false_eq_true, if_false]

theorem State.pmbusDone_nak {n : Nat} (sent : s.power.lostArb = false) (asked : s.power.txn = some (.send n)) : s.pmbusDone .nak =
    ((({ s with power := { s.power with txn := none } }).setBit .pwrVrm 16 false).setBit .pwrVrm 17 true).pmbusNext := by
  simp only [State.pmbusDone, sent, asked, Bool.false_eq_true, if_false]

/-- Settles O17: each row's own condition chooses the branch of its effect. -/
theorem powerCommandsComplete : Obligations.PowerCommandsComplete := by
  refine ⟨?dip, ?rise, ?riseLost, ?assert, ?trip, ?release, ?falls, ?returns, ?mode, ?sent, ?nak, ?bus, ?vreq, ?vrm, ?lane, ?warm⟩
  case dip =>
    intro s t down ht
    exact congrArg (fun u => Host.Outcome.next (aside s u)) (State.railsRise_dip down ht)
  case rise =>
    intro s t u off down long vaon ht hu
    subst hu
    exact congrArg (fun u => Host.Outcome.next (aside s u)) (State.railsRise_off down long (ht.trans (if_pos vaon).symm))
  case riseLost =>
    intro s t u off down long lost ht hu
    subst hu
    have absent : ¬ s.power.vaon = true := Bool.eq_false_iff.1 lost
    exact congrArg (fun u => Host.Outcome.next (aside s u)) (State.railsRise_off down long (ht.trans (if_neg absent).symm))
  case assert =>
    rintro s _ run rfl
    exact exec_sysRstAssert run
  case trip =>
    intro s t rail run ht
    exact exec_supervisorTrip run rail ht
  case release =>
    intro s reset run up
    exact congrArg (fun u => Host.Outcome.next (noRewind s u)) (if_pos ⟨reset, run, up⟩)
  case falls => exact fun s => rfl
  case returns => exact fun s _ => rfl
  case mode =>
    intro s t v run sent asked linear ht
    exact exec_pmbusDone run (State.pmbusDone_mode sent asked linear ht)
  case sent =>
    intro s n run sent asked
    exact exec_pmbusDone run (State.pmbusDone_sent sent asked)
  case nak =>
    intro s n run sent asked
    exact exec_pmbusDone run (State.pmbusDone_nak sent asked)
  case bus =>
    intro s run
    exact live_running run (fun t => { t with power := { t.power with lostArb := false } })
  case vreq =>
    rintro s _ m acc data free lo rfl
    have written := State.writeReg_rw (r := ⟨.pwrVreq, 0, 0⟩) (rw := 0x3FF) rfl rfl ⟨nofun, nofun⟩ (and_accMask lo (d := 0x3FF) (by decide))
      (by decide) free.2 m.toNat data.toNat
    exact live_writeReg free.1 written
  case vrm =>
    intro s m acc data free _
    exact live_writeReg free.1 (State.writeReg_standsAlone rfl ..)
  case lane =>
    intro s m acc data free _ z hz granted
    exact liveC_eq (f := (·.writeReg m.toNat ⟨.pwrLane, 0, 0⟩ acc data.toNat)) free.1 (State.writeReg_standsAlone rfl ..) hz granted
  case warm =>
    intro s m run _
    exact live_writeReg run ((if_pos rfl).trans (if_pos ⟨nofun, rfl⟩))

/-! ### Time never goes back (R29) -/

/-- A pin's level changes, and what follows of it in a part that runs, without Time going back. -/
theorem live_now {u : State} (now : u.time = s.time) (f : State → State) : ∃ t, live u f = .next t ∧ s.time.now ≤ t.time.now := by
  obtain ⟨t, e, -, later⟩ := live_spec u f
  exact ⟨t, e, now ▸ later⟩

/-- No row but those that may set Time back takes it back. -/
theorem exec_now {c : Instr} (forward : setsTimeBack c = false) (s : State) : ∃ t, exec c s = .next t ∧ s.time.now ≤ t.time.now := by
  cases acts : actsInColdReset c with
  | false =>
    obtain ⟨f, e⟩ := exec_live c s acts forward
    exact e ▸ live_now rfl f
  | true =>
    cases c
    case railsUp | sysRstAssert | supervisorTrip | vaonReturn => cases forward
    case sysRstRelease | vaonLost | sidebandRead | bypass | idcode | samplePreload | extest | extestPulse | extestTrain | highz | clamp
        | tamperDetectStandby | tamperSeen =>
      exact ⟨_, rfl, noRewind_now ▸ Nat.le_max_left ..⟩
    case hostPerstAssert port =>
      change ∃ t, execHostPerstAssert port s = .next t ∧ _
      rw [execHostPerstAssert, liveC]
      exact live_now rfl _
    case hostPerstDeassert port =>
      change ∃ t, execHostPerstDeassert port s = .next t ∧ _
      rw [execHostPerstDeassert]
      exact live_now rfl _
    case presenceDetectChange k present =>
      change ∃ t, execPresenceDetectChange k present s = .next t ∧ _
      rw [execPresenceDetectChange, liveC]
      exact live_now rfl _
    all_goals cases acts

/-- Settles O29: the command at the queue's front does not take Time back, and the queue's rest stays. -/
theorem timeNeverGoesBack : Obligations.TimeNeverGoesBack := by
  rintro T s t ⟨from_, forward⟩ stepped
  cases queue : s.pending with
  | nil =>
    obtain rfl := Host.Outcome.next.inj ((step_nil queue).symm.trans stepped)
    exact ⟨from_, forward⟩
  | cons c rest =>
    rw [step_cons c rest queue] at stepped
    rw [queue] at forward
    obtain ⟨u, e, later⟩ := exec_now (forward c List.mem_cons_self) { s with pending := rest }
    obtain ⟨v, e', kept⟩ := exec_next_pending c { s with pending := rest }
    obtain rfl := Host.Outcome.next.inj (e.symm.trans stepped)
    obtain rfl := Host.Outcome.next.inj (e'.symm.trans e)
    exact ⟨Nat.le_trans from_ later, fun d waits => forward d (List.mem_cons_of_mem c (kept.subst (motive := (d ∈ ·)) waits))⟩

/-- Settles O30: Time is 0 and nothing waits, and the FIFOs and the memory are empty. -/
theorem invariantsHoldAtReset : Obligations.InvariantsHoldAtReset :=
  ⟨⟨Nat.le_refl _, fun _ waits => absurd waits List.not_mem_nil⟩, rfl, Nat.zero_le _, Nat.zero_le _, rfl, rfl⟩

end Sys2Proof.Machine
end

section
/-! PROOFS. What every operation of the state keeps: the FIFOs' bounds (R42, R329) and the canonical form of the Central Store's memory
(R282). -/

namespace Sys2Proof.Machine

variable {s t u : State}

/-! ### The form that is kept -/

/-- The form of the error FIFO, of the drain FIFO and of the Central Store's memory. -/
def Kept (err fifo : List LogRecord) (mem : List Host.Cell) : Prop := err.length ≤ 64 ∧ fifo.length ≤ 512 ∧ Memory.wf mem = true

/-- A state's FIFOs keep their bounds, and its memory its form. -/
def Formed (s : State) : Prop := Kept s.errFifo s.log.fifo s.store.mem

theorem formed_iff (s : State) : Formed s ↔ Kept s.errFifo s.log.fifo s.store.mem := Iff.rfl

theorem Formed.ite {c : Prop} [Decidable c] (hs : c → Formed s) (ht : ¬ c → Formed t) : Formed (if c then s else t) := by
  split
  · exact hs ‹_›
  · exact ht ‹_›

theorem Formed.iteSnd {β : Type} {c : Prop} [Decidable c] {x y : β × State} (hx : c → Formed x.2) (hy : ¬ c → Formed y.2) :
    Formed (if c then x else y).2 := by
  split
  · exact hx ‹_›
  · exact hy ‹_›

/-- A pair is taken apart, and its state goes on. -/
theorem Formed.bind {β : Type} {x : β × State} {f : β → State → State} (hx : Formed x.2) (hf : ∀ b t, Formed t → Formed (f b t)) :
    Formed (match x with | (b, t) => f b t) := hf _ _ hx

theorem Formed.of_eq {β : Type} {x : β × State} {b : β} (hx : Formed x.2) (e : x = (b, t)) : Formed t := by
  rw [e] at hx
  exact hx

theorem Formed.of_eq₂ {β γ : Type} {x : β × γ × State} {b : β} {c : γ} (hx : Formed x.2.2) (e : x = (b, c, t)) : Formed t :=
  Formed.of_eq (x := x.2) hx (congrArg Prod.snd e)

theorem Formed.foldl {α : Type} {f : State → α → State} (hf : ∀ t a, Formed t → Formed (f t a)) {l : List α} (h : Formed s) :
    Formed (l.foldl f s) :=
  List.foldlRecOn l f h fun t ht a _ => hf t a ht

/-- The same where the state stands in a part of what is folded. -/
theorem Formed.foldlOf {α β : Type} (state : β → State) {f : β → α → β} (hf : ∀ x a, Formed (state x) → Formed (state (f x a))) {l : List α}
    {x : β} (h : Formed (state x)) : Formed (state (l.foldl f x)) :=
  List.foldlRecOn (motive := fun y => Formed (state y)) l f h fun y hy a _ => hf y a hy

/-- The FIFOs of a list that has no more records keep their bounds. -/
theorem Kept.shorter {e e' f f' : List LogRecord} {m : List Host.Cell} (h : Kept e f m) (he : e'.length ≤ e.length) (hf : f'.length ≤ f.length) :
    Kept e' f' m :=
  h.imp he.trans (And.imp_left hf.trans)

theorem Kept.mem {e f : List LogRecord} {m m' : List Host.Cell} (h : Kept e f m) (hm : Memory.wf m = true → Memory.wf m' = true) : Kept e f m' :=
  h.imp_right (And.imp_right hm)

/-! Replacing another part of a state keeps its form. (The kernel compares a state that is written out with the one it was made from by
evaluating both, so a proof about a long term cites these, which are about a variable.) -/

theorem Formed.withTime (h : Formed s) {x : TimeCore} : Formed { s with time := x } := h

theorem Formed.withArb (h : Formed s) {x : Arbiters} : Formed { s with arb := x } := h

theorem Formed.withBus (h : Formed s) {x : BusReply} : Formed { s with bus := x } := h

theorem Formed.withPower (h : Formed s) {x : Power} : Formed { s with power := x } := h

theorem Formed.withFenuz (h : Formed s) {x : Fenuz} : Formed { s with fenuz := x } := h

theorem Formed.withAna (h : Formed s) {a : Analogue} : Formed { s with ana := a } := h

theorem Formed.withAnaCrypto (h : Formed s) {a : Analogue} {x : Crypto} : Formed { s with ana := a, crypto := x } := h

theorem Formed.withLatent (h : Formed s) {x : Tab (Option (BitVec 64))} : Formed { s with latent := x } := h

theorem Formed.withSide (h : Formed s) {x : Sideband} : Formed { s with side := x } := h

theorem Formed.withVault (h : Formed s) {x : Vault} : Formed { s with vault := x } := h

theorem Formed.withRemap (h : Formed s) {m : Tab (Option Nat)} {l u : List Nat} :
    Formed { s with store := { s.store with remap := m, lasting := l, unret := u } } := h

theorem Formed.withScrubPos (h : Formed s) {k : RegKind} {hi lo v i j : Nat} {x : Tab Nat} :
    Formed { s.setFld k hi lo v i j with store := { s.store with scrubPos := x } } := h

/-- An empty drain FIFO keeps its bound. -/
theorem Formed.emptied (h : Formed s) {since : Option Nat} : Formed { s with log := { s.log with fifo := [], since := since } } :=
  Kept.shorter h (Nat.le_refl _) (Nat.zero_le _)

/-- A table of which entries are left out stays in canonical form. -/
theorem tabWfFrom_filter {α : Type} [DecidableEq α] (d : Nat → α) (p : Nat × α → Bool) : ∀ (lo lo' : Option Nat) (m : Tab α),
    (∀ l ∈ lo', ∃ k ∈ lo, l ≤ k) → tabWfFrom d lo m = true → tabWfFrom d lo' (m.filter p) = true
  | _, _, [], _, _ => by simp [tabWfFrom]
  | lo, lo', (k, v) :: r, below, h => by
    simp only [tabWfFrom, Bool.and_eq_true] at h
    obtain ⟨⟨rises, listed⟩, rest⟩ := h
    have least : ∀ l ∈ lo', l < k := by
      intro l hl
      obtain ⟨j, rfl, le⟩ := below l hl
      exact Nat.lt_of_le_of_lt le (of_decide_eq_true rises)
    cases hp : p (k, v) with
    | true =>
      simp only [List.filter_cons, hp, if_true, tabWfFrom, Bool.and_eq_true]
      refine ⟨⟨?_, listed⟩, tabWfFrom_filter d p _ _ r (fun l hl => ⟨l, hl, Nat.le_refl l⟩) rest⟩
      cases lo' with
      | none => rfl
      | some l => exact decide_eq_true (least l rfl)
    | false =>
      simp only [List.filter_cons, hp, Bool.false_eq_true, if_false]
      exact tabWfFrom_filter d p _ _ r (fun l hl => ⟨k, rfl, (least l hl).le⟩) rest

theorem Memory.wf_filter {m : List Host.Cell} (p : Host.Cell → Bool) (h : Memory.wf m = true) : Memory.wf (m.filter p) = true :=
  tabWfFrom_filter _ p none none m (fun _ hl => absurd hl (Option.not_mem_none _)) h

/-! What follows has one lemma for each operation of the model, in the model's order: an operation keeps the form because each operation that
it is made of does. Only a few change what `Formed` speaks of: `logPush`, `logTake` and `logFlushAll` (the drain FIFO), `errPush` and `errPop`
(the error FIFO), `storeWrite`, `copyWord` and `zeroPlaces` (the memory), and the resets. -/

section

variable (h : Formed s)

include h

/-! ### Registers -/

theorem Formed.setRg {k v i j} : Formed (s.setRg k v i j) := h

theorem Formed.setFld {k hi lo v i j} : Formed (s.setFld k hi lo v i j) := h.setRg

theorem Formed.addFld {k hi lo n i j} : Formed (s.addFld k hi lo n i j) := h.setFld

theorem Formed.setBit {k b v i j} : Formed (s.setBit k b v i j) := h.setFld

/-! ### Shared operations: Time, the Stamp Log, faults, the arbiters and the store -/

theorem Formed.setTimeState {v} : Formed (s.setTimeState v) := by
  unfold State.setTimeState
  grind [formed_iff, Formed.setFld, Formed.setBit]

theorem Formed.growAlign {now} : Formed (s.growAlign now) := by
  unfold State.growAlign
  grind [formed_iff, Formed.setFld]

theorem Formed.pass {now} : Formed (s.pass now) := Formed.ite (fun _ => h) fun _ => h.growAlign

theorem Formed.stampAt {dom now after} : Formed (s.stampAt dom now after).2 := h

theorem Formed.stamp {dom after} : Formed (s.stamp dom after).2 := h.stampAt

theorem Formed.emit {src time hop} : Formed (s.emit src time hop) := by
  unfold State.emit
  grind [formed_iff]

/-- A record enters the drain FIFO where it has room; what logs one sees to that. -/
theorem Formed.logPush {r} (room : s.log.fifo.length < 512) : Formed (s.logPush r) := by
  unfold State.logPush
  grind [formed_iff, Kept, length_logPlace, Formed.emit]

theorem Formed.logLost : Formed s.logLost := by
  unfold State.logLost
  grind [formed_iff, Formed.logPush, ! Formed.stamp, State.stamp_log]

theorem Formed.logAlways {r} : Formed (s.logAlways r) := by
  unfold State.logAlways
  grind [formed_iff, Formed.logPush, Formed.logLost]

theorem Formed.logEnter : Formed s.logEnter := by
  unfold State.logEnter
  grind [formed_iff, Formed.logPush, Formed.logLost]

theorem Formed.logTurn {dom} : Formed (s.logTurn dom) := by
  unfold State.logTurn
  grind [formed_iff, Formed.foldl, Formed.logEnter]

theorem Formed.logKept {r} : Formed (s.logKept r) := by
  have kept : Formed (s.logLost.logTurn r.stamp.domain) := h.logLost.logTurn
  refine Formed.ite (fun _ => ?drops) fun room => kept.logPush (Nat.lt_of_lt_of_le (Nat.not_le.1 room) (by decide))
  have counted := kept.addFld (k := .logLost) (hi := 31) (lo := 0) (n := 1) (i := 0) (j := 0)
  rw [formed_iff, State.addFld_log] at counted
  exact counted

theorem Formed.logClass {bit r} : Formed (s.logClass bit r) := Formed.ite (fun _ => h.logKept) fun _ => h

theorem Formed.errPush {r} : Formed (s.errPush r) := by
  unfold State.errPush
  grind [formed_iff, Kept, Formed.addFld]

theorem Formed.setHop {y} : Formed (s.setHop y) := h

theorem Formed.fault {dom sub unit arg0 arg1 after hop} : Formed (s.fault dom sub unit arg0 arg1 after hop) := by
  unfold State.fault
  grind [formed_iff, ! Formed.stamp, Formed.logLost, Formed.logAlways, Formed.errPush]

theorem Formed.ircCause {n time} : Formed (s.ircCause n time) := h

theorem Formed.staleRecord {dom sub unit arg0 arg1} : Formed (s.staleRecord dom sub unit arg0 arg1) := by
  unfold State.staleRecord
  grind [formed_iff, Formed.addFld, ! Formed.stamp, Formed.logAlways, Formed.errPush]

theorem Formed.setBox {c b} : Formed (s.setBox c b) := h

theorem Formed.setChan {c x} : Formed (s.setChan c x) := h

theorem Formed.setSq {q x} : Formed (s.setSq q x) := h

theorem Formed.setCq {q x} : Formed (s.setCq q x) := h

theorem Formed.setMover {m x} : Formed (s.setMover m x) := h

theorem Formed.setDrive {d x} : Formed (s.setDrive d x) := h

theorem Formed.setCore {n x} : Formed (s.setCore n x) := h

theorem Formed.setPort {p x} : Formed (s.setPort p x) := h

theorem Formed.setLink {k x} : Formed (s.setLink k x) := h

theorem Formed.setMsix {p v x} : Formed (s.setMsix p v x) := h

theorem Formed.reply {d} : Formed (s.reply d) := h

theorem Formed.linkAnswers {o} : Formed (s.linkAnswers o) := by
  unfold State.linkAnswers
  grind [formed_iff, Formed.setLink]

theorem Formed.extWrite {z w} : Formed (s.extWrite z w) := h

theorem Formed.tetherHold {r} : Formed (s.tetherHold r) := h.addFld

theorem Formed.tetherGrant {r lines} : Formed (s.tetherGrant r lines) := h

theorem Formed.takeCredits {needs} : Formed (s.takeCredits needs) := by
  unfold State.takeCredits
  grind [formed_iff, Formed.foldl]

theorem Formed.giveCredits {needs} : Formed (s.giveCredits needs) := by
  unfold State.giveCredits
  grind [formed_iff, Formed.foldl]

theorem Formed.giveUpRow {g} : Formed (s.giveUpRow g) := by
  unfold State.giveUpRow
  grind [formed_iff, Formed.giveCredits]

theorem Formed.rowGranted {r p} : Formed (s.rowGranted r p) := Formed.ite (fun _ => h.giveCredits) fun _ => h

theorem Formed.rowEnds {r} : Formed (s.rowEnds r) := by
  unfold State.rowEnds
  grind [formed_iff, Formed.giveCredits]

theorem Formed.claim {r} : Formed (s.claim r) := by
  unfold State.claim
  grind [formed_iff, Formed.giveUpRow, Formed.rowGranted, Formed.rowEnds]

theorem Formed.claims {who l} : Formed (s.claims who l) := by
  unfold State.claims
  grind [formed_iff, Formed.foldl, Formed.claim]

theorem Formed.heldByTether {r} : Formed (s.heldByTether r) := by
  unfold State.heldByTether
  grind [formed_iff, Formed.tetherHold]

theorem Formed.rowPresent {r} : Formed (s.rowPresent r) := by
  unfold State.rowPresent
  grind [formed_iff, Formed.takeCredits]

theorem Formed.withdraw {p} : Formed (s.withdraw p) := by
  unfold State.withdraw
  grind [formed_iff, Formed.giveCredits]

theorem Formed.keepGrants {l} : Formed (s.keepGrants l) := by
  unfold State.keepGrants
  grind [formed_iff, Formed.foldl, Formed.rowGranted, Formed.rowEnds]

theorem Formed.queueInbound {r gone} : Formed (s.queueInbound r gone) := by
  unfold State.queueInbound
  grind [formed_iff]

theorem Formed.orWaits (ht : Formed t) : Formed (s.orWaits t) := by
  unfold State.orWaits
  grind [formed_iff, Formed.giveUpRow, Formed.heldByTether, Formed.rowPresent, Formed.keepGrants, Formed.queueInbound]

theorem Formed.attempt {f : State → State} (hf : Formed (f s)) : Formed (s.attempt f) := by
  unfold State.attempt
  grind [formed_iff, Formed.orWaits]

theorem Formed.stayInPlace : Formed s.stayInPlace := by
  unfold State.stayInPlace
  grind [formed_iff, Formed.foldl, Formed.fault]

theorem Formed.pageLasting {p} : Formed (s.pageLasting p) := by
  unfold State.pageLasting
  grind [formed_iff, Formed.stayInPlace]

theorem Formed.corrected {who w} : Formed (s.corrected who w) := by
  unfold State.corrected
  grind [formed_iff, Formed.setRg, Formed.addFld, Formed.fault, Formed.pageLasting]

theorem Formed.uncorrectable {who w} : Formed (s.uncorrectable who w) := by
  unfold State.uncorrectable
  grind [formed_iff, Formed.setRg, Formed.addFld, Formed.fault, Formed.pageLasting]

theorem Formed.readWord {who w} : Formed (s.readWord who w) := by
  unfold State.readWord
  grind [formed_iff, Formed.corrected, Formed.uncorrectable]

theorem Formed.upset {l} : Formed (s.upset l) := by
  induction l generalizing s with
  | nil => exact h
  | cons x r ih => exact ih h

theorem Formed.storeRead {who a n name} : Formed (s.storeRead who a n name).2.2 := by
  unfold State.storeRead
  grind [formed_iff, Formed.foldl, Formed.claims, Formed.readWord]

theorem Formed.storeWrite {who w name} : Formed (s.storeWrite who w name) := by
  unfold State.storeWrite
  extract_lets places t
  have words : Formed t := Formed.foldl (fun t x ht => ?word) h.claims
  case word => grind [formed_iff, Formed.corrected]
  exact Kept.mem words (Memory.wf_memWriteAll _)

theorem Formed.put {who a d name} : Formed (s.put who a d name) := h.storeWrite

theorem Formed.masterRead {who a n name} : Formed (s.masterRead who a n name).2.2 := by
  unfold State.masterRead
  extract_lets l
  split
  · exact h.storeRead
  · refine Formed.foldlOf (fun x : List Byte × Option Nat × State => x.2.2) (fun x e hx => ?_) h
    dsimp only
    split
    · exact hx
    · exact hx.storeRead

theorem Formed.masterWrite {who w name} : Formed (s.masterWrite who w name) := h.storeWrite

end

end Sys2Proof.Machine
end

section
/-! PROOFS. MemoryAndFifosKeepTheirForm (R42, R282, R329): the operations of channels, sessions, movers and Carillon keep the form that
  MemoryAndFifosKeepTheirForm asks. -/

namespace Sys2Proof.Machine

variable {s t u : State}

section

variable (h : Formed s)

include h

/-! ### Ends of channel commands and their batches -/

theorem Formed.sqLoad {q} : Formed (s.sqLoad q) := h.setSq

theorem Formed.cqLoad {q} : Formed (s.cqLoad q) := h.setCq

theorem Formed.cqeDecided {y e} : Formed (s.cqeDecided y e).2 := by
  unfold State.cqeDecided
  grind [formed_iff, Formed.setCq]

theorem Formed.closeBatches {q y} : Formed (s.closeBatches q y).2 := by
  unfold State.closeBatches
  refine Formed.foldlOf Prod.snd (x := (false, _)) (fun x b hx => ?_) h.setSq
  exact hx.cqeDecided

theorem Formed.decideEntry {q n code cause y} : Formed (s.decideEntry q n code cause y).2 := by
  unfold State.decideEntry
  grind [formed_iff, Formed.setSq, ! Formed.closeBatches]

theorem Formed.handOutcome {c code} : Formed (s.handOutcome c code).2 := by
  unfold State.handOutcome
  grind [formed_iff, ! Formed.cqeDecided, ! Formed.decideEntry]

theorem Formed.progressed {c} : Formed (s.progressed c) := h.setChan

theorem Formed.readOver {c} : Formed (s.readOver c) := h.setChan

theorem Formed.goFetch {c addr} : Formed (s.goFetch c addr) := h.setRg.setChan.progressed

theorem Formed.goCond {c} : Formed (s.goCond c) := h.setRg.setChan.progressed

theorem Formed.resumeRun {c entry} : Formed (s.resumeRun c entry) := h.setFld.setChan.goFetch

theorem Formed.endProgram {c code} : Formed (s.endProgram c code) := by
  unfold State.endProgram
  grind [formed_iff, Formed.setChan, ! Formed.handOutcome]

theorem Formed.enterSuspended {c} : Formed (s.enterSuspended c) := by
  unfold State.enterSuspended
  grind [formed_iff, Formed.setChan, Formed.resumeRun, Formed.endProgram]

theorem Formed.suspend {c} : Formed (s.suspend c) := by
  unfold State.suspend
  grind [formed_iff, Formed.setRg, Formed.setChan, ! Formed.handOutcome, Formed.enterSuspended]

theorem Formed.writeBack {c w} : Formed (s.writeBack c w) := by
  unfold State.writeBack
  grind [formed_iff, Formed.extWrite, Formed.storeWrite]

theorem Formed.finishCmd {c} : Formed (s.finishCmd c) := by
  unfold State.finishCmd
  grind [formed_iff, Formed.setChan, Formed.progressed, Formed.goFetch, Formed.goCond, Formed.endProgram, Formed.suspend,
    Formed.writeBack]

theorem Formed.beginFinish {c} : Formed (s.beginFinish c) := by
  unfold State.beginFinish
  grind [formed_iff, Formed.setChan, Formed.finishCmd]

theorem Formed.lastEnd {c} : Formed (s.lastEnd c) := by
  unfold State.lastEnd
  grind [formed_iff, Formed.logKept, Formed.setChan]

theorem Formed.dispose {c wb outcome next replace} : Formed (s.dispose c wb outcome next replace) := by
  unfold State.dispose
  grind [formed_iff, Formed.setChan, Formed.beginFinish, Formed.lastEnd]

theorem Formed.guardStop {c next} : Formed (s.guardStop c next) := h.lastEnd

theorem Formed.boundary {c} : Formed (s.boundary c) := by
  unfold State.boundary
  grind [formed_iff, Formed.setChan, Formed.dispose, Formed.guardStop]

theorem Formed.dropWaits {c} : Formed (s.dropWaits c) := h

theorem Formed.releaseUnits {c} : Formed (s.releaseUnits c) := by
  unfold State.releaseUnits
  grind [formed_iff, Formed.dropWaits]

theorem Formed.ended {c code detail resid target} : Formed (s.ended c code detail resid target) := by
  unfold State.ended
  grind [formed_iff, ! Formed.stamp, Formed.logKept, Formed.setChan, Formed.progressed, Formed.releaseUnits]

theorem Formed.endCmd {c code detail resid target} : Formed (s.endCmd c code detail resid target) := h.ended.boundary

theorem Formed.checkFail {c code detail resid pos} : Formed (s.checkFail c code detail resid pos) := h.setChan.endCmd

theorem Formed.haltChan {c f fetch at_} : Formed (s.haltChan c f fetch at_) := by
  unfold State.haltChan
  grind [formed_iff, Formed.setRg, Formed.ircCause, Formed.setChan, Formed.dropWaits]

theorem Formed.cpError {c f fetch} : Formed (s.cpError c f fetch) := h.fault.haltChan

/-! ### Operands of commands -/

theorem Formed.haltStream {c f fetch at_} : Formed (s.haltStream c f fetch at_) := by
  unfold State.haltStream
  grind [formed_iff, Formed.setRg, Formed.haltChan]

/-! ### Draws, keys and sessions -/

theorem Formed.draw {i len} : Formed (s.draw i len).2 := by
  unfold State.draw
  grind [formed_iff]

theorem Formed.drawGood {inst len good n} : Formed (s.drawGood inst len good n).2 := by
  induction n generalizing s with
  | zero => exact h
  | succ n ih => 
    unfold State.drawGood
    grind [! Formed.draw]

/-- `Algo.scalarFrom` stands as a variable, so that no tactic evaluates the order of the curve in it. -/
theorem Formed.drawScalarIn {inst n} : Formed (s.drawScalarIn inst n).2 := by
  delta State.drawScalarIn State.drawScalarIn._f
  generalize Algo.scalarFrom = scalar
  induction n generalizing s with
  | zero => exact h
  | succ n ih =>
    dsimp only [Nat.brecOn]
    split
    · exact h.draw
    · exact ih h.draw

theorem Formed.drawScalar {inst} : Formed (s.drawScalar inst).2 := h.drawScalarIn

theorem Formed.signIn {inst scalar digest n} : Formed (s.signIn inst scalar digest n).2 := by
  induction n generalizing s with
  | zero => exact h
  | succ n ih => 
    unfold State.signIn
    grind [! Formed.drawScalar]

theorem Formed.holdEntry {c i ep units} : Formed (s.holdEntry c i ep units) := by
  unfold State.holdEntry
  grind [formed_iff]

theorem Formed.keyReady {c b} : Formed (s.keyReady c b) := by
  unfold State.keyReady
  grind [formed_iff, Formed.setChan, Formed.checkFail, Formed.holdEntry]

theorem Formed.sessionInvalid {c} : Formed (s.sessionInvalid c) := h.checkFail

theorem Formed.startRead {a n} : Formed (s.startRead a n).2 := by
  unfold State.startRead
  grind [formed_iff, ! Formed.storeRead]

theorem Formed.sessionStart {c} : Formed (s.sessionStart c) := by
  unfold State.sessionStart
  grind [formed_iff, Formed.setChan, Formed.cpError, Formed.keyReady, Formed.sessionInvalid, ! Formed.startRead]

theorem Formed.startExec {c} : Formed (s.startExec c) := by
  unfold State.startExec
  grind [formed_iff, Formed.setRg, Formed.addFld, Formed.setChan, Formed.sessionStart]

theorem Formed.patternRead {p} : Formed (s.patternRead p).2 := by
  unfold State.patternRead
  split
  · exact h
  · split
    · exact h.startRead.of_eq ‹_›
    · have read := h.startRead.of_eq ‹_›
      split
      · exact read
      · exact read

theorem Formed.cmdStart {c x addr} : Formed (s.cmdStart c x addr) := Formed.ite (fun _ => h.stamp.logKept) fun _ => h

theorem Formed.memberCounted {c addr x code detail pos} : Formed (s.memberCounted c addr x code detail pos) := by
  unfold State.memberCounted
  grind [formed_iff, Formed.setRg, Formed.setChan, Formed.progressed, Formed.checkFail]

theorem Formed.commandRead {c bytes} : Formed (s.commandRead c bytes) := by
  unfold State.commandRead
  grind [formed_iff, Formed.setRg, Formed.setChan, Formed.progressed, Formed.endCmd, Formed.checkFail, Formed.cpError, Formed.startExec, !
    Formed.patternRead, Formed.cmdStart, Formed.memberCounted]

theorem Formed.fillStart : Formed s.fillStart := by
  unfold State.fillStart
  grind [formed_iff]

theorem Formed.fillComplete {n} : Formed (s.fillComplete n) := by
  unfold State.fillComplete
  grind [formed_iff, Formed.foldl, Formed.progressed, Formed.keyReady, Formed.sessionInvalid]

theorem Formed.evict : Formed s.evict := by
  unfold State.evict
  grind [formed_iff]

theorem Formed.zeroiseCache : Formed s.zeroiseCache := h

/-! ### Movers and their bursts -/

theorem Formed.setActive {m t} : Formed (s.setActive m t) := h.setMover

theorem Formed.dropBursts {m l} : Formed (s.dropBursts m l) := by
  unfold State.dropBursts
  grind [formed_iff, Formed.foldl, Formed.giveCredits]

theorem Formed.failActive {m f} : Formed (s.failActive m f) := by
  unfold State.failActive
  grind [formed_iff, Formed.setActive, Formed.dropBursts]

theorem Formed.failNow {m f} : Formed (s.failNow m f) := h.setMover.failActive

theorem Formed.burstFails {m tracked b f} : Formed (s.burstFails m tracked b f) := by
  unfold State.burstFails
  grind [formed_iff, Formed.setMover, Formed.dropBursts, Formed.failActive]

theorem Formed.present {r} (e : s.present r = some t) : Formed t := by
  unfold State.present at e
  grind [formed_iff]

theorem Formed.issueBurst {m b} : Formed (s.issueBurst m b) := h.setMover

theorem Formed.tryBurst {m t earlier b} : Formed (s.tryBurst m t earlier b) := by
  unfold State.tryBurst
  extract_lets put
  have kept : ∀ {u : State} {b}, Formed u → Formed (put u b) := fun hu => hu.setActive
  clear_value put
  refine Formed.ite (fun _ => h) fun _ => ?_
  split
  case h_1 | h_2 | h_4 | h_5 =>
    grind [formed_iff, Formed.tetherHold, Formed.takeCredits, Formed.giveCredits, Formed.failNow, → Formed.present, Formed.issueBurst]
  case h_3 =>
    dsimp only
    split
    · exact h
    · refine Formed.ite (fun _ => Formed.ite (fun _ => kept h.withArb.tetherHold) fun _ => ?_) fun _ => h
      split
      · exact h
      · exact kept (Formed.takeCredits (Formed.present h.withArb ‹_›))
  case h_6 => exact h

theorem Formed.tryBursts {m n} : Formed (s.tryBursts m n) := by
  induction n generalizing s with
  | zero => exact h
  | succ n ih => 
    unfold State.tryBursts
    grind [Formed.tryBurst]

theorem Formed.tableFails {m t i} : Formed (s.tableFails m t i).2 := by
  unfold State.tableFails
  grind [formed_iff, Formed.setHop, Formed.claim, ! Formed.storeRead]

theorem Formed.cutBurst {m} : Formed (s.cutBurst m) := by
  unfold State.cutBurst
  grind [formed_iff, Formed.setMover, Formed.orWaits, Formed.failNow, ! Formed.tableFails]

theorem Formed.cutBursts {m n} : Formed (s.cutBursts m n) := by
  induction n generalizing s with
  | zero => exact h
  | succ n ih => exact ih h.cutBurst

theorem Formed.emitOut {m c t pre post keep} : Formed (s.emitOut m c t pre post keep) := by
  unfold State.emitOut
  grind [formed_iff, Formed.setChan, Formed.setMover, Formed.giveCredits]

theorem Formed.toTracker {m} : Formed (s.toTracker m) := by
  unfold State.toTracker
  grind [formed_iff, Formed.setMover]

theorem Formed.pump {m} : Formed (s.pump m) := by
  unfold State.pump
  grind [formed_iff, Formed.tryBursts, Formed.cutBursts, Formed.toTracker]

theorem Formed.latchMov {m chan f} : Formed (s.latchMov m chan f) := h.setRg.setRg

theorem Formed.failRecord {m t f} : Formed (s.failRecord m t f) := by
  unfold State.failRecord
  grind [formed_iff, Formed.fault, Formed.latchMov]

theorem Formed.finishFailure {m t f tracked} : Formed (s.finishFailure m t f tracked) := by
  unfold State.finishFailure
  grind [formed_iff, Formed.setBit, Formed.emit, Formed.ircCause, Formed.setMover, Formed.haltStream, Formed.dropBursts, Formed.pump,
    Formed.failRecord]

theorem Formed.ripeFailures {m} : Formed (s.ripeFailures m) := by
  unfold State.ripeFailures
  grind [formed_iff, Formed.finishFailure]

theorem Formed.shadowTransfer {m hop cause} : Formed (s.shadowTransfer m hop cause).2 := by
  unfold State.shadowTransfer
  grind [formed_iff, Formed.setHop, Formed.claim, ! Formed.storeRead]

theorem Formed.directDone {m t} : Formed (s.directDone m t) := by
  unfold State.directDone
  grind [formed_iff, Formed.setRg, Formed.setBit, Formed.emit, Formed.ircCause]

theorem Formed.reapDirect {m} : Formed (s.reapDirect m) := by
  unfold State.reapDirect
  grind [formed_iff, Formed.setMover, Formed.pump, Formed.directDone]

theorem Formed.work {m} : Formed (s.work m) := by
  unfold State.work
  grind [formed_iff, Formed.pump, Formed.ripeFailures, Formed.reapDirect]

theorem Formed.rowCommits {r a} : Formed (s.rowCommits r a) := Formed.ite (fun _ => h.rowPresent) fun _ => h

theorem Formed.retryWith {go : State → Nat → State} (hgo : ∀ t n, Formed t → Formed (go t n)) : Formed (s.retryWith go) := by
  unfold State.retryWith
  grind [Formed.foldl, Formed.rowCommits]

theorem Formed.workAll {m} : Formed (s.workAll m) := by
  unfold State.workAll
  grind [formed_iff, Formed.work, Formed.retryWith]

theorem Formed.movGo {m hop cause} : Formed (s.movGo m hop cause) := by
  unfold State.movGo
  grind [formed_iff, Formed.setBit, Formed.setMover, ! Formed.shadowTransfer, Formed.work]

theorem Formed.movCancel {m} : Formed (s.movCancel m) := by
  unfold State.movCancel
  grind [formed_iff, Formed.setActive, Formed.dropBursts, Formed.workAll]

theorem Formed.movDropSh {m} : Formed (s.movDropSh m) := Formed.ite (fun _ => h.setMover) fun _ => h

theorem Formed.movRetry {m} : Formed (s.movRetry m) := by
  unfold State.movRetry
  grind [formed_iff, Formed.setBit, Formed.setHop, Formed.setMover, Formed.claim, ! Formed.storeRead, Formed.work]

theorem Formed.movAbort {m} : Formed (s.movAbort m) := Formed.ite (fun _ => h.setMover.work) fun _ => h

theorem Formed.modeChange {m} : Formed (s.modeChange m) := Formed.ite (fun _ => h.setMover) fun _ => h

/-! ### Control of channels -/

theorem Formed.stopAtWait {c w r} : Formed (s.stopAtWait c w r) := by
  unfold State.stopAtWait
  grind [formed_iff, Formed.setChan, Formed.dispose]

theorem Formed.chanStop {c} : Formed (s.chanStop c) := by
  unfold State.chanStop
  grind [formed_iff, Formed.setChan, Formed.endProgram, Formed.boundary, Formed.endCmd, Formed.stopAtWait]

theorem Formed.chanResume {c cause} : Formed (s.chanResume c cause) := by
  unfold State.chanResume
  grind [formed_iff, Formed.setChan, Formed.resumeRun]

theorem Formed.dropOn {c m} : Formed (s.dropOn c m) := by
  unfold State.dropOn
  grind [formed_iff, Formed.setMover, Formed.withdraw, Formed.dropBursts, Formed.workAll]

theorem Formed.dropMovers {c} : Formed (s.dropMovers c) := by
  unfold State.dropMovers
  grind [formed_iff, Formed.foldl, Formed.dropOn]

theorem Formed.issueRead {c} : Formed (s.issueRead c) := by
  unfold State.issueRead
  grind [formed_iff, Formed.foldl, Formed.setChan]

theorem Formed.issueReads : Formed s.issueReads := by
  unfold State.issueReads
  grind [formed_iff, Formed.foldl, Formed.issueRead]

theorem Formed.relRetry {c} : Formed (s.relRetry c) := by
  unfold State.relRetry
  grind [formed_iff, Formed.setChan, Formed.progressed, Formed.goFetch, Formed.releaseUnits, Formed.startExec]

theorem Formed.memberFails {c addr f} : Formed (s.memberFails c addr f) := by
  unfold State.memberFails
  grind [formed_iff, Formed.setRg, Formed.setChan, Formed.setMover, Formed.cpError, Formed.failNow, Formed.work]

theorem Formed.failedEnd {c} : Formed (s.failedEnd c) := by
  unfold State.failedEnd
  grind [formed_iff, Formed.setChan, Formed.ended]

theorem Formed.relAbort {c} : Formed (s.relAbort c) := by
  unfold State.relAbort
  grind [formed_iff, Formed.setChan, Formed.progressed, Formed.dispose, Formed.releaseUnits, Formed.failedEnd]

theorem Formed.rereadCmd {c addr rd} : Formed (s.rereadCmd c addr rd).2 := by
  unfold State.rereadCmd
  grind [formed_iff, Formed.linkAnswers, Formed.readOver, ! Formed.startRead]

theorem Formed.relSkip {c rd} : Formed (s.relSkip c rd) := by
  unfold State.relSkip
  grind [formed_iff, Formed.fault, Formed.setChan, Formed.progressed, Formed.goFetch, Formed.dispose, Formed.guardStop, Formed.boundary,
    Formed.releaseUnits, Formed.failedEnd, ! Formed.rereadCmd]

theorem Formed.chanRelease {c rel} : Formed (s.chanRelease c rel) := by
  unfold State.chanRelease
  grind [formed_iff, Formed.relRetry, Formed.relAbort, Formed.relSkip]

theorem Formed.loopEnd {c} : Formed (s.loopEnd c) := by
  unfold State.loopEnd
  grind [formed_iff, Formed.dispose]

theorem Formed.retryBegins {c} : Formed (s.retryBegins c) := Formed.ite (fun _ => h) fun _ => h.setChan

theorem Formed.retryEnds {c} : Formed (s.retryEnds c) := h.setChan

theorem Formed.graceEnds {c} : Formed (s.graceEnds c) := by
  unfold State.graceEnds
  dsimp only
  split
  · exact Formed.ite (fun _ => h.setChan) fun _ => h
  · exact h

theorem Formed.timeoutEnd {c} : Formed (s.timeoutEnd c) := by
  unfold State.timeoutEnd
  grind [formed_iff, Formed.addFld, Formed.fault, Formed.setChan, Formed.readOver, Formed.dispose, Formed.releaseUnits, Formed.endCmd,
    Formed.dropMovers]

theorem Formed.retryCheck {c} : Formed (s.retryCheck c) := by
  unfold State.retryCheck
  grind [formed_iff, Formed.retryBegins, Formed.retryEnds]

theorem Formed.retrySync : Formed s.retrySync := by
  unfold State.retrySync
  grind [formed_iff, Formed.foldl, Formed.retryCheck]

theorem Formed.fetchFails {c f} : Formed (s.fetchFails c f) := by
  unfold State.fetchFails
  grind [formed_iff, Formed.fault, Formed.setChan, Formed.dispose, Formed.cpError]

/-! ### Carillon -/

theorem Formed.carDrop {f} : Formed (s.carDrop f) := by
  unfold State.carDrop
  grind [formed_iff, Formed.setFld, Formed.addFld, Formed.setBit, ! Formed.stamp, Formed.logAlways, Formed.ircCause]

theorem Formed.setCarFlag {c v} : Formed (s.setCarFlag c v) := h.setBit

theorem Formed.waitFired {c time} : Formed (s.waitFired c time) := by
  unfold State.waitFired
  grind [formed_iff, Formed.setChan, Formed.boundary, Formed.ended]

theorem Formed.carFire {f} : Formed (s.carFire f).2 := h.stamp.logClass

theorem Formed.waitsFired {l} : Formed (s.waitsFired l) := by
  unfold State.waitsFired
  grind [formed_iff, Formed.foldl, Formed.waitFired]

theorem Formed.fireEach {l} : Formed (s.fireEach l).2.2 := by
  induction l generalizing s with
  | nil => exact h
  | cons x r ih => 
    unfold State.fireEach
    grind [Formed.carDrop, ! Formed.carFire]

theorem Formed.fireAll {l} : Formed (s.fireAll l).2 := h.fireEach.waitsFired

theorem Formed.strikeInput {i l} : Formed (s.strikeInput i l).2 := by
  unfold State.strikeInput
  grind [formed_iff, Formed.foldl, Formed.setRg, Formed.setFld, Formed.addFld, Formed.setBit, Formed.ircCause, Formed.setCore,
    Formed.movGo, Formed.chanResume]

theorem Formed.strikeAll {l l'} : Formed (s.strikeAll l l').2 := by
  induction l' generalizing s with
  | nil => exact h
  | cons x r ih => 
    unfold State.strikeAll
    grind [! Formed.strikeInput]

theorem Formed.cascade {done l n} : Formed (s.cascade done l n) := by
  induction n generalizing s done l with
  | zero => exact h
  | succ n ih => 
    unfold State.cascade
    grind [formed_iff, ! Formed.fireAll, ! Formed.strikeAll]

theorem Formed.ring {l} : Formed (s.ring l) := Formed.ite (fun _ => h) fun _ => h.cascade

theorem Formed.sourceEvent {src time hop} : Formed (s.sourceEvent src time hop) := h.ring

theorem Formed.deferredStrike : Formed s.deferredStrike := by
  unfold State.deferredStrike
  grind [formed_iff, ! Formed.strikeInput, Formed.cascade]

theorem Formed.lockdown {dom cause info} : Formed (s.lockdown dom cause info) := by
  unfold State.lockdown
  grind [formed_iff, Formed.foldl, Formed.setRg, Formed.setFld, Formed.addFld, Formed.setBit, ! Formed.stamp, Formed.logAlways,
    Formed.errPush, Formed.ircCause, Formed.setChan, Formed.zeroiseCache]

end

end Sys2Proof.Machine
end

section
/-! PROOFS. MemoryAndFifosKeepTheirForm (R42, R282, R329): the operations of queues, mailboxes, interrupts, links, the time core and the
  registers keep the form. -/

namespace Sys2Proof.Machine

variable {s t u : State}

section

variable (h : Formed s)

include h

/-! ### Control of queues -/

theorem Formed.ringSq {q} : Formed (s.ringSq q) := Formed.ite (fun _ => h) fun _ => Formed.ite (fun _ => h) fun _ => h.setSq

theorem Formed.newHead {q head ph} : Formed (s.newHead q head ph) := Formed.ite (fun _ => h) fun _ => h.fault

theorem Formed.ringCq {q acc data} : Formed (s.ringCq q acc data) :=
  Formed.ite (fun _ => h) fun _ => Formed.ite (fun _ => h) fun _ => h.newHead

theorem Formed.enableSq {q} : Formed (s.enableSq q) := Formed.ite (fun _ => h.setSq) fun _ => h

theorem Formed.disableSq {q} : Formed (s.disableSq q) := Formed.ite (fun _ => h.setSq.closeBatches) fun _ => h

theorem Formed.setCqEn {q v} : Formed (s.setCqEn q v) := Formed.ite (fun _ => h.setCq) fun _ => h

theorem Formed.windowMismatch {q} : Formed (s.windowMismatch q) := by
  unfold State.windowMismatch
  grind [formed_iff, Formed.setSq]

theorem Formed.ringFail {q kind cause} : Formed (s.ringFail q kind cause) := by
  unfold State.ringFail
  grind [formed_iff, Formed.fault, Formed.setSq, Formed.setCq, Formed.windowMismatch]

theorem Formed.ringsFail {k} : Formed (s.ringsFail k) := by
  unfold State.ringsFail
  grind [formed_iff, Formed.foldl, Formed.ringFail]

/-! ### Mailboxes -/

theorem Formed.enqueue {c out m} : Formed (s.enqueue c out m) := by
  unfold State.enqueue
  grind [formed_iff, ! Formed.stamp, Formed.emit, Formed.logClass, Formed.setBox]

theorem Formed.post {c out} : Formed (s.post c out).2 := by
  unfold State.post
  grind [formed_iff, Formed.enqueue]

theorem Formed.popMsg {c out} : Formed (s.popMsg c out) := by
  unfold State.popMsg
  grind [formed_iff, ! Formed.stamp, Formed.logClass, Formed.setBox]

theorem Formed.flushMsgs {c out} : Formed (s.flushMsgs c out) := by
  unfold State.flushMsgs
  grind [formed_iff, Formed.setFld, Formed.setBox]

theorem Formed.bump {c out} : Formed (s.bump c out) := by
  unfold State.bump
  grind [formed_iff, Formed.setFld]

theorem Formed.clearStale {c} : Formed (s.clearStale c) := by
  unfold State.clearStale
  grind [formed_iff, Formed.setBit, Formed.setBox]

theorem Formed.newRto {c v} : Formed (s.newRto c v) :=
  Formed.ite (fun _ => h.setFld.setBox) fun _ => Formed.ite (fun _ => h.setFld.setBox) fun _ => h.setFld

theorem Formed.readTimeout {c} : Formed (s.readTimeout c) := by
  unfold State.readTimeout
  grind [formed_iff, Formed.setBit, Formed.setBox]

/-! ### Interrupts -/

theorem Formed.damperHold {g id} : Formed (s.damperHold g id) := by
  unfold State.damperHold
  grind [formed_iff, Formed.addFld]

theorem Formed.enterSource {core n} : Formed (s.enterSource core n) := by
  unfold State.enterSource
  grind [formed_iff, Formed.setCore]

theorem Formed.decideEntryMc {core} : Formed (s.decideEntryMc core) := by
  unfold State.decideEntryMc
  grind [formed_iff, Formed.foldl, Formed.damperHold, Formed.enterSource]

theorem Formed.handlerReturns {core} : Formed (s.handlerReturns core) :=
  Formed.ite (fun _ => h.decideEntryMc) fun _ => h.decideEntryMc.setCore

theorem Formed.lateArrival {core} : Formed (s.lateArrival core) := by
  unfold State.lateArrival
  grind [formed_iff, Formed.enterSource]

theorem Formed.eoi {core n} : Formed (s.eoi core n) := h.setCore

theorem Formed.idledNow : Formed s.idledNow := h

theorem Formed.damperMark {g id} : Formed (s.damperMark g id) := by
  unfold State.damperMark
  grind [formed_iff, Formed.addFld]

theorem Formed.commitEntry {core} : Formed (s.commitEntry core) := by
  unfold State.commitEntry
  grind [formed_iff, ! Formed.stamp, Formed.logClass, Formed.setCore, Formed.damperHold, Formed.damperMark]

theorem Formed.sendMessage {port v} : Formed (s.sendMessage port v) := by
  unfold State.sendMessage
  grind [formed_iff, ! Formed.stamp, Formed.logClass, Formed.extWrite, Formed.damperMark]

theorem Formed.nextMessage {port} : Formed (s.nextMessage port) := by
  unfold State.nextMessage
  grind [formed_iff, Formed.foldl, Formed.damperHold, Formed.sendMessage]

theorem Formed.vcomp {port v} : Formed (s.vcomp port v) := h

theorem Formed.idleVectors {port} : Formed (s.idleVectors port) := h

theorem Formed.damperEnd {g} : Formed (s.damperEnd g) := by
  unfold State.damperEnd
  grind [formed_iff, Formed.decideEntryMc, Formed.sendMessage]

/-! ### Links -/

theorem Formed.linkEvent {k bit} : Formed (s.linkEvent k bit) := by
  unfold State.linkEvent
  grind [formed_iff, Formed.setBit, Formed.emit]

theorem Formed.clearLink {k} : Formed (s.clearLink k) := by
  unfold State.clearLink
  grind [formed_iff, Formed.setRg, Formed.setLink]

theorem Formed.signalFires {c} : Formed (s.signalFires c) := h.setChan.ring.endCmd

theorem Formed.postWrites {c} : Formed (s.postWrites c) := h.stamp.setChan

theorem Formed.afterSync {c} : Formed (s.afterSync c) := by
  unfold State.afterSync
  grind [formed_iff, Formed.finishCmd, Formed.signalFires, Formed.postWrites]

theorem Formed.syncDone {c k} : Formed (s.syncDone c k) :=
  Formed.ite (fun _ => Formed.ite (fun _ => h.setChan.afterSync) fun _ => h) fun _ => h

theorem Formed.moverLinkFails {m k n} : Formed (s.moverLinkFails m k n) := by
  induction n generalizing s with
  | zero => exact h
  | succ n ih => 
    unfold State.moverLinkFails
    grind [Formed.burstFails, Formed.work]

theorem Formed.chanLinkFails {c k} : Formed (s.chanLinkFails c k) := by
  unfold State.chanLinkFails
  grind [formed_iff, Formed.readOver, Formed.cpError, Formed.memberFails, Formed.relSkip, Formed.fetchFails, Formed.syncDone]

theorem Formed.detachDrive {d} : Formed (s.detachDrive d) := by
  unfold State.detachDrive
  grind [formed_iff, Formed.foldl, Formed.setDrive, Formed.endCmd]

theorem Formed.accessesFail {k} : Formed (s.accessesFail k) := by
  unfold State.accessesFail
  grind [formed_iff, Formed.foldl, Formed.staleRecord, Formed.ringsFail, Formed.moverLinkFails, Formed.chanLinkFails]

theorem Formed.lanesDown {k} : Formed (s.lanesDown k) := by
  unfold State.lanesDown
  grind [formed_iff, Formed.foldl, Formed.setBit]

theorem Formed.linkFalls {k} : Formed (s.linkFalls k) := by
  unfold State.linkFalls
  grind [formed_iff, Formed.setRg, Formed.setBit, Formed.setLink, Formed.linkEvent, Formed.detachDrive, Formed.accessesFail,
    Formed.lanesDown]

theorem Formed.showPresent {k} : Formed (s.showPresent k) := Formed.ite (fun _ => h.setBit) fun _ => h

theorem Formed.portTrains {p} : Formed (s.portTrains p) := by
  unfold State.portTrains
  grind [formed_iff, Formed.setLink, Formed.clearLink, Formed.linkFalls, Formed.showPresent]

theorem Formed.linkDown {k} : Formed (s.linkDown k) := by
  unfold State.linkDown
  grind [formed_iff, Formed.linkFalls, Formed.portTrains]

theorem Formed.fnzDrain : Formed s.fnzDrain := Formed.ite (fun _ => h) fun _ => h

theorem Formed.fnzPut {p b} : Formed (s.fnzPut p b) := by
  unfold State.fnzPut
  grind [formed_iff, Formed.fnzDrain]

theorem Formed.linkComesUp {k speed width flit} : Formed (s.linkComesUp k speed width flit) := by
  unfold State.linkComesUp
  grind [formed_iff, Formed.setRg, Formed.setBit, Formed.linkEvent]

theorem Formed.enterRecovery {k} : Formed (s.enterRecovery k) := by
  unfold State.enterRecovery
  grind [formed_iff, Formed.setFld, Formed.addFld, Formed.setLink]

theorem Formed.leaveRecovery {k} : Formed (s.leaveRecovery k) := Formed.ite (fun _ => h.setFld.setLink) fun _ => h

theorem Formed.linkDisable {k} : Formed (s.linkDisable k) := by
  unfold State.linkDisable
  grind [formed_iff, Formed.setFld, Formed.portTrains, Formed.linkDown]

theorem Formed.bifChange {p} : Formed (s.bifChange p) := by
  unfold State.bifChange
  grind [formed_iff, Formed.linkFalls, Formed.portTrains]

theorem Formed.laneChange {k} : Formed (s.laneChange k) := Formed.ite (fun _ => h.linkDown) fun _ => h

theorem Formed.scanRequest {k qid} : Formed (s.scanRequest k qid) := Formed.ite (fun _ => h.setDrive) fun _ => h

theorem Formed.linkCeEvent {k kind} : Formed (s.linkCeEvent k kind) := by
  unfold State.linkCeEvent
  grind [formed_iff, Formed.setFld, Formed.addFld, Formed.setBit, Formed.fault, Formed.setLink]

theorem Formed.clearLasting {k} : Formed (s.clearLasting k) := h.setBit.setFld.setLink

theorem Formed.functionReset {p} : Formed (s.functionReset p) := by
  unfold State.functionReset
  grind [formed_iff, Formed.setPort, Formed.idleVectors]

/-! ### The time core and the stamp-log writer -/

theorem Formed.timeCtlActs {old} : Formed (s.timeCtlActs old) := by
  unfold State.timeCtlActs
  grind [formed_iff, Formed.setBit, Formed.setTimeState]

theorem Formed.timeStep {sub dest} : Formed (s.timeStep sub dest) := by
  unfold State.timeStep
  grind [formed_iff, Formed.addFld, ! Formed.stamp, Formed.logLost, Formed.logAlways]

theorem Formed.statusSecond {now} : Formed (s.statusSecond now) := by
  unfold State.statusSecond
  grind [formed_iff, ! Formed.stampAt, Formed.emit, Formed.logLost, Formed.logAlways]

theorem Formed.ppsEdge {rising} : Formed (s.ppsEdge rising) := by
  unfold State.ppsEdge
  grind [formed_iff, Formed.setRg, Formed.setBit, ! Formed.stamp, Formed.emit, Formed.logLost, Formed.logAlways]

theorem Formed.ppsRises : Formed s.ppsRises := by
  unfold State.ppsRises
  grind [formed_iff, Formed.emit]

theorem Formed.ppsFalls : Formed s.ppsFalls := Formed.ite (fun _ => h) fun _ => h

theorem Formed.refLost : Formed s.refLost := Formed.ite (fun _ => h) fun _ => h.setTimeState

theorem Formed.refReturns : Formed s.refReturns := Formed.ite (fun _ => h) fun _ => h.setTimeState

theorem Formed.refLocks : Formed s.refLocks := Formed.ite (fun _ => h.setTimeState) fun _ => h

theorem Formed.logWriteOne {r} : Formed (s.logWriteOne r) := by
  unfold State.logWriteOne
  grind [formed_iff, Formed.setFld, Formed.fault, Formed.put]

theorem Formed.logTake {n} : Formed (s.logTake n) := by
  unfold State.logTake
  extract_lets l rest log t
  have taken : Formed t := Kept.shorter h (Nat.le_refl _) (List.length_filter_le _ _)
  exact Formed.ite (fun _ => h) fun _ => Formed.ite (fun _ => h) fun _ => Formed.foldl (fun _ _ hu => hu.logWriteOne) taken

theorem Formed.logBatch : Formed s.logBatch := by
  unfold State.logBatch
  grind [formed_iff, Formed.logTake]

theorem Formed.logTimeout : Formed s.logTimeout := by
  unfold State.logTimeout
  grind [formed_iff, Formed.logTake]

theorem Formed.logFlushAll {cut} : Formed (s.logFlushAll cut) := (h.setFld.setBit.emptied.logLost.stamp).logAlways

/-! ### Register accesses -/

theorem Formed.vaultWrite {w} (e : s.vaultWrite w = some t) : Formed t := by
  unfold State.vaultWrite at e
  grind [formed_iff]

theorem Formed.vaultWrites {l} (e : s.vaultWrites l = some t) : Formed t := by
  induction l generalizing s with
  | nil => exact Option.some.inj e ▸ h
  | cons w r ih =>
    rw [State.vaultWrites] at e
    grind [→ Formed.vaultWrite]

theorem Formed.vaultPut {l f} : Formed (s.vaultPut l f) := by
  unfold State.vaultPut
  grind [formed_iff, → Formed.vaultWrites]

theorem Formed.readReg {m r acc} : Formed (s.readReg m r acc).2 := by
  unfold State.readReg
  grind [formed_iff, Formed.setRg, ! Formed.post]

theorem Formed.pmbusNext : Formed s.pmbusNext := by
  unfold State.pmbusNext
  grind [formed_iff, Formed.setFld, Formed.setBit]

theorem Formed.vreqWritten : Formed s.vreqWritten := by
  unfold State.vreqWritten
  grind [formed_iff, Formed.pmbusNext]

theorem Formed.vrmWritten {was} : Formed (s.vrmWritten was) := by
  unfold State.vrmWritten
  grind [formed_iff, Formed.setBit, Formed.pmbusNext]

theorem Formed.pmbusDone {ans} : Formed (s.pmbusDone ans) := by
  unfold State.pmbusDone
  grind [formed_iff, Formed.setBit, Formed.pmbusNext]

theorem Formed.dropKey {c} : Formed (s.dropKey c) := h.setBox

theorem Formed.bumpEpoch {c out} : Formed (s.bumpEpoch c out) := h.bump

theorem Formed.arbCommit : Formed s.arbCommit := by
  unfold State.arbCommit
  grind [formed_iff, Formed.foldl, Formed.setRg, Formed.setFld]

theorem Formed.forceLock {m} : Formed (s.forceLock m) := h.lockdown

/-- What is left of the error FIFO is no longer. -/
theorem Formed.errPop : Formed s.errPop := Kept.shorter h (List.length_tail ▸ Nat.sub_le ..) (Nat.le_refl _)

theorem Formed.rwActs {r old} : Formed (s.rwActs r old) := by
  unfold State.rwActs
  grind [formed_iff, Formed.foldl, Formed.stayInPlace, Formed.portTrains, Formed.linkDown, Formed.linkDisable, Formed.bifChange,
    Formed.laneChange, Formed.timeCtlActs, Formed.vreqWritten, Formed.vrmWritten]

theorem Formed.paceBelow : Formed s.paceBelow := by
  unfold State.paceBelow
  grind [formed_iff, Formed.setFld, Formed.setBit]

theorem Formed.woActs {m r acc d lock} : Formed (s.woActs m r acc d lock) := by
  unfold State.woActs
  grind [formed_iff, Formed.movGo, Formed.movCancel, Formed.movDropSh, Formed.movRetry, Formed.movAbort, Formed.chanStop,
    Formed.chanResume, Formed.chanRelease, Formed.ring, Formed.popMsg, Formed.flushMsgs, Formed.eoi, Formed.vcomp, Formed.enterRecovery,
    Formed.scanRequest, Formed.logFlushAll, Formed.bumpEpoch, Formed.arbCommit, Formed.forceLock, Formed.errPop, Formed.paceBelow]

theorem Formed.msixWrite {p j v} : Formed (s.msixWrite p j v) := by
  unfold State.msixWrite
  grind [formed_iff, Formed.setMsix]

theorem Formed.writePlain {m r acc d} : Formed (s.writePlain m r acc d) := by
  unfold State.writePlain
  extract_lets cover e rw w1c lock i t v old u
  have cleared : Formed t := Formed.ite (fun _ => h) fun _ => Formed.ite (fun _ => h.clearStale) fun _ =>
    Formed.ite (fun _ => h.clearLasting) fun _ => h.setRg
  have written : Formed u := Formed.ite (fun _ => cleared) fun _ => Formed.ite (fun _ => cleared.withLatent) fun _ =>
    Formed.ite (fun _ => cleared.msixWrite.idledNow) fun _ =>
    Formed.ite (fun _ => Formed.ite (fun _ => cleared) fun _ => Formed.ite (fun _ => cleared.enableSq) fun _ => cleared.disableSq) fun _
      =>
    Formed.ite (fun _ => Formed.ite (fun _ => cleared) fun _ => cleared.setCqEn) fun _ =>
    Formed.ite (fun _ => Formed.ite (fun _ => cleared) fun _ => cleared.newRto) fun _ => cleared.setRg.rwActs
  exact Formed.ite (fun _ => h) fun _ => written.woActs

theorem Formed.latentActs : Formed s.latentActs := by
  unfold State.latentActs
  grind [formed_iff, Formed.foldl, Formed.writePlain]

theorem Formed.chimeWrite {q cq acc d} : Formed (s.chimeWrite q cq acc d) := by
  unfold State.chimeWrite
  grind [formed_iff, Formed.ringSq, Formed.ringCq]

theorem Formed.unmapped {m a write} : Formed (s.unmapped m a write) := by
  unfold State.unmapped
  grind [formed_iff, Formed.fault]

theorem Formed.spaceRead {m a acc} : Formed (s.spaceRead m a acc).2 := by
  unfold State.spaceRead
  grind [formed_iff, ! Formed.readReg, Formed.unmapped]

theorem Formed.spacePlain {m a acc v} : Formed (s.spacePlain m a acc v) := by
  unfold State.spacePlain
  grind [formed_iff, Formed.writePlain, Formed.chimeWrite, Formed.unmapped]

/-! ### Answers to bursts -/

theorem Formed.burstStamp {m t zs zd n a} : Formed (s.burstStamp m t zs zd n a) := by
  unfold State.burstStamp
  grind [formed_iff, ! Formed.stamp, Formed.logClass, Formed.setChan]

theorem Formed.consumeOne {m} : Formed (s.consumeOne m) := by
  unfold State.consumeOne
  grind [formed_iff, Formed.setChan, Formed.giveCredits, Formed.emitOut, Formed.burstStamp]

theorem Formed.consume {m n} : Formed (s.consume m n) := by
  induction n generalizing s with
  | zero => exact h
  | succ n ih => exact ih h.consumeOne

theorem Formed.endGrant {m b} : Formed (s.endGrant m b) := by
  unfold State.endGrant
  grind [formed_iff]

theorem Formed.readArrives {m b d} : Formed (s.readArrives m b d) := by
  unfold State.readArrives
  grind [formed_iff, Formed.setChan, Formed.giveCredits, Formed.progressed, Formed.setActive, Formed.burstStamp, Formed.consume]

theorem Formed.writeDone {m tracked num} : Formed (s.writeDone m tracked num) := by
  unfold State.writeDone
  extract_lets x
  split
  · exact h
  · split
    · exact h
    · dsimp only
      split
      · exact h.endGrant.giveCredits.setMover.burstStamp
      · split
        · exact h.endGrant.giveCredits.setMover.burstStamp.progressed.setChan
        · exact h.endGrant.giveCredits.setMover.burstStamp.progressed

end

end Sys2Proof.Machine
end

section
/-! PROOFS. MemoryAndFifosKeepTheirForm (R42, R282, R329): the operations of power, data commands, Fenuz frames and Snima keep the form.
  -/

namespace Sys2Proof.Machine

variable {s t u : State}

section

variable (h : Formed s)

include h

/-! ### Zone-0 accesses, resets and power -/

theorem Formed.readWords {m a n l} : Formed (s.readWords m a n l).2 := by
  induction l generalizing s with
  | nil => exact h
  | cons x r ih => 
    unfold State.readWords
    grind [! Formed.spaceRead]

theorem Formed.engineRead {m who a n} : Formed (s.engineRead m who a n).2 := by
  unfold State.engineRead
  grind [formed_iff, ! Formed.storeRead, ! Formed.readWords]

theorem Formed.wordPlain {m a v} : Formed (wordPlain s m a v) := by
  unfold Machine.wordPlain
  grind [formed_iff, Formed.spacePlain]

theorem Formed.writeWords {m w l} : Formed (s.writeWords m w l).2 := by
  induction l generalizing s with
  | nil => exact h
  | cons x r ih => 
    unfold State.writeWords
    grind [Formed.wordPlain]

theorem Formed.engineWrite {m who w} : Formed (s.engineWrite m who w).2 := by
  unfold State.engineWrite
  grind [formed_iff, Formed.storeWrite, ! Formed.writeWords]

theorem Formed.readShared {m t side a n l} : Formed (s.readShared m t side a n l).2.2 := by
  induction l generalizing s t with
  | nil => exact h
  | cons w r ih =>
    unfold State.readShared
    dsimp only
    split
    · split
      · next e => exact (ih h).of_eq₂ e
      · exact ih h
    · split
      · split
        · next e => exact (ih h.spaceRead).of_eq₂ e
        · exact ih h.spaceRead
      · exact h

theorem Formed.burstRead {m t b} : Formed (s.burstRead m t b).2 := by
  unfold State.burstRead
  grind [formed_iff, Formed.setHop, Formed.setMover, ! Formed.engineRead, ! Formed.readShared]

theorem Formed.writeShared {m t b carry l} : Formed (s.writeShared m t b carry l).2.2 := by
  induction l generalizing s carry with
  | nil => exact h
  | cons x r ih => 
    unfold State.writeShared
    grind [Formed.wordPlain]

theorem Formed.setCarry {m tracked t l} : Formed (s.setCarry m tracked t l) := by
  unfold State.setCarry
  grind [formed_iff, Formed.setChan, Formed.setMover]

theorem Formed.burstStore {m tracked t b} : Formed (s.burstStore m tracked t b).2 := by
  unfold State.burstStore
  grind [formed_iff, Formed.setHop, ! Formed.engineWrite, ! Formed.writeShared, Formed.setCarry]

theorem Formed.cpStore {c} : Formed (s.cpStore c).2 := by
  unfold State.cpStore
  grind [formed_iff, ! Formed.engineWrite]

theorem Formed.finishBurst {m tracked num n} : Formed (s.finishBurst m tracked num n) := by
  induction n generalizing s with
  | zero => exact h
  | succ n ih => 
    unfold State.finishBurst
    grind [Formed.extWrite, Formed.burstFails, Formed.readArrives, Formed.writeDone, ! Formed.burstRead, ! Formed.burstStore]

theorem Formed.quietMover {m} : Formed (s.quietMover m) := by
  unfold State.quietMover
  grind [formed_iff, Formed.foldl, Formed.setMover, Formed.failRecord, Formed.finishBurst]

theorem Formed.quietChan {c} : Formed (s.quietChan c) := by
  unfold State.quietChan
  grind [formed_iff, Formed.setChan, Formed.extWrite, ! Formed.cpStore]

theorem Formed.quietRings : Formed s.quietRings := h

theorem Formed.quiet : Formed s.quiet := by
  unfold State.quiet
  grind [formed_iff, Formed.foldl, Formed.takeCredits, Formed.quietMover, Formed.quietChan, Formed.quietRings]

theorem Formed.snimaStart {version svn meas src} : Formed (s.snimaStart version svn meas src) := by
  unfold State.snimaStart
  grind [formed_iff, Formed.setFld]

theorem Formed.snimaStarts {img src} : Formed (s.snimaStarts img src) := h.snimaStart

theorem Formed.imageLoaded {readOk} : Formed (s.imageLoaded readOk) := by
  unfold State.imageLoaded
  grind [formed_iff, Formed.setFld, Formed.snimaStarts]

theorem Formed.slotChoice : Formed s.slotChoice.2 := by
  unfold State.slotChoice
  grind [formed_iff, Formed.vaultPut]

theorem Formed.coresStop : Formed s.coresStop := by
  unfold State.coresStop
  grind [formed_iff, Formed.foldl, Formed.setRg, Formed.setBox, Formed.withdraw]

theorem Formed.romStart {cold} : Formed (s.romStart cold) := by
  unfold State.romStart
  grind [formed_iff, Formed.foldl, Formed.setRg, Formed.bumpEpoch, ! Formed.slotChoice, Formed.coresStop]

theorem Formed.romAfterReset {cold} : Formed (s.romAfterReset cold) := by
  unfold State.romAfterReset
  grind [formed_iff, Formed.coresStop, Formed.romStart]

theorem Formed.entropyRestart : Formed s.entropyRestart := by
  unfold State.entropyRestart
  grind [formed_iff, Formed.setFld, Formed.setBit]

theorem Formed.resetRegs {lo hi} : Formed (s.resetRegs lo hi) := by
  unfold State.resetRegs
  grind [formed_iff]

theorem Formed.warmReset {last} : Formed (s.warmReset last) := by
  unfold State.warmReset
  grind [formed_iff, Formed.foldl, Formed.setFld, Formed.addFld, Formed.setLink, Formed.zeroiseCache, Formed.linkDown, Formed.latentActs,
    Formed.quiet, Formed.romAfterReset, Formed.entropyRestart, Formed.resetRegs]

theorem Formed.warmFires : Formed s.warmFires := Formed.ite (fun _ => h.warmReset) fun _ => h

theorem Formed.timeRestarts : Formed s.timeRestarts := by
  unfold State.timeRestarts
  grind [formed_iff, Formed.setFld, Formed.setTimeState]

theorem Formed.timeUnkept : Formed s.timeUnkept := by
  unfold State.timeUnkept
  grind [formed_iff, Formed.timeRestarts]

theorem Formed.pinLevels : Formed s.pinLevels := by
  unfold State.pinLevels
  grind [formed_iff, Formed.foldl, Formed.setBit]

omit h in
/-- A cold reset empties the FIFOs and the memory, whatever they held. -/
theorem Formed.coldHeld {last rail off} : Formed (s.coldHeld last rail off) := by
  unfold State.coldHeld
  extract_lets z v align
  refine Formed.pinLevels (Formed.setFld (Formed.setFld (Formed.setFld (Formed.setBit (Formed.setFld (Formed.setFld ?_))))))
  exact (⟨Nat.zero_le _, Nat.zero_le _, rfl⟩ : Kept [] [] [])

theorem Formed.tamperRecord {sub src count arg time} : Formed (s.tamperRecord sub src count arg time) := by
  unfold State.tamperRecord
  grind [formed_iff, Formed.setBit, ! Formed.stamp, Formed.logAlways, Formed.ircCause]

theorem Formed.coldRelease : Formed s.coldRelease := by
  unfold State.coldRelease
  refine Formed.romAfterReset (Formed.pinLevels (Formed.foldl (fun _ _ hx => hx.portTrains) (Formed.foldl (fun _ _ hx => hx.setLink)
    (Formed.withVault (Formed.foldl (fun _ _ hx => Formed.ite (fun _ => hx) fun _ => hx.tamperRecord) ?_)))))
  exact Formed.withSide (Formed.setBit ((formed_iff _).2 (Kept.mem (m' := []) h fun _ => rfl)))

theorem Formed.rstRelease : Formed s.rstRelease := Formed.ite (fun _ => h.coldRelease) fun _ => h

theorem Formed.rstAssert : Formed s.rstAssert := by
  unfold State.rstAssert
  grind [formed_iff, Formed.coldHeld]

theorem Formed.railTrip {rail} : Formed (s.railTrip rail) := by
  unfold State.railTrip
  grind [formed_iff, Formed.coldHeld]

theorem Formed.railsRise {off} : Formed (s.railsRise off) := by
  unfold State.railsRise
  grind [formed_iff, Formed.timeUnkept, Formed.coldHeld, Formed.rstRelease]

theorem Formed.vaonFalls : Formed s.vaonFalls := by
  unfold State.vaonFalls
  grind [formed_iff]

theorem Formed.endMembership : Formed s.endMembership := by
  unfold State.endMembership
  grind [formed_iff, Formed.setRg, Formed.setFld, Formed.setBit]

theorem Formed.tamperErase {src arg time reported} : Formed (s.tamperErase src arg time reported) := by
  unfold State.tamperErase
  grind [formed_iff, → Formed.vaultWrites, Formed.vaultPut, Formed.endMembership]

theorem Formed.emptyCache : Formed s.emptyCache := h

theorem Formed.vaonRises : Formed s.vaonRises := by
  unfold State.vaonRises
  grind [formed_iff, Formed.setBit, Formed.timeRestarts, Formed.tamperErase, Formed.emptyCache]

theorem Formed.writeReg {m r acc d} : Formed (s.writeReg m r acc d) := by
  unfold State.writeReg
  grind [formed_iff, Formed.writePlain, Formed.warmReset]

theorem Formed.spaceWrite {m a acc v} : Formed (s.spaceWrite m a acc v) := by
  unfold State.spaceWrite
  grind [formed_iff, Formed.unmapped, Formed.spacePlain, Formed.writeReg]

theorem Formed.lockQuiesced : Formed s.lockQuiesced := by
  unfold State.lockQuiesced
  grind [formed_iff, Formed.setFld, Formed.quiet, Formed.warmFires]

theorem Formed.otherRead {m who a n} : Formed (s.otherRead m who a n).2.2 := by
  unfold State.otherRead
  grind [formed_iff, ! Formed.masterRead, Formed.unmapped, ! Formed.spaceRead]

theorem Formed.otherWrite {m who a d} : Formed (s.otherWrite m who a d) := by
  unfold State.otherWrite
  grind [formed_iff, Formed.masterWrite, Formed.unmapped, Formed.spaceWrite]

theorem Formed.warmDone : Formed s.warmDone := h

theorem Formed.afterwards : Formed s.afterwards := h.idledNow.fnzDrain

theorem Formed.follows : Formed s.follows := h.warmFires.issueReads.retrySync

/-! ### Data commands -/

theorem Formed.dataEnd {c} : Formed (s.dataEnd c) := h.setChan.endCmd

theorem Formed.blockFails {m c f} : Formed (s.blockFails m c f) := by
  unfold State.blockFails
  grind [formed_iff, Formed.fault, Formed.setMover, Formed.haltStream, Formed.latchMov, Formed.work]

theorem Formed.ownAccess {m write a n} : Formed (s.ownAccess m write a n) := by
  unfold State.ownAccess
  grind [formed_iff, Formed.foldl, Formed.claim]

theorem Formed.shadowRegs {m t} : Formed (s.shadowRegs m t) := by
  unfold State.shadowRegs
  grind [formed_iff, Formed.setRg]

theorem Formed.loadMember {m c i} : Formed (s.loadMember m c i) := by
  unfold State.loadMember
  grind [formed_iff, Formed.setChan, Formed.setMover, Formed.shadowRegs]

theorem Formed.freeSha {c} : Formed (s.freeSha c) := h

theorem Formed.formResult {m c t} : Formed (s.formResult m c t) := by
  unfold State.formResult
  grind [formed_iff, Formed.setChan, Formed.emitOut, Formed.freeSha]

theorem Formed.formDue {m} : Formed (s.formDue m) := by
  unfold State.formDue
  grind [formed_iff, Formed.formResult]

theorem Formed.gcmEnd {m c} : Formed (s.gcmEnd m c) := by
  unfold State.gcmEnd
  grind [formed_iff, Formed.setChan, Formed.setMover, ! Formed.engineWrite, Formed.dataEnd, Formed.blockFails, Formed.ownAccess]

theorem Formed.reapTracked {m} : Formed (s.reapTracked m) := by
  unfold State.reapTracked
  grind [formed_iff, Formed.setMover, Formed.dataEnd, Formed.gcmEnd]

theorem Formed.reapChan {m} : Formed (s.reapChan m) := by
  unfold State.reapChan
  grind [formed_iff, Formed.attempt, Formed.reapTracked]

theorem Formed.feedScrub {m} : Formed (s.feedScrub m) := by
  unfold State.feedScrub
  grind [formed_iff, Formed.setChan, Formed.setMover]

theorem Formed.ownerEnds {m} : Formed (s.ownerEnds m) := by
  unfold State.ownerEnds
  grind [formed_iff, Formed.setMover]

theorem Formed.runOnce {m} : Formed (s.runOnce m) := by
  unfold State.runOnce
  grind [formed_iff, Formed.work, Formed.formDue, Formed.reapChan, Formed.feedScrub, Formed.ownerEnds]

theorem Formed.rounds {m n} : Formed (s.rounds m n) := by
  induction n generalizing s with
  | zero => exact h
  | succ n ih => exact ih h.runOnce

theorem Formed.run {m} : Formed (s.run m) := h.rounds

theorem Formed.retryCredits : Formed s.retryCredits := by
  unfold State.retryCredits
  grind [formed_iff, Formed.retryWith, Formed.run]

theorem Formed.dataStart {c opc} : Formed (s.dataStart c opc) := by
  unfold State.dataStart
  grind [formed_iff, Formed.setChan, Formed.endCmd]

theorem Formed.takeMover : Formed s.takeMover := by
  unfold State.takeMover
  grind [formed_iff, Formed.setChan, Formed.setMover, Formed.progressed, Formed.loadMember, Formed.run]

theorem Formed.streamBegin {c} : Formed (s.streamBegin c) := by
  unfold State.streamBegin
  grind [formed_iff, Formed.setChan, Formed.progressed, ! Formed.draw, ! Formed.engineRead, ! Formed.engineWrite, Formed.blockFails,
    Formed.ownAccess, Formed.loadMember, Formed.run]

theorem Formed.p521Begin {c n} : Formed (s.p521Begin c n) := by
  unfold State.p521Begin
  grind [formed_iff, Formed.setChan, Formed.progressed, ! Formed.drawScalar]

theorem Formed.takeUnit {kind} : Formed (s.takeUnit kind) := by
  unfold State.takeUnit
  grind [formed_iff, Formed.progressed, Formed.loadMember, Formed.run, Formed.streamBegin, Formed.p521Begin]

theorem Formed.drbgResume : Formed s.drbgResume := by
  unfold State.drbgResume
  grind [formed_iff, Formed.foldl, Formed.attempt, Formed.streamBegin, Formed.p521Begin]

theorem Formed.p521Complete {n} : Formed (s.p521Complete n) := by
  unfold State.p521Complete
  grind [formed_iff, Formed.setChan, Formed.emitOut, Formed.run, Formed.p521Begin]

theorem Formed.burstData {m rd} : Formed (s.burstData m rd) := by
  unfold State.burstData
  grind [formed_iff, Formed.linkAnswers, Formed.burstFails, Formed.endGrant, Formed.readArrives, ! Formed.burstRead, Formed.run]

theorem Formed.burstWritten {m res} : Formed (s.burstWritten m res) := by
  unfold State.burstWritten
  grind [formed_iff, Formed.linkAnswers, Formed.extWrite, Formed.burstFails, Formed.endGrant, Formed.writeDone, ! Formed.burstStore,
    Formed.run]

theorem Formed.runAll : Formed s.runAll := by
  unfold State.runAll
  grind [formed_iff, Formed.foldl, Formed.run]

theorem Formed.arbGrant {g} : Formed (s.arbGrant g) := by
  unfold State.arbGrant
  grind [formed_iff, Formed.tetherGrant, Formed.giveUpRow, Formed.issueBurst, Formed.run, Formed.runAll]

theorem Formed.tetherRelease {n} : Formed (s.tetherRelease n) := by
  unfold State.tetherRelease
  grind [formed_iff, Formed.run, Formed.runAll]

theorem Formed.readTimesOut {m} : Formed (s.readTimesOut m) := by
  unfold State.readTimesOut
  grind [formed_iff, Formed.burstFails, Formed.run]

/-! ### Fenuz frames -/

theorem Formed.fnzOut {p addr b} : Formed (s.fnzOut p addr b) := h.fnzPut

theorem Formed.fnzSend {p kind sub xid dst body} : Formed (s.fnzSend p kind sub xid dst body) := by
  unfold State.fnzSend
  grind [formed_iff, Formed.fnzOut]

theorem Formed.newXid : Formed s.newXid.2 := h

theorem Formed.setParent {p node} : Formed (s.setParent p node) := by
  unfold State.setParent
  grind [formed_iff, Formed.setFld, Formed.setBit]

theorem Formed.becomeGm : Formed s.becomeGm := by
  unfold State.becomeGm
  grind [formed_iff, Formed.setFld, Formed.setBit, Formed.setParent]

theorem Formed.fleetLost : Formed s.fleetLost := Formed.ite (fun _ => h.refLost) fun _ => h

theorem Formed.chooseParent : Formed s.chooseParent := by
  unfold State.chooseParent
  grind [formed_iff, Formed.setFld, Formed.setBit, Formed.setParent, Formed.fleetLost]

/-! ### Snima's checks and answers -/

theorem Formed.stage {c m} : Formed (s.stage c m) := by
  unfold State.stage
  grind [formed_iff, Formed.foldl, Formed.setRg]

theorem Formed.snimaPost {c m} : Formed (s.snimaPost c m) := h.stage.post

theorem Formed.createQueue {cmd b} : Formed (s.createQueue cmd b) := by
  unfold State.createQueue
  grind [formed_iff, Formed.setRg, Formed.setSq, Formed.setCq, Formed.sqLoad, Formed.cqLoad]

theorem Formed.deleteQueue {cmd b} : Formed (s.deleteQueue cmd b) := by
  unfold State.deleteQueue
  grind [formed_iff, Formed.setRg, Formed.setSq, Formed.setCq]

theorem Formed.follow {c cmd b n} : Formed (s.follow c cmd b n) := by
  unfold State.follow
  grind [formed_iff, Formed.dropKey, Formed.snimaStart, Formed.romStart, Formed.warmReset, Formed.createQueue, Formed.deleteQueue]

theorem Formed.countAuth {c rc} : Formed (s.countAuth c rc) := by
  unfold State.countAuth
  grind [formed_iff, Formed.setBox, Formed.dropKey]

theorem Formed.sendAnswer {c req via p} : Formed (s.sendAnswer c req via p) := by
  unfold State.sendAnswer
  grind [formed_iff, Formed.setBox, Formed.dropKey, Formed.fnzSend, Formed.snimaPost, Formed.follow, Formed.countAuth]

theorem Formed.answer {c q p} : Formed (s.answer c q p) := Formed.ite (fun _ => h) fun _ => h.sendAnswer

theorem Formed.takeMsg {c want} {x} (e : s.takeMsg c want = some x) : Formed x.2 := by
  unfold State.takeMsg at e
  grind [formed_iff, Formed.setBox, Formed.popMsg]

theorem Formed.staleMsg {c q} : Formed (s.staleMsg c q) := by
  unfold State.staleMsg
  grind [formed_iff, Formed.fnzSend]

theorem Formed.authentic {c m} : Formed (s.authentic c m).2.2.2 := by
  unfold State.authentic
  grind [formed_iff, Formed.setBox]

theorem Formed.gate {c cls known lenOk m} : Formed (s.gate c cls known lenOk m).2 := by
  unfold State.gate
  grind [formed_iff, ! Formed.authentic]

theorem Formed.endTurn {c q mac drop n} : Formed (s.endTurn c q mac drop n) := by
  unfold State.endTurn
  grind [formed_iff, Formed.setBox, Formed.answer]

theorem Formed.romAnswers {c want} : Formed (s.romAnswers c want) := by
  unfold State.romAnswers
  grind [formed_iff, Formed.answer, → Formed.takeMsg, Formed.staleMsg]

theorem Formed.nonceSpent {c cmd} : Formed (s.nonceSpent c cmd) := Formed.ite (fun _ => h.setBox) fun _ => h

theorem Formed.snimaAct {c cmd cls lenOk} {act : Handler} (hact : ∀ c b q t, Formed t → Formed (act c b q t).2) :
    Formed (s.snimaAct c cmd cls lenOk act) := by
  unfold State.snimaAct
  grind [formed_iff, Formed.answer, → Formed.takeMsg, Formed.staleMsg, ! Formed.gate, Formed.endTurn, Formed.romAnswers,
    Formed.nonceSpent]

theorem Formed.finish {c a} : Formed (s.finish c a) := by
  unfold State.finish
  grind [formed_iff, Formed.answer]

theorem Formed.mcRead {a n} : Formed (s.mcRead a n).2 := by
  unfold State.mcRead
  grind [formed_iff, ! Formed.masterRead]

theorem Formed.mcWrite {a d} : Formed (s.mcWrite a d) := h.otherWrite

theorem Formed.dikSign {m} : Formed (s.dikSign m).2 := h.signIn

theorem Formed.report {nonce} : Formed (s.report nonce).2 := by
  unfold State.report
  grind [formed_iff, ! Formed.stamp, ! Formed.dikSign]

/-- Places that are zeroed are no longer listed. -/
theorem Formed.zeroPlaces {inside} : Formed (s.zeroPlaces inside) := Kept.mem h (Memory.wf_filter _)

end

end Sys2Proof.Machine
end

section
/-! PROOFS. MemoryAndFifosKeepTheirForm (R42, R282, R329): what the queue engine, control commands, drives and Snima's first groups do
  keeps the form. -/

namespace Sys2Proof.Machine

variable {s t u : State}

section

variable (h : Formed s)

include h

/-! ### Snima's fleet and time commands -/

theorem Formed.fleetStatusTurn {c b q} : Formed (fleetStatusTurn c b q s).2 := Formed.iteSnd (fun _ => h) fun _ => h

theorem Formed.enterFleet {node prio fleet frk} : Formed (s.enterFleet node prio fleet frk) := by
  unfold State.enterFleet
  grind [formed_iff, Formed.setFld]

theorem Formed.fleetCreateTurn {c b q} : Formed (fleetCreateTurn c b q s).2 := by
  unfold Machine.fleetCreateTurn
  grind [formed_iff, ! Formed.draw, → Formed.vaultWrites, Formed.enterFleet]

theorem Formed.fleetAdmitTurn {c b q} : Formed (fleetAdmitTurn c b q s).2 := by
  unfold Machine.fleetAdmitTurn
  grind [formed_iff]

theorem Formed.fleetJoinTurn {c b q} : Formed (fleetJoinTurn c b q s).2 := by
  unfold Machine.fleetJoinTurn
  grind [formed_iff, ! Formed.drawScalar, Formed.fnzSend, ! Formed.newXid]

theorem Formed.fleetLeaveTurn {c b q} : Formed (fleetLeaveTurn c b q s).2 := by
  unfold Machine.fleetLeaveTurn
  grind [formed_iff, → Formed.vaultWrites, Formed.endMembership]

/-- The definition is opened with `State.judge` as a variable: the kernel would evaluate it in order to compare what the definition
says with what stands in its place. -/
theorem Formed.timeSetTurn {c b q} : Formed (timeSetTurn c b q s).2 := by
  suffices all : ∀ f : Handler, f = Machine.timeSetTurn → Formed (f c b q s).2 from all _ rfl
  intro f e
  delta Machine.timeSetTurn at e
  subst e
  generalize State.judge = judge
  revert judge
  refine id ?_
  intro judge
  dsimp only
  split
  · exact h
  · exact h.timeStep.withTime

theorem Formed.relayOut {c kind sub node addr k body} : Formed (s.relayOut c kind sub node addr k body).2 := by
  unfold State.relayOut
  grind [formed_iff, Formed.fnzSend, ! Formed.newXid]

theorem Formed.mbxRelayTurn {c b q} : Formed (mbxRelayTurn c b q s).2 := by
  unfold Machine.mbxRelayTurn
  grind [formed_iff, ! Formed.relayOut]

theorem Formed.fleetAttestTurn {c b q} : Formed (fleetAttestTurn c b q s).2 := by
  unfold Machine.fleetAttestTurn
  grind [formed_iff, ! Formed.relayOut]

theorem Formed.recSendTurn {c b q} : Formed (recSendTurn c b q s).2 := by
  unfold Machine.recSendTurn
  grind [formed_iff, Formed.fault, ! Formed.otherRead, ! Formed.relayOut]

/-! ### The queue engine -/

theorem Formed.ringWrite {z a d} : Formed (s.ringWrite z a d) := by
  unfold State.ringWrite
  grind [formed_iff, Formed.extWrite, Formed.otherWrite]

theorem Formed.ringRead {a n} : Formed (s.ringRead a n).2 := by
  unfold State.ringRead
  grind [formed_iff, ! Formed.otherRead]

theorem Formed.storeSlots {a n} : Formed (s.storeSlots a n).2 := by
  induction n generalizing s a with
  | zero => exact h
  | succ n ih => 
    unfold State.storeSlots
    grind [! Formed.ringRead]

theorem Formed.ringSlots {a n} : Formed (s.ringSlots a n).2 := by
  unfold State.ringSlots
  grind [formed_iff, Formed.unmapped, ! Formed.storeSlots]

theorem Formed.newRound : Formed s.newRound := by
  unfold State.newRound
  grind [formed_iff, Formed.foldl, Formed.setSq]

theorem Formed.issueWindow {q w} : Formed (s.issueWindow q w) := by
  unfold State.issueWindow
  grind [formed_iff, Formed.setSq, Formed.sqLoad, Formed.ringFail]

theorem Formed.fetchGrant : Formed s.fetchGrant := by
  unfold State.fetchGrant
  grind [formed_iff, Formed.newRound, Formed.issueWindow]

theorem Formed.sqeMalformed {q cond b} : Formed (s.sqeMalformed q cond b) := by
  unfold State.sqeMalformed
  grind [formed_iff, Formed.fault, Formed.lockdown]

theorem Formed.acceptEntry {q b} : Formed (s.acceptEntry q b) := by
  unfold State.acceptEntry
  grind [formed_iff, ! Formed.stamp, Formed.logClass, Formed.setSq]

theorem Formed.acceptAll {q l} : Formed (s.acceptAll q l).2.2 := by
  induction l generalizing s with
  | nil => exact h
  | cons x r ih => 
    unfold State.acceptAll
    grind [Formed.sqeMalformed, Formed.acceptEntry]

theorem Formed.writeHead {q} : Formed (s.writeHead q) := Formed.ite (fun _ => h.ringWrite) fun _ => h

theorem Formed.windowData {q slots d} : Formed (s.windowData q slots d) := by
  unfold State.windowData
  grind [formed_iff, Formed.setSq, Formed.windowMismatch, ! Formed.acceptAll, Formed.writeHead]

theorem Formed.windowBytes {q w data} : Formed (s.windowBytes q w data).2 := Formed.iteSnd (fun _ => h.ringSlots) fun _ => h

theorem Formed.windowReturns {q data} : Formed (s.windowReturns q data) := by
  unfold State.windowReturns
  grind [formed_iff, Formed.setSq, Formed.ringFail, Formed.windowData, ! Formed.windowBytes]

theorem Formed.windowMeets {q data} : Formed (s.windowMeets q data) := by
  unfold State.windowMeets
  grind [formed_iff, Formed.sqeMalformed, ! Formed.windowBytes]

theorem Formed.indexWord {z a link word} : Formed (s.indexWord z a link word).2 := by
  unfold State.indexWord
  grind [formed_iff, ! Formed.ringRead]

theorem Formed.tailReturns {q word} : Formed (s.tailReturns q word) := by
  unfold State.tailReturns
  grind [formed_iff, Formed.setSq, Formed.ringFail, ! Formed.indexWord]

theorem Formed.headReturns {q word} : Formed (s.headReturns q word) := by
  unfold State.headReturns
  grind [formed_iff, Formed.setCq, Formed.newHead, Formed.ringFail, ! Formed.indexWord]

theorem Formed.repollExpires {q} : Formed (s.repollExpires q) := by
  unfold State.repollExpires
  grind [formed_iff, Formed.setSq]

theorem Formed.takeAct {q op} {x} (e : s.takeAct q op = some x) : Formed x.2 := by
  unfold State.takeAct at e
  grind [formed_iff, Formed.setSq]

theorem Formed.sqeStart {q} : Formed (s.sqeStart q) := by
  unfold State.sqeStart
  grind [formed_iff, Formed.setSq, → Formed.takeAct]

theorem Formed.sqeResume {q} : Formed (s.sqeResume q) := by
  unfold State.sqeResume
  grind [formed_iff, Formed.setChan, ! Formed.decideEntry, Formed.resumeRun, → Formed.takeAct]

theorem Formed.sqeStop {q} : Formed (s.sqeStop q) := by
  unfold State.sqeStop
  grind [formed_iff, ! Formed.decideEntry, Formed.chanStop, → Formed.takeAct]

theorem Formed.sqeNop {q} : Formed (s.sqeNop q) := by
  unfold State.sqeNop
  grind [formed_iff, ! Formed.decideEntry, → Formed.takeAct]

theorem Formed.dispatchTo {q c y} : Formed (s.dispatchTo q c y) := by
  unfold State.dispatchTo
  grind [formed_iff, Formed.setRg, Formed.setFld, Formed.setChan, Formed.goFetch]

theorem Formed.dispatchSq {q} : Formed (s.dispatchSq q) := by
  unfold State.dispatchSq
  grind [formed_iff, Formed.setSq, Formed.dispatchTo]

theorem Formed.startReached {c} : Formed (s.startReached c) := Formed.ite (fun _ => h.goFetch) fun _ => h

theorem Formed.intoRing {q word rest time} : Formed (s.intoRing q word rest time) := by
  unfold State.intoRing
  grind [formed_iff, Formed.foldl, Formed.emit, Formed.setCq, Formed.ringWrite]

theorem Formed.postCqe {q e} : Formed (s.postCqe q e) := by
  unfold State.postCqe
  grind [formed_iff, ! Formed.stamp, Formed.logClass, Formed.ircCause, Formed.setCq, Formed.cqLoad, Formed.otherWrite, Formed.intoRing]

theorem Formed.cqePost {q} : Formed (s.cqePost q) := by
  unfold State.cqePost
  grind [formed_iff, Formed.setCq, Formed.postCqe]

theorem Formed.ballastOut {q} : Formed (s.ballastOut q) := by
  unfold State.ballastOut
  refine Formed.ite (fun _ => ?_) fun _ => h
  extract_lets a bad
  split
  have read := h.cqLoad.otherRead.of_eq₂ ‹_›
  exact (Formed.setCq (Formed.ite (fun _ => read.fault) fun _ => read)).intoRing

theorem Formed.holderFreed {y} : Formed (s.holderFreed y) := by
  unfold State.holderFreed
  grind [formed_iff, Formed.setChan, Formed.enterSuspended]

theorem Formed.heldPost {q} : Formed (s.heldPost q) := by
  unfold State.heldPost
  grind [formed_iff, Formed.setCq, Formed.postCqe, Formed.holderFreed]

theorem Formed.ringReported {q kind cause} : Formed (s.ringReported q kind cause) := Formed.ite (fun _ => h) fun _ => h.ringFail

/-! ### Control commands -/

theorem Formed.fetched {c rd} : Formed (s.fetched c rd) := by
  unfold State.fetched
  grind [formed_iff, Formed.setChan, Formed.progressed, Formed.goFetch, Formed.dispose, Formed.commandRead, ! Formed.rereadCmd,
    Formed.fetchFails]

theorem Formed.memberReached {c rd} : Formed (s.memberReached c rd) := by
  unfold State.memberReached
  grind [formed_iff, Formed.setRg, Formed.setChan, Formed.progressed, Formed.cmdStart, Formed.memberFails, ! Formed.rereadCmd,
    Formed.loadMember, Formed.run]

theorem Formed.doNop {c} : Formed (s.doNop c) := Formed.ite (fun _ => h.endCmd) fun _ => h

theorem Formed.doTic {c} : Formed (s.doTic c) := Formed.ite (fun _ => h.endCmd) fun _ => h

theorem Formed.doBranch {c} : Formed (s.doBranch c) := by
  unfold State.doBranch
  grind [formed_iff, Formed.endCmd]

theorem Formed.doWait {c} : Formed (s.doWait c) := by
  unfold State.doWait
  grind [formed_iff, Formed.setChan, Formed.endCmd, Formed.checkFail, Formed.setCarFlag]

theorem Formed.waitExpires {c} : Formed (s.waitExpires c) := Formed.ite (fun _ => h.endCmd) fun _ => h

theorem Formed.syncFirst {c carrier what} : Formed (s.syncFirst c carrier what) := Formed.ite (fun _ => h.setChan.afterSync) fun _ => h

theorem Formed.doSignal {c} : Formed (s.doSignal c) := Formed.ite (fun _ => h.syncFirst) fun _ => h

theorem Formed.doHold {c} : Formed (s.doHold c) :=
  Formed.ite (fun _ => Formed.ite (fun _ => Formed.ite (fun _ => h.endCmd) fun _ => h.setChan) fun _ => h.endCmd) fun _ => h

theorem Formed.holdReached {c} : Formed (s.holdReached c) := Formed.ite (fun _ => h.endCmd) fun _ => h

theorem Formed.doStamp {c} : Formed (s.doStamp c) := Formed.ite (fun _ => h.stamp.setChan) fun _ => h

theorem Formed.doPost {c} : Formed (s.doPost c) := by
  unfold State.doPost
  grind [formed_iff, Formed.syncFirst]

theorem Formed.cpNext {c} : Formed (s.cpNext c) := by
  unfold State.cpNext
  grind [formed_iff, Formed.setBit, Formed.ircCause, Formed.setChan, Formed.endCmd]

theorem Formed.cpWritten {c res} : Formed (s.cpWritten c res) := by
  unfold State.cpWritten
  grind [formed_iff, Formed.setChan, Formed.linkAnswers, Formed.extWrite, Formed.cpError, ! Formed.cpStore, Formed.cpNext]

theorem Formed.zeroRead {c zone} : Formed (s.zeroRead c zone) := by
  unfold State.zeroRead
  grind [formed_iff, Formed.linkAnswers, Formed.syncDone]

theorem Formed.settleBurst {m tracked num} : Formed (s.settleBurst m tracked num) := by
  unfold State.settleBurst
  grind [formed_iff, Formed.endGrant, Formed.readArrives, Formed.writeDone, ! Formed.burstRead, ! Formed.burstStore]

theorem Formed.settle {c} : Formed (s.settle c) := by
  unfold State.settle
  grind [formed_iff, Formed.foldl, ! Formed.cpStore, Formed.settleBurst]

theorem Formed.commandTimeout {c} : Formed (s.commandTimeout c) := by
  unfold State.commandTimeout
  grind [formed_iff, Formed.timeoutEnd, Formed.settle]

theorem Formed.evictDue : Formed s.evictDue := Formed.ite (fun _ => h.evict) fun _ => h

theorem Formed.listCountOnly : Formed s.listCountOnly := by
  unfold State.listCountOnly
  grind [formed_iff]

/-! ### Drives -/

theorem Formed.driveReg {d off n v} : Formed (s.driveReg d off n v) := Formed.ite (fun _ => h.extWrite) fun _ => h

theorem Formed.doorbell {d q reply v} : Formed (s.doorbell d q reply v) := h.driveReg

theorem Formed.replyTaken {d q} : Formed (s.replyTaken d q) := h.setDrive.doorbell

theorem Formed.vectorSet {d q} : Formed (s.vectorSet d q) := h.driveReg

theorem Formed.putEntry {d q b} : Formed (s.putEntry d q b) := h.otherWrite.setDrive.doorbell

theorem Formed.replyRead {d q} : Formed (s.replyRead d q) := h.otherRead

theorem Formed.takeSlot {c d q b} : Formed (s.takeSlot c d q b) := by
  unfold State.takeSlot
  grind [formed_iff, Formed.setChan, Formed.setDrive, Formed.progressed, Formed.putEntry]

theorem Formed.imageRead {c y rd} : Formed (s.imageRead c y rd).2 := by
  unfold State.imageRead
  grind [formed_iff, Formed.linkAnswers, Formed.readOver, ! Formed.engineRead]

theorem Formed.doNvme {c rd} : Formed (s.doNvme c rd) := by
  unfold State.doNvme
  grind [formed_iff, Formed.readOver, Formed.endCmd, Formed.checkFail, Formed.cpError, Formed.takeSlot, ! Formed.imageRead]

theorem Formed.slotFreed {d q} : Formed (s.slotFreed d q) := by
  unfold State.slotFreed
  grind [formed_iff, Formed.foldl, Formed.takeSlot]

theorem Formed.driveCompletes {d cid dw0 status} : Formed (s.driveCompletes d cid dw0 status) := by
  unfold State.driveCompletes
  grind [formed_iff, Formed.staleRecord, Formed.setDrive, Formed.endCmd, Formed.replyTaken, Formed.replyRead, Formed.slotFreed]

theorem Formed.driveTimesOut {c} : Formed (s.driveTimesOut c) := by
  unfold State.driveTimesOut
  grind [formed_iff, Formed.setDrive, Formed.endCmd, Formed.putEntry]

theorem Formed.cqScan {d qid} : Formed (s.cqScan d qid) := Formed.ite (fun _ => h.replyRead) fun _ => h

/-! ### Snima's device, queue, drive and self-test commands -/

theorem Formed.devInfoTurn {c b q} : Formed (devInfoTurn c b q s).2 := Formed.iteSnd (fun _ => h) fun _ => h

theorem Formed.devHealthTurn {c b q} : Formed (devHealthTurn c b q s).2 := h

theorem Formed.operNonceTurn {c b q} : Formed (operNonceTurn c b q s).2 := Formed.iteSnd (fun _ => h.setBox.draw) fun _ => h

theorem Formed.operOpens {c b nonce point} : Formed (s.operOpens c b nonce point).2 :=
  Formed.iteSnd (fun _ => h) fun _ => Formed.iteSnd (fun _ => h) fun _ => h.drawScalar.dikSign.setBox

theorem Formed.operOpenTurn {c b q} : Formed (operOpenTurn c b q s).2 := by
  unfold Machine.operOpenTurn
  grind [formed_iff, ! Formed.operOpens]

theorem Formed.devRestartTurn {c b q} : Formed (devRestartTurn c b q s).2 := by
  unfold Machine.devRestartTurn
  grind [formed_iff]

theorem Formed.layoutGetTurn {c b q} : Formed (layoutGetTurn c b q s).2 := by
  unfold Machine.layoutGetTurn
  grind [formed_iff]

theorem Formed.setLayout {l} : Formed (s.setLayout l) := by
  unfold State.setLayout
  grind [formed_iff, Formed.setRg, Formed.setBit, Formed.claims, Formed.stayInPlace, Formed.zeroPlaces]

/-- The definition is opened with `State.judge` as a variable: the kernel would evaluate it in order to compare what the definition
says with what stands in its place. -/
theorem Formed.layoutSetTurn {c b q} : Formed (layoutSetTurn c b q s).2 := by
  suffices all : ∀ f : Handler, f = Machine.layoutSetTurn → Formed (f c b q s).2 from all _ rfl
  intro f e
  delta Machine.layoutSetTurn at e
  subst e
  generalize State.judge = judge
  revert judge
  refine id ?_
  intro judge
  dsimp only
  split
  · exact h
  · exact h.setLayout

theorem Formed.cqCreateTurn {c b q} : Formed (cqCreateTurn c b q s).2 := by
  unfold Machine.cqCreateTurn
  grind [formed_iff]

theorem Formed.sqCreateTurn {c b q} : Formed (sqCreateTurn c b q s).2 := by
  unfold Machine.sqCreateTurn
  grind [formed_iff]

theorem Formed.sqDeleteTurn {c b q} : Formed (sqDeleteTurn c b q s).2 := by
  unfold Machine.sqDeleteTurn
  grind [formed_iff]

theorem Formed.cqDeleteTurn {c b q} : Formed (cqDeleteTurn c b q s).2 := by
  unfold Machine.cqDeleteTurn
  grind [formed_iff]

theorem Formed.qQueryTurn {c b q} : Formed (qQueryTurn c b q s).2 := by
  unfold Machine.qQueryTurn
  grind [formed_iff]

theorem Formed.drvListTurn {c b q} : Formed (drvListTurn c b q s).2 := h

theorem Formed.adminRuns {d opc prp1 w10 w11} : Formed (s.adminRuns d opc prp1 w10 w11) := h.putEntry.setDrive.replyTaken

theorem Formed.attachBegins {d qbase} : Formed (s.attachBegins d qbase) := by
  unfold State.attachBegins
  grind [formed_iff, Formed.setDrive, Formed.driveReg]

theorem Formed.pairCreated {d q} : Formed (s.pairCreated d q) := by
  unfold State.pairCreated
  grind [formed_iff, Formed.vectorSet, Formed.adminRuns]

theorem Formed.attached {b info} : Formed (s.attached b info).2 := by
  unfold State.attached
  grind [formed_iff, Formed.foldl, Formed.setDrive, Formed.vectorSet, Formed.adminRuns, Formed.pairCreated]

theorem Formed.drvAttachTurn {ans c b q} : Formed (drvAttachTurn ans c b q s).2 := by
  unfold Machine.drvAttachTurn
  grind [formed_iff, Formed.setDrive, Formed.attachBegins, ! Formed.attached]

theorem Formed.drvDetachTurn {c b q} : Formed (drvDetachTurn c b q s).2 := by
  unfold Machine.drvDetachTurn
  grind [formed_iff, Formed.foldl, Formed.setDrive, Formed.driveReg, Formed.adminRuns]

theorem Formed.adminList {d data len} : Formed (s.adminList d data len) := Formed.ite (fun _ => h) fun _ => h.mcWrite

theorem Formed.adminFree {d cid} : Formed (s.adminFree d cid) := h.setDrive

theorem Formed.adminIssue {d b} : Formed (s.adminIssue d b).2 := h.adminList.putEntry

theorem Formed.drvAdminTurn {ans c b q} : Formed (drvAdminTurn ans c b q s).2 := by
  unfold Machine.drvAdminTurn
  grind [formed_iff, Formed.adminFree, ! Formed.adminIssue]

theorem Formed.drvExpires {c cmd} : Formed (s.drvExpires c cmd) := by
  unfold State.drvExpires
  grind [formed_iff, Formed.setDrive, Formed.finish, Formed.putEntry, Formed.adminFree]

theorem Formed.segReleaseTurn {c b q} : Formed (segReleaseTurn c b q s).2 := by
  unfold Machine.segReleaseTurn
  dsimp only
  split
  · exact h
  · split
    · exact h
    · split
      · exact h
      · exact h.setFld.stayInPlace

theorem Formed.segReturnTurn {c b q} : Formed (segReturnTurn c b q s).2 := by
  unfold Machine.segReturnTurn
  grind [formed_iff, Formed.setFld]

theorem Formed.bistEnds {g} : Formed (s.bistEnds g) := h.zeroPlaces.withScrubPos

theorem Formed.storeBistTurn {ans c b q} : Formed (storeBistTurn ans c b q s).2 := by
  unfold Machine.storeBistTurn
  grind [formed_iff, Formed.setFld, Formed.bistEnds]

theorem Formed.bistOrphan : Formed s.bistOrphan := by
  unfold State.bistOrphan
  grind [formed_iff, Formed.bistEnds]

theorem Formed.katEnds {cls n pass} : Formed (s.katEnds cls n pass) := by
  unfold State.katEnds
  grind [formed_iff, Formed.fault, Formed.drbgResume]

theorem Formed.cryptoKatTurn {ans c b q} : Formed (cryptoKatTurn ans c b q s).2 := by
  unfold Machine.cryptoKatTurn
  grind [formed_iff, Formed.katEnds]

theorem Formed.calStatusTurn {c b q} : Formed (calStatusTurn c b q s).2 := h

theorem Formed.armingIs {w} : Formed (s.armingIs w) := by
  unfold State.armingIs
  grind [formed_iff]

theorem Formed.tampArmTurn {c b q} : Formed (tampArmTurn c b q s).2 := by
  unfold Machine.tampArmTurn
  grind [formed_iff, → Formed.vaultWrites, Formed.armingIs]

theorem Formed.bootStagedTurn {b} : Formed (s.bootStagedTurn b).2 := by
  unfold State.bootStagedTurn
  grind [formed_iff, ! Formed.mcRead]

theorem Formed.bootStaged : Formed s.bootStaged := by
  unfold State.bootStaged
  grind [formed_iff, Formed.answer, → Formed.takeMsg, Formed.staleMsg, ! Formed.gate, Formed.endTurn, ! Formed.bootStagedTurn]

theorem Formed.postNote : Formed s.postNote := by
  unfold State.postNote
  grind [formed_iff, Formed.snimaPost]

theorem Formed.responsePosted {c} : Formed (s.responsePosted c) := by
  unfold State.responsePosted
  grind [formed_iff, Formed.sendAnswer, Formed.postNote]

theorem Formed.undefinedCmd {c} : Formed (s.undefinedCmd c) := by
  unfold State.undefinedCmd
  grind [formed_iff, Formed.answer, → Formed.takeMsg, Formed.staleMsg, ! Formed.gate, Formed.romAnswers]

theorem Formed.bgKat {ans} : Formed (s.bgKat ans) := by
  unfold State.bgKat
  grind [formed_iff, Formed.katEnds]

end

end Sys2Proof.Machine
end

section
/-! PROOFS. MemoryAndFifosKeepTheirForm (R42, R282, R329): what Fenuz, the analogue core, links, rails, Snima's sessions and the store do
  keeps the form. -/

namespace Sys2Proof.Machine

variable {s t u : State}

section

variable (h : Formed s)

include h

/-! ### Fenuz -/

theorem Formed.fnzDrop {p} : Formed (s.fnzDrop p) := h.addFld

theorem Formed.fnzForward {p b} : Formed (s.fnzForward p b) := Formed.ite (fun _ => h) fun _ => h.fnzPut

theorem Formed.fnzReceive {p f} {act : Header → List Byte → State → State}
    (hact : ∀ x b t, Formed t → Formed (act x b t)) : Formed (s.fnzReceive p f act) := by
  unfold State.fnzReceive
  grind [formed_iff, Formed.setBit, Formed.fnzDrop, Formed.fnzForward]

theorem Formed.fnzRow {p f kind sub} {act : Header → List Byte → State → State}
    (hact : ∀ x b t, Formed t → Formed (act x b t)) : Formed (s.fnzRow p f kind sub act) := by
  unfold State.fnzRow
  grind [formed_iff, Formed.fnzReceive]

theorem Formed.syncServed {p t2 t3 y b} : Formed (s.syncServed p t2 t3 y b) := by
  unfold State.syncServed
  grind [formed_iff, Formed.foldl, Formed.setFld, Formed.fnzSend]

theorem Formed.joinStep {ofs} : Formed (s.joinStep ofs) := by
  unfold State.joinStep
  grind [formed_iff, Formed.timeStep]

theorem Formed.exchangeActs {old ofs} : Formed (s.exchangeActs old ofs) := by
  unfold State.exchangeActs
  grind [formed_iff, Formed.timeStep, Formed.joinStep]

theorem Formed.disciplined {ofs align hopb} : Formed (s.disciplined ofs align hopb) := by
  unfold State.disciplined
  grind [formed_iff, Formed.setFld, Formed.refReturns, Formed.refLocks, Formed.exchangeActs]

theorem Formed.loseParent : Formed s.loseParent := by
  unfold State.loseParent
  grind [formed_iff, Formed.chooseParent]

theorem Formed.exchangeDone {p t1 t2 t3 t4 align} : Formed (s.exchangeDone p t1 t2 t3 t4 align) := by
  unfold State.exchangeDone
  exact Formed.ite (fun _ => h) fun _ => Formed.ite (fun _ => (Formed.setFld (Formed.setFld h.setFld)).withTime.disciplined)
    fun _ => (Formed.setFld (Formed.setFld h.setFld)).withTime

theorem Formed.syncAnswered {p t4 across y b} : Formed (s.syncAnswered p t4 across y b) := by
  unfold State.syncAnswered
  grind [formed_iff, Formed.loseParent, Formed.exchangeDone]

theorem Formed.announceHeard {p y b} : Formed (s.announceHeard p y b) := by
  unfold State.announceHeard
  grind [formed_iff, Formed.setFld, Formed.chooseParent]

theorem Formed.announces : Formed s.announces := by
  unfold State.announces
  grind [formed_iff, Formed.fnzOut]

theorem Formed.syncStarts : Formed s.syncStarts := by
  unfold State.syncStarts
  grind [formed_iff, Formed.fnzSend, ! Formed.newXid]

theorem Formed.parentLoss : Formed s.parentLoss := Formed.ite (fun _ => h.loseParent) fun _ => h

theorem Formed.gmSilence : Formed s.gmSilence := Formed.ite (fun _ => h.becomeGm) fun _ => h

theorem Formed.refuseJoin {p sub y rc} : Formed (s.refuseJoin p sub y rc) := h.fnzSend

theorem Formed.joinFails {c rc} : Formed (s.joinFails c rc) := by
  unfold State.joinFails
  grind [formed_iff, Formed.finish]

theorem Formed.helloHeard {p y b} : Formed (s.helloHeard p y b) := by
  unfold State.helloHeard
  extract_lets dikp pt
  split
  · exact h.refuseJoin
  · refine Formed.ite (fun _ => h.refuseJoin) fun _ => ?_
    refine Formed.ite (fun _ => h.refuseJoin) fun _ => ?_
    split
    have eph := h.drawScalar.of_eq ‹_›
    split
    have nonce := eph.draw.of_eq ‹_›
    split
    have reported := nonce.report.of_eq ‹_›
    extract_lets j f w
    exact reported.withFenuz.fnzSend

theorem Formed.challengeHeard {p b} : Formed (s.challengeHeard p b) := by
  unfold State.challengeHeard
  split
  · exact h
  · refine Formed.ite (fun _ => h) fun _ => Formed.ite (fun _ => h.joinFails) fun _ => ?_
    refine Formed.ite (fun _ => h.joinFails) fun _ => Formed.ite (fun _ => h.joinFails) fun _ => ?_
    split
    have reported := h.report.of_eq ‹_›
    split
    have signed := reported.dikSign.of_eq ‹_›
    extract_lets j
    exact signed.withFenuz.fnzSend

theorem Formed.proofHeard {p y b} : Formed (s.proofHeard p y b) := by
  unfold State.proofHeard
  split
  · exact h
  · refine Formed.ite (fun _ => h.withFenuz.refuseJoin) fun _ => ?_
    split
    · exact h.withFenuz.refuseJoin
    · exact Formed.ite (fun _ => h.withFenuz.refuseJoin) fun _ => h.withFenuz.fnzSend

theorem Formed.grantHeard {b} : Formed (s.grantHeard b) := by
  unfold State.grantHeard
  grind [formed_iff, Formed.setFld, Formed.timeCtlActs, → Formed.vaultWrites, Formed.finish, Formed.enterFleet, Formed.joinFails]

theorem Formed.joinTimeout : Formed s.joinTimeout := by
  unfold State.joinTimeout
  grind [formed_iff, Formed.joinFails]

theorem Formed.admissionLapses {node} : Formed (s.admissionLapses node) := h

theorem Formed.relayReplied {p x k} {act : Relay → State → State} (hact : ∀ r t, Formed t → Formed (act r t)) :
    Formed (s.relayReplied p x k act) := by
  unfold State.relayReplied
  grind [formed_iff, Formed.staleRecord]

theorem Formed.relayWrite {p node a d} : Formed (s.relayWrite p node a d).2 := Formed.iteSnd (fun _ => h.otherWrite) fun _ => h.fault

theorem Formed.attRequested {p y b} : Formed (s.attRequested p y b) := by
  unfold State.attRequested
  grind [formed_iff, Formed.fnzSend, ! Formed.report]

theorem Formed.reportArrives {p y b} : Formed (s.reportArrives p y b) := by
  refine h.relayReplied fun r t ht => ?_
  split
  · exact (ht.relayWrite.of_eq ‹_›).finish
  · exact (ht.relayWrite.of_eq ‹_›).finish

theorem Formed.mbxRequested {p y b} : Formed (s.mbxRequested p y b) := Formed.ite (fun _ => h.setBox) fun _ => h

theorem Formed.mbxReplied {p y b} : Formed (s.mbxReplied p y b) := by
  unfold State.mbxReplied
  grind [formed_iff, Formed.finish, Formed.relayReplied]

/-- The definition is opened with `State.relayWrite` as a variable: the kernel would evaluate it in order to compare what the definition
says with what stands in its place. -/
theorem Formed.recArrives {p y b} : Formed (s.recArrives p y b) := by
  have written : ∀ n a d, Formed (s.relayWrite p n a d).2 := fun _ _ _ => h.relayWrite
  suffices all : ∀ f, f = State.recArrives → Formed (f s p y b) from all _ rfl
  intro f e
  delta State.recArrives at e
  subst e
  revert written
  generalize State.relayWrite = write
  revert write
  refine id ?_
  intro write written
  dsimp only
  split
  · exact ((written _ _ _).of_eq ‹_›).fnzSend.withFenuz.postNote
  · exact ((written _ _ _).of_eq ‹_›).fnzSend

theorem Formed.recAcked {p y b} : Formed (s.recAcked p y b) := by
  unfold State.recAcked
  grind [formed_iff, Formed.finish, Formed.relayReplied]

theorem Formed.relayExpires {xid} : Formed (s.relayExpires xid) := by
  unfold State.relayExpires
  grind [formed_iff, Formed.finish]

theorem Formed.loopbackRuns {p m} : Formed (s.loopbackRuns p m) := Formed.ite (fun _ => h) fun _ => h

/-! ### Accesses of one register -/

theorem Formed.regRead {m r acc} : Formed (s.regRead m r acc) := h.readReg

theorem Formed.engineRefused {m a write} : Formed (s.engineRefused m a write) := by
  unfold State.engineRefused
  grind [formed_iff, Formed.fault, Formed.cpError, Formed.failNow, Formed.work, Formed.fetchFails]

theorem Formed.mbxCtlBit {m c b} : Formed (s.mbxCtlBit m c b) := h.writeReg

theorem Formed.unsupported {m} : Formed (s.unsupported m) := by
  unfold State.unsupported
  grind [formed_iff, Formed.setPort]

theorem Formed.inRead {m a n n'} : Formed (s.inRead m a n n').2.2 := by
  induction n' generalizing s a n with
  | zero => exact h
  | succ n ih => 
    unfold State.inRead
    grind [! Formed.otherRead]

theorem Formed.inBlock {m a w poisoned} : Formed (s.inBlock m a w poisoned) := by
  unfold State.inBlock
  grind [formed_iff, Formed.foldl, Formed.storeWrite, Formed.unmapped]

theorem Formed.inWrite {m a d be poisoned n} : Formed (s.inWrite m a d be poisoned n) := by
  induction n generalizing s a d be with
  | zero => exact h
  | succ n ih => exact Formed.ite (fun _ => h) fun _ => ih h.inBlock

theorem Formed.inbound {m n} : Formed (s.inbound m n) := by
  unfold State.inbound
  grind [formed_iff, Formed.reply, Formed.unmapped, ! Formed.otherRead, Formed.otherWrite, Formed.unsupported, ! Formed.inRead,
    Formed.inWrite]

/-! ### The analogue core -/

theorem Formed.reseed {i} : Formed (s.reseed i) := h

theorem Formed.entropyFails {test} : Formed (s.entropyFails test) := by
  unfold State.entropyFails
  extract_lets t u dead v drbg
  have bits : Formed v := Formed.setBit (Formed.addFld (Formed.setBit h.fault))
  exact Formed.ite (fun _ => h) fun _ => bits.withAnaCrypto

theorem Formed.redraw : Formed s.redraw := by
  unfold State.redraw
  grind [formed_iff, Formed.romStart]

theorem Formed.entropyPasses : Formed s.entropyPasses := by
  unfold State.entropyPasses
  grind [formed_iff, Formed.foldl, Formed.setBit, Formed.reseed, Formed.redraw]

theorem Formed.tempReading {i v} : Formed (s.tempReading i v) := by
  unfold State.tempReading
  grind [formed_iff, Formed.setFld, Formed.setBit]

theorem Formed.voltReading {r v} : Formed (s.voltReading r v) := Formed.ite (fun _ => h.setFld) fun _ => h

theorem Formed.voltReadings {l} : Formed (s.voltReadings l) := (Formed.foldlOf Prod.snd (fun _ _ hx => hx.voltReading) h).withAna

theorem Formed.setDetecting {src v} : Formed (s.setDetecting src v) := h

theorem Formed.tamperZeroise : Formed s.tamperZeroise := h.zeroiseCache

theorem Formed.tamperRuns {src arg} : Formed (s.tamperRuns src arg) := by
  unfold State.tamperRuns
  grind [formed_iff, Formed.setBit, Formed.lockdown, Formed.tamperRecord, Formed.tamperErase, Formed.joinFails, Formed.setDetecting,
    Formed.tamperZeroise]

theorem Formed.senses {src n} : Formed (s.senses src n).2 := by
  unfold State.senses
  grind [formed_iff, Formed.setDetecting]

theorem Formed.tamperShows {src} : Formed (s.tamperShows src) :=
  Formed.ite (fun _ => h) fun _ => Formed.ite (fun _ => h.setDetecting) fun _ => h

/-! ### Source events and strikes -/

theorem Formed.routeEvent {src} : Formed (s.routeEvent src) := by
  unfold State.routeEvent
  grind [formed_iff, Formed.sourceEvent]

theorem Formed.holdEnds {port v} : Formed (s.holdEnds port v) := Formed.ite (fun _ => h.idledNow.nextMessage) fun _ => h

theorem Formed.gpioChange {k level} : Formed (s.gpioChange k level) := by
  unfold State.gpioChange
  grind [formed_iff, Formed.emit]

/-! ### Events of links -/

theorem Formed.staleArrives {k idx cause} : Formed (s.staleArrives k idx cause) := by
  unfold State.staleArrives
  grind [formed_iff, Formed.staleRecord]

theorem Formed.speedChange {k v} : Formed (s.speedChange k v) := by
  unfold State.speedChange
  grind [formed_iff, Formed.setFld, Formed.setBit, Formed.linkEvent]

theorem Formed.widthChange {k v} : Formed (s.widthChange k v) := Formed.ite (fun _ => h.setFld.linkEvent) fun _ => h

theorem Formed.presenceLevel {k p} : Formed (s.presenceLevel k p) := h.setLink

theorem Formed.presenceChange {k p} : Formed (s.presenceChange k p) := by
  unfold State.presenceChange
  grind [formed_iff, Formed.setBit, Formed.linkEvent, Formed.linkDown]

theorem Formed.errMessage {k sev} : Formed (s.errMessage k sev) := Formed.ite (fun _ => h.setLink.linkEvent) fun _ => h

theorem Formed.configWrite {p w} : Formed (s.configWrite p w) := by
  unfold State.configWrite
  grind [formed_iff, Formed.setPort, Formed.setMsix]

theorem Formed.perstFalls {p} : Formed (s.perstFalls p) := by
  unfold State.perstFalls
  grind [formed_iff, Formed.foldl, Formed.setBit, Formed.linkDown, Formed.functionReset, Formed.bumpEpoch]

theorem Formed.perstLevel {p high} : Formed (s.perstLevel p high) := h

theorem Formed.perstReleased {k} : Formed (s.perstReleased k) := by
  unfold State.perstReleased
  grind [formed_iff, Formed.setLink]

/-! ### Rails and the pace monitors -/

theorem Formed.paceReading {i v} : Formed (s.paceReading i v) := by
  unfold State.paceReading
  grind [formed_iff, Formed.setFld]

theorem Formed.tapLoads {i} : Formed (s.tapLoads i) := by
  unfold State.tapLoads
  grind [formed_iff]

/-! ### Snima's session, operator and firmware commands -/

theorem Formed.takeCounts {i} : Formed (s.takeCounts i).2 := by
  unfold State.takeCounts
  grind [formed_iff]

theorem Formed.revoke {i} : Formed (s.revoke i) := by
  unfold State.revoke
  grind [formed_iff]

theorem Formed.sessTurn {c cmd b bad ctxBad gen stateOk} {go : Nat → List Byte → State → Turn × State}
    (hgo : ∀ i x t, Formed t → Formed (go i x t).2) : Formed (s.sessTurn c cmd b bad ctxBad gen stateOk go).2 := by
  unfold State.sessTurn
  grind [formed_iff, ! Formed.mcRead]

theorem Formed.sessChange {i draw} {mk : Nat → Nat → State → List Byte × State} {res}
    (hmk : ∀ n g t, Formed t → Formed (mk n g t).2) : Formed (s.sessChange i draw mk res).2 := by
  unfold State.sessChange
  grind [formed_iff, ! Formed.draw, → Formed.vaultWrite, Formed.mcWrite, ! Formed.takeCounts, Formed.revoke]

theorem Formed.sessNew {i pol used key res} : Formed (s.sessNew i pol used key res).2 := by
  unfold State.sessNew
  grind [formed_iff, ! Formed.sessChange]

theorem Formed.sessImportTurn {c b q} : Formed (sessImportTurn c b q s).2 := by
  unfold Machine.sessImportTurn
  grind [formed_iff, ! Formed.sessTurn, ! Formed.sessNew]

theorem Formed.sessGenerateTurn {c b q} : Formed (sessGenerateTurn c b q s).2 := by
  unfold Machine.sessGenerateTurn
  grind [formed_iff, ! Formed.drawGood, ! Formed.drawScalar, ! Formed.sessTurn, ! Formed.sessNew]

theorem Formed.sessExportTurn {c b q} : Formed (sessExportTurn c b q s).2 := by
  unfold Machine.sessExportTurn
  grind [formed_iff, ! Formed.sessTurn]

theorem Formed.sessPolicyTurn {c b q} : Formed (sessPolicyTurn c b q s).2 := by
  unfold Machine.sessPolicyTurn
  grind [formed_iff, ! Formed.sessTurn, ! Formed.sessChange]

theorem Formed.sessDestroyTurn {c b q} : Formed (sessDestroyTurn c b q s).2 := by
  unfold Machine.sessDestroyTurn
  grind [formed_iff, ! Formed.sessTurn, ! Formed.sessChange]

theorem Formed.foldCounts {i x} : Formed (s.foldCounts i x).2 := Formed.iteSnd (fun _ => h) fun _ => h.takeCounts.mcWrite

theorem Formed.sessQueryTurn {c b q} : Formed (sessQueryTurn c b q s).2 := by
  unfold Machine.sessQueryTurn
  grind [formed_iff, ! Formed.sessTurn, ! Formed.foldCounts]

theorem Formed.sessMigrateOutTurn {c b q} : Formed (sessMigrateOutTurn c b q s).2 := by
  unfold Machine.sessMigrateOutTurn
  grind [formed_iff, Formed.mcWrite, ! Formed.sessTurn, ! Formed.sessChange]

theorem Formed.sessAdoptTurn {c b q} : Formed (sessAdoptTurn c b q s).2 := by
  unfold Machine.sessAdoptTurn
  refine h.sessTurn fun i x t ht => ?_
  split
  · exact ht.mcRead.of_eq ‹_›
  · have read := ht.mcRead.of_eq ‹_›
    split
    · exact read
    · exact Formed.iteSnd (fun _ => read) fun _ => read.sessNew

theorem Formed.usedFold : Formed s.usedFold := by
  unfold State.usedFold
  grind [formed_iff, ! Formed.mcRead, Formed.mcWrite]

theorem Formed.setSlot {k p} : Formed (s.setSlot k p).2 := by
  unfold State.setSlot
  grind [formed_iff, → Formed.vaultWrites]

theorem Formed.operClaimTurn {c b q} : Formed (operClaimTurn c b q s).2 := by
  unfold Machine.operClaimTurn
  grind [formed_iff, ! Formed.setSlot]

theorem Formed.operEnrollTurn {c b q} : Formed (operEnrollTurn c b q s).2 := by
  unfold Machine.operEnrollTurn
  grind [formed_iff, ! Formed.setSlot]

theorem Formed.dropSlot {k} : Formed (s.dropSlot k) := by
  unfold State.dropSlot
  grind [formed_iff, Formed.foldl, Formed.dropKey]

theorem Formed.operRevokeTurn {c b q} : Formed (operRevokeTurn c b q s).2 := by
  unfold Machine.operRevokeTurn
  grind [formed_iff, ! Formed.setSlot, Formed.dropSlot]

theorem Formed.operListTurn {c b q} : Formed (operListTurn c b q s).2 := Formed.iteSnd (fun _ => h) fun _ => h

theorem Formed.attReportTurn {c b q} : Formed (attReportTurn c b q s).2 := by
  unfold Machine.attReportTurn
  grind [formed_iff, Formed.mcWrite, ! Formed.report]

theorem Formed.attCertTurn {c b q} : Formed (attCertTurn c b q s).2 := by
  unfold Machine.attCertTurn
  grind [formed_iff, Formed.mcWrite]

theorem Formed.setRecord {r after} : Formed (s.setRecord r after).2 := by
  unfold State.setRecord
  grind [formed_iff, → Formed.vaultWrites]

theorem Formed.eraseSlot {b} : Formed (s.eraseSlot b) := by
  unfold State.eraseSlot
  grind [formed_iff, Formed.foldl]

theorem Formed.writeSlot {b img} : Formed (s.writeSlot b img) := by
  unfold State.writeSlot
  grind [formed_iff, Formed.foldl, Formed.eraseSlot]

theorem Formed.fwStageTurn {flashOk c b q} : Formed (fwStageTurn flashOk c b q s).2 := by
  unfold Machine.fwStageTurn
  grind [formed_iff, ! Formed.mcRead, Formed.eraseSlot, Formed.writeSlot]

theorem Formed.fwActivateTurn {c b q} : Formed (fwActivateTurn c b q s).2 := by
  unfold Machine.fwActivateTurn
  grind [formed_iff, ! Formed.setRecord]

theorem Formed.fwCommitTurn {c b q} : Formed (fwCommitTurn c b q s).2 := by
  unfold Machine.fwCommitTurn
  grind [formed_iff, ! Formed.setRecord]

theorem Formed.fwRollbackTurn {c b q} : Formed (fwRollbackTurn c b q s).2 := by
  unfold Machine.fwRollbackTurn
  grind [formed_iff, ! Formed.setRecord]

theorem Formed.fwStatusTurn {c b q} : Formed (fwStatusTurn c b q s).2 := by
  unfold Machine.fwStatusTurn
  grind [formed_iff]

/-! ### Zeroing, scrub and retirement -/

theorem Formed.copyWord {w v} : Formed (s.copyWord w v) := by
  unfold State.copyWord
  grind [formed_iff, Kept, Formed.corrected, Memory.wf_memWrite]

theorem Formed.moveOut {p} : Formed (s.moveOut p) := by
  unfold State.moveOut
  split
  · split
    · exact h
    · extract_lets q t u m store v
      have copied : Formed u := Formed.foldl (fun x i hx => hx.copyWord) h.fault
      have moved : Formed v := copied.withRemap
      exact moved.vaultPut
  · exact h

theorem Formed.presentAgain {r} : Formed (s.presentAgain r) := by
  unfold State.presentAgain
  grind [formed_iff, Formed.setActive, Formed.dropBursts, Formed.run]

theorem Formed.rowsMove {p} : Formed (s.rowsMove p) := by
  unfold State.rowsMove
  grind [formed_iff, Formed.withdraw]

theorem Formed.retirePage {p} : Formed (s.retirePage p) := by
  unfold State.retirePage
  grind [formed_iff, Formed.foldl, Formed.giveUpRow, Formed.stayInPlace, Formed.moveOut, Formed.presentAgain, Formed.rowsMove]

theorem Formed.scrubStep {g n} : Formed (s.scrubStep g n) := by
  unfold State.scrubStep
  grind [formed_iff, Formed.foldl, Formed.setFld, Formed.readWord]

end

end Sys2Proof.Machine
end

section
/-! PROOFS. MemoryAndFifosKeepTheirForm (R42, R282, R329): what every command keeps, and so every step. -/

namespace Sys2Proof.Machine

variable {s t : State}

/-! ### How commands act -/

/-- What a command answers keeps the form. -/
def Answers (r : Result) : Prop := ∃ t, r = .next t ∧ Formed t

theorem Formed.aside (h : Formed t) : Formed (Machine.aside s t) := h

theorem Formed.noRewind (h : Formed t) : Formed (Machine.noRewind s t) :=
  Formed.ite (fun _ => h.afterwards.aside.withTime) fun _ => h.afterwards.aside

theorem Formed.next (h : Formed t) : Answers (.next (Machine.noRewind s t)) := ⟨_, rfl, h.noRewind⟩

theorem Formed.nextAside (h : Formed t) : Answers (.next (Machine.aside s t)) := ⟨_, rfl, h.aside⟩

theorem Formed.unlocked {f : State → State} (h : Formed s) (hf : ∀ t, Formed t → Formed (f t)) : Formed (Machine.unlocked f s) :=
  Formed.ite (fun _ => h) fun _ => hf s h

section

variable {f : State → State} (h : Formed s) (hf : ∀ t, Formed t → Formed (f t)) {now : Nat}

include h hf

theorem Formed.live : Answers (Machine.live s f) := ⟨_, rfl, Formed.ite (fun _ => h) fun _ => (hf s h).noRewind⟩

theorem Formed.liveAt : Answers (Machine.liveAt s now f) := h.live fun _ ht => hf _ ht.pass

theorem Formed.liveM : Answers (Machine.liveM s f) := h.live fun _ ht => ht.orWaits (hf _ ht)

theorem Formed.liveMAt : Answers (Machine.liveMAt s now f) := h.live fun _ ht => ht.pass.orWaits (hf _ ht.pass)

theorem Formed.liveC : Answers (Machine.liveC s f) := h.live fun _ ht => ht.orWaits (hf _ ht).follows

theorem Formed.liveCAt : Answers (Machine.liveCAt s now f) := h.live fun _ ht => ht.pass.orWaits (hf _ ht.pass).follows

theorem Formed.freeM : Answers (Machine.freeM s f) := h.live fun _ ht => ht.unlocked fun _ hu => hu.orWaits (hf _ hu)

theorem Formed.freeC : Answers (Machine.freeC s f) := h.live fun _ ht => ht.unlocked fun _ hu => hu.orWaits (hf _ hu).follows

theorem Formed.freeCAt : Answers (Machine.freeCAt s now f) :=
  h.live fun _ ht => ht.pass.unlocked fun _ hu => hu.orWaits (hf _ hu).follows

end

/-! ### Commands with an effect of their own -/

theorem Formed.execUnmappedAccess (h : Formed s) {m addr len write} : Answers (Machine.execUnmappedAccess m addr len write s) :=
  h.liveC fun _ ht => Formed.ite (fun _ => Formed.ite (fun _ => ht.engineRefused.withBus) fun _ => ht.unmapped.reply) fun _ =>
    Formed.ite (fun _ => ht.unmapped.reply) fun _ => ht

theorem Formed.execStoreBist (h : Formed s) {c ans} : Answers (Machine.execStoreBist c ans s) := by
  refine h.live fun t ht => ?_
  have turn := ht.snimaAct (c := c) (cmd := 0x0702) (cls := 1) (lenOk := lenIs 8) (act := Machine.storeBistTurn ans)
    fun _ _ _ _ hu => hu.storeBistTurn
  cases ans with
  | started => exact turn
  | done => exact Formed.ite (fun _ => turn) fun _ => ht.bistOrphan

theorem Formed.execSyncRsp (h : Formed s) {p f t4} : Answers (Machine.execSyncRsp p f t4 s) :=
  ⟨_, rfl, Formed.ite (fun _ => h) fun _ => (h.pass.fnzRow fun _ _ _ ht => ht.syncAnswered).afterwards⟩

theorem Formed.execLanePathSwap (h : Formed s) {lane adapted now} : Answers (Machine.execLanePathSwap lane adapted now s) :=
  h.liveAt fun _ ht => Formed.ite (fun _ => ht.withAna.setBit) fun _ => ht.withAna

theorem Formed.execPaceRefresh (h : Formed s) {readings now} : Answers (Machine.execPaceRefresh readings now s) := by
  refine h.liveAt fun t ht => ?_
  have read := Formed.foldlOf Prod.snd (f := fun (a : Nat × State) v => (a.1 + 1, a.2.paceReading a.1 v)) (x := (0, t))
    (l := (readings.take 16).map BitVec.toNat) (fun _ _ hx => hx.paceReading) ht
  exact read.paceBelow

theorem Formed.execTamperDetectStandby (h : Formed s) {src sense} : Answers (Machine.execTamperDetectStandby src sense s) :=
  (Formed.ite (fun _ => Formed.bind h.senses fun _ _ ht => Formed.ite (fun _ => ht.setDetecting.tamperErase) fun _ => ht) fun _ => h).next

theorem Formed.execTamperSeen (h : Formed s) {src sense} : Answers (Machine.execTamperSeen src sense s) := by
  refine Formed.next (Formed.ite (fun _ => h) fun _ => ?_)
  cases sense with
  | none => exact Formed.ite (fun _ => h.setDetecting) fun _ => h
  | some x => exact Formed.bind h.senses fun _ _ ht => Formed.ite (fun _ => ht.tamperShows) fun _ => ht

theorem Formed.execVaultScrub (h : Formed s) {corrected uncorrectable now} :
    Answers (Machine.execVaultScrub corrected uncorrectable now s) :=
  h.liveAt fun _ ht => Formed.ite (fun _ => (Formed.foldl (fun _ _ hu => hu.vaultPut) ht).addFld.withVault) fun _ => ht

theorem Formed.execStoreZeroComplete (h : Formed s) : Answers (Machine.execStoreZeroComplete s) :=
  h.live fun _ ht => Formed.ite (fun _ => ht) fun _ => ht

/-! ### Every command -/

/-- Each row acts through operations that keep the form. -/
theorem Formed.exec (h : Formed s) (c : Instr) : Answers (Machine.exec c s) := by
  match c with
  | .registerWrite m off acc data =>
    exact show Answers (execRegisterWrite m off acc data s) from
      h.liveC fun _ ht => Formed.ite (fun _ => ht.spaceWrite) fun _ => Formed.ite (fun _ => ht.spaceWrite) fun _ => ht.unmapped
  | .unmappedAccess m addr len write => exact show Answers (Machine.execUnmappedAccess m addr len write s) from h.execUnmappedAccess
  | .timeNowLoRead m acc => exact show Answers (execTimeNowLoRead m acc s) from h.live fun _ ht => ht.regRead
  | .timeCtlWrite m acc data => exact show Answers (execTimeCtlWrite m acc data s) from h.live fun _ ht => ht.writeReg
  | .timeStatus now => exact show Answers (execTimeStatus now s) from h.liveAt fun _ ht => ht.statusSecond
  | .ppsInEdge rising now => exact show Answers (execPpsInEdge rising now s) from h.liveAt fun _ ht => ht.ppsEdge
  | .ppsOutRise now => exact show Answers (execPpsOutRise now s) from h.liveAt fun _ ht => ht.ppsRises
  | .ppsOutFall now => exact show Answers (execPpsOutFall now s) from h.liveAt fun _ ht => ht.ppsFalls
  | .referenceLost now => exact show Answers (execReferenceLost now s) from h.liveAt fun _ ht => ht.refLost
  | .referenceReturn now => exact show Answers (execReferenceReturn now s) from h.liveAt fun _ ht => ht.refReturns
  | .alwaysLoggedRecordEntry => exact show Answers (execAlwaysLoggedRecordEntry s) from h.live fun _ ht => ht.logEnter
  | .logLostRecord => exact show Answers (execLogLostRecord s) from h.live fun _ ht => ht.logLost
  | .logBatchWrite => exact show Answers (execLogBatchWrite s) from h.liveM fun _ ht => ht.logBatch
  | .logTmoExpiry now => exact show Answers (execLogTmoExpiry now s) from h.liveMAt fun _ ht => ht.logTimeout
  | .logFlush m cut => exact show Answers (execLogFlush m cut s) from h.live fun _ ht => ht.logFlushAll
  | .logLostRead m acc => exact show Answers (execLogLostRead m acc s) from h.live fun _ ht => ht.regRead
  | .lckSemRead m n acc => exact show Answers (execLckSemRead m n acc s) from h.live fun _ ht => ht.regRead
  | .lckSemWrite m n acc data => exact show Answers (execLckSemWrite m n acc data s) from h.live fun _ ht => ht.writeReg
  | .mbxInPost m c acc => exact show Answers (execMbxInPost m c acc s) from h.live fun _ ht => ht.regRead
  | .mbxOutPost m c acc => exact show Answers (execMbxOutPost m c acc s) from h.live fun _ ht => ht.regRead
  | .mbxInPop m c => exact show Answers (execMbxInPop m c s) from h.live fun _ ht => ht.writeReg
  | .mbxOutPop m c => exact show Answers (execMbxOutPop m c s) from h.live fun _ ht => ht.writeReg
  | .flushIn m c => exact show Answers (execFlushIn m c s) from h.live fun _ ht => ht.mbxCtlBit
  | .flushOut m c => exact show Answers (execFlushOut m c s) from h.live fun _ ht => ht.mbxCtlBit
  | .bumpIn m c => exact show Answers (execBumpIn m c s) from h.live fun _ ht => ht.mbxCtlBit
  | .mbxRtoWrite m c acc data => exact show Answers (execMbxRtoWrite m c acc data s) from h.live fun _ ht => ht.writeReg
  | .bumpOut m c => exact show Answers (execBumpOut m c s) from h.live fun _ ht => ht.mbxCtlBit
  | .mbxStaleClear m c => exact show Answers (execMbxStaleClear m c s) from h.live fun _ ht => ht.writeReg
  | .mbxReadTimeout c now => exact show Answers (execMbxReadTimeout c now s) from h.liveAt fun _ ht => ht.readTimeout
  | .snimaResponsePosted c => exact show Answers (execSnimaResponsePosted c s) from h.live fun _ ht => ht.responsePosted
  | .devInfo c => exact show Answers (execDevInfo c s) from h.live fun _ ht => ht.snimaAct fun _ _ _ _ hu => hu.devInfoTurn
  | .devHealth c => exact show Answers (execDevHealth c s) from h.live fun _ ht => ht.snimaAct fun _ _ _ _ hu => hu.devHealthTurn
  | .operNonce c => exact show Answers (execOperNonce c s) from h.live fun _ ht => ht.snimaAct fun _ _ _ _ hu => hu.operNonceTurn
  | .operOpen c => exact show Answers (execOperOpen c s) from h.live fun _ ht => ht.snimaAct fun _ _ _ _ hu => hu.operOpenTurn
  | .drvAttach c ans => exact show Answers (execDrvAttach c ans s) from h.liveM fun _ ht => ht.snimaAct fun _ _ _ _ hu => hu.drvAttachTurn
  | .operClose c => exact show Answers (execOperClose c s) from h.live fun _ ht => ht.snimaAct fun _ _ _ _ hu => hu
  | .devRestart c => exact show Answers (execDevRestart c s) from h.live fun _ ht => ht.snimaAct fun _ _ _ _ hu => hu.devRestartTurn
  | .layoutGet c => exact show Answers (execLayoutGet c s) from h.live fun _ ht => ht.snimaAct fun _ _ _ _ hu => hu.layoutGetTurn
  | .layoutSet c => exact show Answers (execLayoutSet c s) from h.liveM fun _ ht => ht.snimaAct fun _ _ _ _ hu => hu.layoutSetTurn
  | .cqCreate c => exact show Answers (execCqCreate c s) from h.live fun _ ht => ht.snimaAct fun _ _ _ _ hu => hu.cqCreateTurn
  | .driveReadyTimeout c now => exact show Answers (execDriveReadyTimeout c now s) from h.liveMAt fun _ ht => ht.drvExpires
  | .sqCreate c => exact show Answers (execSqCreate c s) from h.live fun _ ht => ht.snimaAct fun _ _ _ _ hu => hu.sqCreateTurn
  | .sqDelete c => exact show Answers (execSqDelete c s) from h.live fun _ ht => ht.snimaAct fun _ _ _ _ hu => hu.sqDeleteTurn
  | .cqDelete c => exact show Answers (execCqDelete c s) from h.live fun _ ht => ht.snimaAct fun _ _ _ _ hu => hu.cqDeleteTurn
  | .qQuery c => exact show Answers (execQQuery c s) from h.live fun _ ht => ht.snimaAct fun _ _ _ _ hu => hu.qQueryTurn
  | .drvList c => exact show Answers (execDrvList c s) from h.live fun _ ht => ht.snimaAct fun _ _ _ _ hu => hu.drvListTurn
  | .drvAdmin c ans => exact show Answers (execDrvAdmin c ans s) from h.liveM fun _ ht => ht.snimaAct fun _ _ _ _ hu => hu.drvAdminTurn
  | .drvDetach c => exact show Answers (execDrvDetach c s) from h.liveM fun _ ht => ht.snimaAct fun _ _ _ _ hu => hu.drvDetachTurn
  | .drvAdminTimeout c now => exact show Answers (execDrvAdminTimeout c now s) from h.liveMAt fun _ ht => ht.drvExpires
  | .segRelease c => exact show Answers (execSegRelease c s) from h.live fun _ ht => ht.snimaAct fun _ _ _ _ hu => hu.segReleaseTurn
  | .segReturn c => exact show Answers (execSegReturn c s) from h.live fun _ ht => ht.snimaAct fun _ _ _ _ hu => hu.segReturnTurn
  | .storeBist c ans => exact show Answers (Machine.execStoreBist c ans s) from h.execStoreBist
  | .cryptoKat c ans => exact show Answers (execCryptoKat c ans s) from h.liveC fun _ ht => ht.snimaAct fun _ _ _ _ hu => hu.cryptoKatTurn
  | .calStatus c => exact show Answers (execCalStatus c s) from h.live fun _ ht => ht.snimaAct fun _ _ _ _ hu => hu.calStatusTurn
  | .tampArm c => exact show Answers (execTampArm c s) from h.live fun _ ht => ht.snimaAct fun _ _ _ _ hu => hu.tampArmTurn
  | .bootStaged => exact show Answers (execBootStaged s) from h.liveM fun _ ht => ht.bootStaged
  | .sessImport c => exact show Answers (execSessImport c s) from h.liveM fun _ ht => ht.snimaAct fun _ _ _ _ hu => hu.sessImportTurn
  | .sessGenerate c => exact show Answers (execSessGenerate c s) from h.liveM fun _ ht => ht.snimaAct fun _ _ _ _ hu => hu.sessGenerateTurn
  | .sessExport c => exact show Answers (execSessExport c s) from h.liveM fun _ ht => ht.snimaAct fun _ _ _ _ hu => hu.sessExportTurn
  | .sessPolicy c => exact show Answers (execSessPolicy c s) from h.liveM fun _ ht => ht.snimaAct fun _ _ _ _ hu => hu.sessPolicyTurn
  | .sessDestroy c => exact show Answers (execSessDestroy c s) from h.liveM fun _ ht => ht.snimaAct fun _ _ _ _ hu => hu.sessDestroyTurn
  | .fwStage c flashOk => exact show Answers (execFwStage c flashOk s) from h.liveM fun _ ht => ht.snimaAct fun _ _ _ _ hu => hu.fwStageTurn
  | .sessQuery c => exact show Answers (execSessQuery c s) from h.liveM fun _ ht => ht.snimaAct fun _ _ _ _ hu => hu.sessQueryTurn
  | .sessMigrateOut c =>
    exact show Answers (execSessMigrateOut c s) from h.liveM fun _ ht => ht.snimaAct fun _ _ _ _ hu => hu.sessMigrateOutTurn
  | .sessAdopt c => exact show Answers (execSessAdopt c s) from h.liveM fun _ ht => ht.snimaAct fun _ _ _ _ hu => hu.sessAdoptTurn
  | .operClaim c => exact show Answers (execOperClaim c s) from h.live fun _ ht => ht.snimaAct fun _ _ _ _ hu => hu.operClaimTurn
  | .operEnroll c => exact show Answers (execOperEnroll c s) from h.live fun _ ht => ht.snimaAct fun _ _ _ _ hu => hu.operEnrollTurn
  | .usedFold => exact show Answers (execUsedFold s) from h.liveM fun _ ht => ht.usedFold
  | .operRevoke c => exact show Answers (execOperRevoke c s) from h.live fun _ ht => ht.snimaAct fun _ _ _ _ hu => hu.operRevokeTurn
  | .operList c => exact show Answers (execOperList c s) from h.live fun _ ht => ht.snimaAct fun _ _ _ _ hu => hu.operListTurn
  | .attReport c => exact show Answers (execAttReport c s) from h.liveM fun _ ht => ht.snimaAct fun _ _ _ _ hu => hu.attReportTurn
  | .attCert c => exact show Answers (execAttCert c s) from h.liveM fun _ ht => ht.snimaAct fun _ _ _ _ hu => hu.attCertTurn
  | .fwActivate c => exact show Answers (execFwActivate c s) from h.live fun _ ht => ht.snimaAct fun _ _ _ _ hu => hu.fwActivateTurn
  | .countOnlyToList => exact show Answers (execCountOnlyToList s) from h.live fun _ ht => ht.unlocked fun _ hu => hu.listCountOnly
  | .fwCommit c => exact show Answers (execFwCommit c s) from h.live fun _ ht => ht.snimaAct fun _ _ _ _ hu => hu.fwCommitTurn
  | .fwRollback c => exact show Answers (execFwRollback c s) from h.live fun _ ht => ht.snimaAct fun _ _ _ _ hu => hu.fwRollbackTurn
  | .fwStatus c => exact show Answers (execFwStatus c s) from h.live fun _ ht => ht.snimaAct fun _ _ _ _ hu => hu.fwStatusTurn
  | .fleetStatus c => exact show Answers (execFleetStatus c s) from h.live fun _ ht => ht.snimaAct fun _ _ _ _ hu => hu.fleetStatusTurn
  | .fleetCreate c => exact show Answers (execFleetCreate c s) from h.live fun _ ht => ht.snimaAct fun _ _ _ _ hu => hu.fleetCreateTurn
  | .keyCacheEviction => exact show Answers (execKeyCacheEviction s) from h.live fun _ ht => ht.unlocked fun _ hu => hu.evictDue
  | .fleetAdmit c => exact show Answers (execFleetAdmit c s) from h.live fun _ ht => ht.snimaAct fun _ _ _ _ hu => hu.fleetAdmitTurn
  | .fleetJoin c => exact show Answers (execFleetJoin c s) from h.live fun _ ht => ht.snimaAct fun _ _ _ _ hu => hu.fleetJoinTurn
  | .fleetLeave c => exact show Answers (execFleetLeave c s) from h.live fun _ ht => ht.snimaAct fun _ _ _ _ hu => hu.fleetLeaveTurn
  | .timeSet c => exact show Answers (execTimeSet c s) from h.live fun _ ht => ht.snimaAct fun _ _ _ _ hu => hu.timeSetTurn
  | .mbxRelay c => exact show Answers (execMbxRelay c s) from h.live fun _ ht => ht.snimaAct fun _ _ _ _ hu => hu.mbxRelayTurn
  | .chmSq m q acc => exact show Answers (execChmSq m q acc s) from h.live fun _ ht => ht.chimeWrite
  | .fleetAttest c => exact show Answers (execFleetAttest c s) from h.live fun _ ht => ht.snimaAct fun _ _ _ _ hu => hu.fleetAttestTurn
  | .recSend c => exact show Answers (execRecSend c s) from h.liveM fun _ ht => ht.snimaAct fun _ _ _ _ hu => hu.recSendTurn
  | .bootImageLoaded readOk => exact show Answers (execBootImageLoaded readOk s) from h.live fun _ ht => ht.imageLoaded
  | .chmCq m q acc data => exact show Answers (execChmCq m q acc data s) from h.live fun _ ht => ht.chimeWrite
  | .sqEnable m q => exact show Answers (execSqEnable m q s) from h.live fun _ ht => ht.writeReg
  | .sqDisable m q => exact show Answers (execSqDisable m q s) from h.live fun _ ht => ht.writeReg
  | .cqEnable m q => exact show Answers (execCqEnable m q s) from h.live fun _ ht => ht.writeReg
  | .cqDisable m q => exact show Answers (execCqDisable m q s) from h.live fun _ ht => ht.writeReg
  | .fetchGrant => exact show Answers (execFetchGrant s) from h.live fun _ ht => ht.unlocked fun _ hu => hu.fetchGrant
  | .windowDataReturn q data =>
    exact show Answers (execWindowDataReturn q data s) from
      h.liveM fun _ ht => Formed.ite (fun _ => ht.windowMeets) fun _ => ht.windowReturns
  | .tailReadReturn q word => exact show Answers (execTailReadReturn q word s) from h.freeM fun _ ht => ht.tailReturns
  | .headReadReturn q word => exact show Answers (execHeadReadReturn q word s) from h.freeM fun _ ht => ht.headReturns
  | .ringReadFail q kind cause =>
    exact show Answers (execRingReadFail q kind cause s) from h.live fun _ ht => ht.unlocked fun _ hu => hu.ringReported
  | .repollExpiry q now => exact show Answers (execRepollExpiry q now s) from h.liveAt fun _ ht => ht.unlocked fun _ hu => hu.repollExpires
  | .sqeStart q => exact show Answers (execSqeStart q s) from h.live fun _ ht => ht.unlocked fun _ hu => hu.sqeStart
  | .sqeResume q => exact show Answers (execSqeResume q s) from h.freeC fun _ ht => ht.sqeResume
  | .sqeStop q => exact show Answers (execSqeStop q s) from h.freeC fun _ ht => ht.sqeStop
  | .sqeNop q => exact show Answers (execSqeNop q s) from h.live fun _ ht => ht.unlocked fun _ hu => hu.sqeNop
  | .dispatch q => exact show Answers (execDispatch q s) from h.freeC fun _ ht => ht.dispatchSq
  | .notBeforeReached ch now => exact show Answers (execNotBeforeReached ch now s) from h.freeCAt fun _ ht => ht.startReached
  | .cqePost q => exact show Answers (execCqePost q s) from h.freeM fun _ ht => ht.cqePost
  | .ballastToRing q => exact show Answers (execBallastToRing q s) from h.freeM fun _ ht => ht.ballastOut
  | .heldCqeToBallast q => exact show Answers (execHeldCqeToBallast q s) from h.freeC fun _ ht => ht.heldPost
  | .commandFetch ch rd => exact show Answers (execCommandFetch ch rd s) from h.freeC fun _ ht => ht.fetched
  | .move ch => exact show Answers (execMove ch s) from h.freeC fun _ ht => ht.dataStart
  | .xform ch => exact show Answers (execXform ch s) from h.freeC fun _ ht => ht.dataStart
  | .seal ch => exact show Answers (execSeal ch s) from h.freeC fun _ ht => ht.dataStart
  | .unseal ch => exact show Answers (execUnseal ch s) from h.freeC fun _ ht => ht.dataStart
  | .digest ch => exact show Answers (execDigest ch s) from h.freeC fun _ ht => ht.dataStart
  | .nvme ch rd => exact show Answers (execNvme ch rd s) from h.freeC fun _ ht => ht.doNvme
  | .sign ch => exact show Answers (execSign ch s) from h.freeC fun _ ht => ht.dataStart
  | .verify ch => exact show Answers (execVerify ch s) from h.freeC fun _ ht => ht.dataStart
  | .fill ch => exact show Answers (execFill ch s) from h.freeC fun _ ht => ht.dataStart
  | .compare ch => exact show Answers (execCompare ch s) from h.freeC fun _ ht => ht.dataStart
  | .stamp ch => exact show Answers (execStamp ch s) from h.freeC fun _ ht => ht.doStamp
  | .cont ch rd => exact show Answers (execCont ch rd s) from h.freeC fun _ ht => ht.memberReached
  | .tic ch => exact show Answers (execTic ch s) from h.freeC fun _ ht => ht.doTic
  | .branch ch => exact show Answers (execBranch ch s) from h.freeC fun _ ht => ht.doBranch
  | .wait ch => exact show Answers (execWait ch s) from h.freeC fun _ ht => ht.doWait
  | .signal ch => exact show Answers (execSignal ch s) from h.freeC fun _ ht => ht.doSignal
  | .hold ch => exact show Answers (execHold ch s) from h.freeC fun _ ht => ht.doHold
  | .waitTimeout ch now => exact show Answers (execWaitTimeout ch now s) from h.freeCAt fun _ ht => ht.waitExpires
  | .nop ch => exact show Answers (execNop ch s) from h.freeC fun _ ht => ht.doNop
  | .post ch => exact show Answers (execPost ch s) from h.freeC fun _ ht => ht.doPost
  | .holdTargetReached ch now => exact show Answers (execHoldTargetReached ch now s) from h.freeCAt fun _ ht => ht.holdReached
  | .driveCompletion drv cid dw0 status =>
    exact show Answers (execDriveCompletion drv cid dw0 status s) from h.liveC fun _ ht => ht.driveCompletes
  | .nvmeCompletionTimeout ch now => exact show Answers (execNvmeCompletionTimeout ch now s) from h.freeCAt fun _ ht => ht.driveTimesOut
  | .driveCqScan drv qid => exact show Answers (execDriveCqScan drv qid s) from h.freeM fun _ ht => ht.cqScan
  | .bkpIrq m drv data => exact show Answers (execBkpIrq m drv data s) from h.live fun _ ht => ht.writeReg
  | .zeroLengthReadDone ch zone ok => exact show Answers (execZeroLengthReadDone ch zone ok s) from h.freeC fun _ ht => ht.zeroRead
  | .cpWriteResponse ch res => exact show Answers (execCpWriteResponse ch res s) from h.freeC fun _ ht => ht.cpWritten
  | .chnStop m ch => exact show Answers (execChnStop m ch s) from h.liveC fun _ ht => ht.writeReg
  | .chnResume m ch => exact show Answers (execChnResume m ch s) from h.liveC fun _ ht => ht.writeReg
  | .relRetry m ch => exact show Answers (execRelRetry m ch s) from h.liveC fun _ ht => ht.writeReg
  | .relSkipOn m ch rd => exact show Answers (execRelSkipOn m ch rd s) from h.freeC fun _ ht => ht.relSkip
  | .relAbort m ch => exact show Answers (execRelAbort m ch s) from h.liveC fun _ ht => ht.writeReg
  | .loopGuardExhausted ch => exact show Answers (execLoopGuardExhausted ch s) from h.freeC fun _ ht => ht.loopEnd
  | .commandTimeout ch now => exact show Answers (execCommandTimeout ch now s) from h.freeCAt fun _ ht => ht.commandTimeout
  | .graceExhausted ch now => exact show Answers (execGraceExhausted ch now s) from h.freeCAt fun _ ht => ht.graceEnds
  | .moverTaken => exact show Answers (execMoverTaken s) from h.freeC fun _ ht => ht.takeMover
  | .cryptoUnitTaken kind => exact show Answers (execCryptoUnitTaken kind s) from h.freeC fun _ ht => ht.takeUnit
  | .keyFillStart => exact show Answers (execKeyFillStart s) from h.live fun _ ht => ht.unlocked fun _ hu => hu.evictDue.fillStart
  | .keyFillComplete n => exact show Answers (execKeyFillComplete n s) from h.freeC fun _ ht => ht.fillComplete
  | .movGo m mv => exact show Answers (execMovGo m mv s) from h.liveC fun _ ht => ht.writeReg
  | .movCancel m mv => exact show Answers (execMovCancel m mv s) from h.liveC fun _ ht => ht.writeReg
  | .movDropSh m mv => exact show Answers (execMovDropSh m mv s) from h.liveC fun _ ht => ht.writeReg
  | .movRelRetry m mv => exact show Answers (execMovRelRetry m mv s) from h.liveC fun _ ht => ht.writeReg
  | .movRelAbort m mv => exact show Answers (execMovRelAbort m mv s) from h.liveC fun _ ht => ht.writeReg
  | .movCfgWrite m mv acc data => exact show Answers (execMovCfgWrite m mv acc data s) from h.live fun _ ht => ht.writeReg
  | .movModeChange mv => exact show Answers (execMovModeChange mv s) from h.live fun _ ht => ht.unlocked fun _ hu => hu.modeChange
  | .arbGrant seg => exact show Answers (execArbGrant seg s) from h.liveC fun _ ht => ht.arbGrant
  | .tetherRelease n now => exact show Answers (execTetherRelease n now s) from h.freeCAt fun _ ht => ht.tetherRelease
  | .burstReadData mv rd upsets =>
    exact show Answers (execBurstReadData mv rd upsets s) from h.freeC fun _ ht => ht.upset.burstData.retryCredits
  | .burstWriteResponse mv res => exact show Answers (execBurstWriteResponse mv res s) from h.freeC fun _ ht => ht.burstWritten.retryCredits
  | .pageRetired page => exact show Answers (execPageRetired page s) from h.liveC fun _ ht => ht.retirePage
  | .scrubRead seg words upsets =>
    exact show Answers (execScrubRead seg words upsets s) from h.live fun _ ht => Formed.ite (fun _ => ht.upset.scrubStep) fun _ => ht.upset
  | .scrubCatchUp seg now upsets =>
    exact show Answers (execScrubCatchUp seg now upsets s) from
      h.liveAt fun _ ht => Formed.ite (fun _ => ht.upset.scrubStep) fun _ => ht.upset
  | .storeZeroComplete => exact show Answers (Machine.execStoreZeroComplete s) from h.execStoreZeroComplete
  | .arbCommit m => exact show Answers (execArbCommit m s) from h.live fun _ ht => ht.writeReg
  | .arbTetherRead m n acc => exact show Answers (execArbTetherRead m n acc s) from h.live fun _ ht => ht.regRead
  | .carSourceEvent src => exact show Answers (execCarSourceEvent src s) from h.liveC fun _ ht => ht.routeEvent
  | .carFire m chn => exact show Answers (execCarFire m chn s) from h.liveC fun _ ht => ht.writeReg
  | .deferredStrike => exact show Answers (execDeferredStrike s) from h.liveC fun _ ht => ht.deferredStrike
  | .carMergeCntRead m acc => exact show Answers (execCarMergeCntRead m acc s) from h.live fun _ ht => ht.regRead
  | .irqDelivery core =>
    exact show Answers (execIrqDelivery core s) from h.live fun _ ht => Formed.ite (fun _ => ht.commitEntry) fun _ => ht.decideEntryMc
  | .irqLateArrival core => exact show Answers (execIrqLateArrival core s) from h.live fun _ ht => ht.lateArrival
  | .handlerReturn core => exact show Answers (execHandlerReturn core s) from h.live fun _ ht => ht.handlerReturns
  | .ircMcEoi m core src => exact show Answers (execIrcMcEoi m core src s) from h.live fun _ ht => ht.writeReg
  | .ircVcomp m port vec => exact show Answers (execIrcVcomp m port vec s) from h.live fun _ ht => ht.writeReg
  | .msixMessage port => exact show Answers (execMsixMessage port s) from h.live fun _ ht => ht.nextMessage
  | .msixHoldEnd port vec => exact show Answers (execMsixHoldEnd port vec s) from h.live fun _ ht => ht.holdEnds
  | .damperIntervalEnd g now => exact show Answers (execDamperIntervalEnd g now s) from h.liveAt fun _ ht => ht.damperEnd
  | .ircSrcWrite m n acc data => exact show Answers (execIrcSrcWrite m n acc data s) from h.live fun _ ht => ht.writeReg
  | .ircDampRead m g acc => exact show Answers (execIrcDampRead m g acc s) from h.live fun _ ht => ht.regRead
  | .fltErrPop m => exact show Answers (execFltErrPop m s) from h.live fun _ ht => ht.writeReg
  | .fltErrLostRead m acc => exact show Answers (execFltErrLostRead m acc s) from h.live fun _ ht => ht.regRead
  | .fltStaleRead m acc => exact show Answers (execFltStaleRead m acc s) from h.live fun _ ht => ht.regRead
  | .fltTmoCntRead m acc => exact show Answers (execFltTmoCntRead m acc s) from h.live fun _ ht => ht.regRead
  | .linkCe k kind now =>
    exact show Answers (execLinkCe k kind now s) from h.liveCAt fun _ ht => Formed.ite (fun _ => ht.linkCeEvent) fun _ => ht
  | .staleCompletion k idx cause => exact show Answers (execStaleCompletion k idx cause s) from h.live fun _ ht => ht.staleArrives
  | .gctlLockForce m => exact show Answers (execGctlLockForce m s) from h.live fun _ ht => ht.writeReg
  | .lockdownQuiesced => exact show Answers (execLockdownQuiesced s) from h.live fun _ ht => ht.lockQuiesced
  | .pcieCompletionTimeout mv now =>
    exact show Answers (execPcieCompletionTimeout mv now s) from h.freeCAt fun _ ht => ht.readTimesOut.retryCredits
  | .syncReq p f t2 t3 => exact show Answers (execSyncReq p f t2 t3 s) from h.liveAt fun _ ht => ht.fnzRow fun _ _ _ hu => hu.syncServed
  | .syncRsp p f t4 => exact show Answers (Machine.execSyncRsp p f t4 s) from h.execSyncRsp
  | .announce p f now => exact show Answers (execAnnounce p f now s) from h.liveAt fun _ ht => ht.fnzRow fun _ _ _ hu => hu.announceHeard
  | .announcePeriod now => exact show Answers (execAnnouncePeriod now s) from h.liveAt fun _ ht => ht.announces
  | .syncPeriod now => exact show Answers (execSyncPeriod now s) from h.liveAt fun _ ht => ht.syncStarts
  | .parentLoss now => exact show Answers (execParentLoss now s) from h.liveAt fun _ ht => ht.parentLoss
  | .gmSilence now => exact show Answers (execGmSilence now s) from h.liveAt fun _ ht => ht.gmSilence
  | .hello p f => exact show Answers (execHello p f s) from h.live fun _ ht => ht.fnzRow fun _ _ _ hu => hu.helloHeard
  | .challenge p f => exact show Answers (execChallenge p f s) from h.live fun _ ht => ht.fnzRow fun _ _ _ hu => hu.challengeHeard
  | .proof p f => exact show Answers (execProof p f s) from h.live fun _ ht => ht.fnzRow fun _ _ _ hu => hu.proofHeard
  | .grant p f => exact show Answers (execGrant p f s) from h.live fun _ ht => ht.fnzRow fun _ _ _ hu => hu.grantHeard
  | .joinStepTimeout now => exact show Answers (execJoinStepTimeout now s) from h.liveAt fun _ ht => ht.unlocked fun _ hu => hu.joinTimeout
  | .admissionLapse node now => exact show Answers (execAdmissionLapse node now s) from h.liveAt fun _ ht => ht.admissionLapses
  | .attReq p f => exact show Answers (execAttReq p f s) from h.live fun _ ht => ht.fnzRow fun _ _ _ hu => hu.attRequested
  | .attRsp p f => exact show Answers (execAttRsp p f s) from h.liveM fun _ ht => ht.fnzRow fun _ _ _ hu => hu.reportArrives
  | .mbxReq p f => exact show Answers (execMbxReq p f s) from h.live fun _ ht => ht.fnzRow fun _ _ _ hu => hu.mbxRequested
  | .mbxRsp p f => exact show Answers (execMbxRsp p f s) from h.live fun _ ht => ht.fnzRow fun _ _ _ hu => hu.mbxReplied
  | .fnzPortRead m p acc => exact show Answers (execFnzPortRead m p acc s) from h.live fun _ ht => ht.regRead
  | .recRecv p f => exact show Answers (execRecRecv p f s) from h.liveM fun _ ht => ht.fnzRow fun _ _ _ hu => hu.recArrives
  | .recAck p f => exact show Answers (execRecAck p f s) from h.live fun _ ht => ht.fnzRow fun _ _ _ hu => hu.recAcked
  | .relayTimeout xid now =>
    exact show Answers (execRelayTimeout xid now s) from h.liveAt fun _ ht => ht.unlocked fun _ hu => hu.relayExpires
  | .frameForward p f => exact show Answers (execFrameForward p f s) from h.live fun _ ht => ht.fnzReceive fun _ _ _ hu => hu
  | .fnzLoopbackCal p now => exact show Answers (execFnzLoopbackCal p now s) from h.liveAt fun _ ht => ht.loopbackRuns
  | .dlUp k speed width flit => exact show Answers (execDlUp k speed width flit s) from h.liveC fun _ ht => ht.linkComesUp
  | .dlDown k => exact show Answers (execDlDown k s) from h.liveC fun _ ht => ht.linkDown
  | .linkSpeedChange k speed => exact show Answers (execLinkSpeedChange k speed s) from h.live fun _ ht => ht.speedChange
  | .linkWidthChange k width => exact show Answers (execLinkWidthChange k width s) from h.live fun _ ht => ht.widthChange
  | .presenceDetectChange k present =>
    exact show Answers (execPresenceDetectChange k present s) from h.presenceLevel.liveC fun _ ht => ht.presenceChange
  | .errCor k => exact show Answers (execErrCor k s) from h.live fun _ ht => ht.errMessage
  | .errNonfatal k => exact show Answers (execErrNonfatal k s) from h.live fun _ ht => ht.errMessage
  | .errFatal k => exact show Answers (execErrFatal k s) from h.live fun _ ht => ht.errMessage
  | .recoveryEntry k now => exact show Answers (execRecoveryEntry k now s) from h.liveCAt fun _ ht => ht.enterRecovery
  | .recoveryExit k now => exact show Answers (execRecoveryExit k now s) from h.liveCAt fun _ ht => ht.leaveRecovery
  | .lnkRetrain m k => exact show Answers (execLnkRetrain m k s) from h.liveC fun _ ht => ht.writeReg
  | .lnkBifWrite m port split => exact show Answers (execLnkBifWrite m port split s) from h.liveC fun _ ht => ht.writeReg
  | .lnkDisableWrite m k disable => exact show Answers (execLnkDisableWrite m k disable s) from h.liveC fun _ ht => ht.writeReg
  | .lnkEvtRead m k acc => exact show Answers (execLnkEvtRead m k acc s) from h.live fun _ ht => ht.regRead
  | .inboundMemoryRequest m req => exact show Answers (execInboundMemoryRequest m req s) from h.liveC fun _ ht => ht.inbound
  | .configSpaceWrite port w => exact show Answers (execConfigSpaceWrite port w s) from h.live fun _ ht => ht.configWrite.idledNow
  | .functionLevelReset port => exact show Answers (execFunctionLevelReset port s) from h.live fun _ ht => ht.functionReset
  | .hotReset port => exact show Answers (execHotReset port s) from h.live fun _ ht => ht.functionReset
  | .hostPerstAssert port => exact show Answers (execHostPerstAssert port s) from h.perstLevel.liveC fun _ ht => ht.perstFalls
  | .hostPerstDeassert port => exact show Answers (execHostPerstDeassert port s) from h.perstLevel.live fun _ ht => ht.setBit
  | .railsUp offTime => exact show Answers (execRailsUp offTime s) from h.railsRise.nextAside
  | .sysRstAssert => exact show Answers (execSysRstAssert s) from h.rstAssert.nextAside
  | .supervisorTrip rail => exact show Answers (execSupervisorTrip rail s) from h.railTrip.nextAside
  | .sysRstRelease => exact show Answers (execSysRstRelease s) from h.rstRelease.next
  | .gctlRstWarm m => exact show Answers (execGctlRstWarm m s) from h.live fun _ ht => ht.writeReg
  | .vaonLost => exact show Answers (execVaonLost s) from h.vaonFalls.next
  | .vaonReturn => exact show Answers (execVaonReturn s) from h.vaonRises.nextAside
  | .pwrVreqWrite m acc data => exact show Answers (execPwrVreqWrite m acc data s) from h.live fun _ ht => ht.writeReg
  | .pwrVrmWrite m acc data => exact show Answers (execPwrVrmWrite m acc data s) from h.live fun _ ht => ht.writeReg
  | .pmbusTransactionDone ans => exact show Answers (execPmbusTransactionDone ans s) from h.live fun _ ht => ht.pmbusDone
  | .paceRefresh readings now => exact show Answers (Machine.execPaceRefresh readings now s) from h.execPaceRefresh
  | .anaPaceRead m i0 acc => exact show Answers (execAnaPaceRead m i0 acc s) from h.live fun _ ht => ht.regRead
  | .pwrLaneWrite m acc data => exact show Answers (execPwrLaneWrite m acc data s) from h.liveC fun _ ht => ht.writeReg
  | .lanePathSwap lane adapted now => exact show Answers (Machine.execLanePathSwap lane adapted now s) from h.execLanePathSwap
  | .tdcRoleSwap dom now => exact show Answers (execTdcRoleSwap dom now s) from h.liveAt fun _ ht => ht.withAna
  | .backgroundKat ans now => exact show Answers (execBackgroundKat ans now s) from h.liveCAt fun _ ht => ht.bgKat
  | .drbgReseed inst now =>
    exact show Answers (execDrbgReseed inst now s) from h.liveCAt fun _ ht => Formed.ite (fun _ => ht.reseed.drbgResume) fun _ => ht
  | .entropyHealthFail test => exact show Answers (execEntropyHealthFail test s) from h.live fun _ ht => ht.entropyFails
  | .entropyStartupPass => exact show Answers (execEntropyStartupPass s) from h.liveC fun _ ht => ht.entropyPasses.drbgResume
  | .tempSensorRefresh readings now =>
    exact show Answers (execTempSensorRefresh readings now s) from
      h.liveAt fun _ ht => Formed.foldlOf Prod.snd (fun _ _ hx => hx.tempReading) ht
  | .voltSensorRefresh readings now => exact show Answers (execVoltSensorRefresh readings now s) from h.liveAt fun _ ht => ht.voltReadings
  | .tamperDetect src arg =>
    exact show Answers (execTamperDetect src arg s) from
      h.live fun _ ht => Formed.ite (fun _ => Formed.bind ht.senses fun _ _ hu => Formed.ite (fun _ => hu.tamperRuns) fun _ => hu) fun _ => ht
  | .tamperDetectStandby src arg => exact show Answers (Machine.execTamperDetectStandby src arg s) from h.execTamperDetectStandby
  | .tamperSeen src detecting => exact show Answers (Machine.execTamperSeen src detecting s) from h.execTamperSeen
  | .vaultScrub corrected uncorrectable now =>
    exact show Answers (Machine.execVaultScrub corrected uncorrectable now s) from h.execVaultScrub
  | .gpioEdge k level => exact show Answers (execGpioEdge k level s) from h.live fun _ ht => ht.gpioChange
  | .gpioCfgWrite m k acc data => exact show Answers (execGpioCfgWrite m k acc data s) from h.live fun _ ht => ht.writeReg
  | .sidebandRead cmd => exact show Answers (execSidebandRead cmd s) from h.withSide.next
  | .bypass => exact show Answers (execBypass s) from h.tapLoads.next
  | .idcode => exact show Answers (execIdcode s) from h.tapLoads.next
  | .samplePreload pins =>
    exact show Answers (execSamplePreload pins s) from (Formed.ite (fun _ => h.tapLoads.withSide) fun _ => h.tapLoads).next
  | .extest => exact show Answers (execExtest s) from h.tapLoads.next
  | .extestPulse => exact show Answers (execExtestPulse s) from h.tapLoads.next
  | .extestTrain => exact show Answers (execExtestTrain s) from h.tapLoads.next
  | .highz => exact show Answers (execHighz s) from h.tapLoads.next
  | .clamp => exact show Answers (execClamp s) from h.tapLoads.next
  | .referenceLocked now => exact show Answers (execReferenceLocked now s) from h.liveAt fun _ ht => ht.refLocks
  | .p521OperationComplete unit => exact show Answers (execP521OperationComplete unit s) from h.freeC fun _ ht => ht.p521Complete
  | .bkpPerstRelease k now => exact show Answers (execBkpPerstRelease k now s) from h.liveAt fun _ ht => ht.perstReleased
  | .sidebandBusFree => exact show Answers (execSidebandBusFree s) from h.live fun _ ht => ht.withPower
  | .undefinedSnimaCommand c => exact show Answers (execUndefinedSnimaCommand c s) from h.live fun _ ht => ht.undefinedCmd

/-- Settles O31: a step is a command, or nothing. -/
theorem memoryAndFifosKeepTheirForm : Obligations.MemoryAndFifosKeepTheirForm := by
  intro s t err fifo mem stepped
  cases queue : s.pending with
  | nil =>
    obtain rfl := Host.Outcome.next.inj ((step_nil queue).symm.trans stepped)
    exact ⟨err, fifo, mem⟩
  | cons c rest =>
    have front : Formed { s with pending := rest } := ⟨err, fifo, mem⟩
    obtain ⟨u, e, kept⟩ := front.exec c
    obtain rfl := Host.Outcome.next.inj ((e.symm.trans (step_cons c rest queue).symm).trans stepped)
    exact kept

end Sys2Proof.Machine
end
